-- ==== Sys2Proof/Word.lean ====
section
/-! DEFINITION. The words of the two lines: bytes, and the small index types of the spec's tables.
A stand, zone, gauge position and node address is an index of a fixed table. -/

namespace Sys2Proof

/-- One byte of the host line or of the Stand Link. -/
abbrev Byte := BitVec 8

/-- A stand, held as its number less one: stand 1 is `0` and stand 5 is `4`
(spec 00, "Stands, zones and gauge positions"). -/
abbrev Stand := Fin 5

/-- A zone 0 to 5 (spec 00). -/
abbrev Zone := Fin 6

/-- A gauge position: `0` is ENTRY and `k` is AFTER-k (R200). -/
abbrev Gauge := Fin 6

/-- A node address 0 to 14 (R3). -/
abbrev Node := Fin 15

/-- A product index 0 to 15 (R69). -/
abbrev Product := Fin 16

/-- A trip record's source index 0 to 31 (R129). -/
abbrev Source := Fin 32

/-- A millisecond time-base reading, which wraps (R1). -/
abbrev Time := BitVec 32

end Sys2Proof
end

