-- ==== Sys2Proof/Syntax.lean ====
section
/-! DEFINITION. The commands of the block: one constructor of `Instr` per row of
spec/opcode_table.json, with the operands the spec gives its event. Fields of frames keep the width
of their layout (R203, R211). -/

namespace Sys2Proof

/-- The payload fields of Configure Mill (R203). -/
structure MillParams where
  n : Byte
  ql : BitVec 32
  d0 : BitVec 32
  d1 : BitVec 32
  d2 : BitVec 32
  d3 : BitVec 32
  d4 : BitVec 32
  d5 : BitVec 32
  retire : BitVec 32
  biteAllowance : BitVec 32
  breakTension0 : BitVec 16
  entryAddr : Byte
  silenceMs : BitVec 16
  stopConfirm : BitVec 16
  respUs : BitVec 16
  txnLimitUs : BitVec 16
  deriving DecidableEq, Repr

/-- The payload fields of Configure Stand (R203). -/
structure StandParams where
  stand : Byte
  addr : Byte
  gapMin : BitVec 32
  gapMax : BitVec 32
  ffLimit : BitVec 16
  monLimit : BitVec 16
  massFlow : Byte
  mode : Byte
  band : BitVec 16
  maxStep : BitVec 16
  settle : BitVec 16
  moveTimeout : BitVec 16
  openTimeout : BitVec 16
  lead : BitVec 32
  biteForce : BitVec 16
  breakTension : BitVec 16
  deriving DecidableEq, Repr

/-- The payload fields of Configure Gauge (R203). -/
structure GaugeParams where
  position : Byte
  action : Byte
  addr : Byte
  g : BitVec 32
  stdLength : BitVec 32
  weldGuard : BitVec 32
  deriving DecidableEq, Repr

/-- One stand group of Load Product (R203). -/
structure SetupParams where
  hRef : BitVec 16
  sSet : BitVec 32
  kFf : BitVec 16
  kMon : BitVec 16
  deriving DecidableEq, Repr

/-- The payload fields of Load Product (R203). -/
structure ProductParams where
  index : Byte
  code : BitVec 32
  carryTrim : Byte
  hRef : BitVec 16
  s1 : SetupParams
  s2 : SetupParams
  s3 : SetupParams
  s4 : SetupParams
  s5 : SetupParams
  deriving DecidableEq, Repr

/-- A request of the host as its message code and payload spell it (R203). `bad` is a frame whose
code is unknown (reason 0) or whose length does not fit its code (reason 1), with the code (R187). -/
inductive Request where
  | bad (code reason : Byte)
  | status (clear : Byte)
  | readEvents (max : Byte)
  | setAttentionLevel (level : Byte)
  | restart
  | configureMill (p : MillParams)
  | configureStand (p : StandParams)
  | configureGauge (p : GaugeParams)
  | startTracking (product : Byte) (coil : BitVec 32)
  | stopTracking
  | readCells (first : BitVec 48) (count selector : Byte)
  | standardizeGauge (position : Byte)
  | readGauges
  | loadProduct (p : ProductParams)
  | eraseProduct (index : Byte)
  | readProduct (view index : Byte)
  | appendCoil (coil : BitVec 32) (product : Byte)
  | clearCoilList
  | setOffset (stand : Byte) (offset : BitVec 16)
  | resetTrim (selector : Byte)
  | engageStand (stand : Byte)
  | openStand (selector : Byte)
  | readStand (stand : Byte)
  | configureTrip (index cls affected : Byte)
  | tripRequest (reason : BitVec 16)
  | clearTrips
  | readTrips (view first : Byte)
  | resetStandLink
  | readNodes (clear : Byte)
  deriving DecidableEq, Repr

/-- A STAND_REPORT: its payload fields, and the echo of its command number field (R211). -/
structure StandReport where
  echo : Byte
  increment : BitVec 32
  force : BitVec 16
  tension : BitVec 16
  position : BitVec 32
  flags : Byte
  drive : Byte
  deriving DecidableEq, Repr

/-- An ENTRY_REPORT's payload fields (R211). -/
structure EntryReport where
  increment : BitVec 32
  tension : BitVec 16
  flags : Byte
  drive : Byte
  deriving DecidableEq, Repr

/-- A GAUGE_SAMPLE's payload fields (R211). -/
structure GaugeSample where
  status : Byte
  thickness : BitVec 16
  deriving DecidableEq, Repr

/-- A node's frame as the part receives it: the header's four fields, the payload of the length the
header gives, and the check byte; with whether the target field, and every other byte, has good
parity (R169, R210). -/
structure NodeFrame where
  target : Byte
  targetParity : Bool
  kind : Byte
  length : Byte
  command : Byte
  payload : List Byte
  check : Byte
  parity : Bool
  deriving DecidableEq, Repr

/-- The commands of the block, one constructor per row of spec/opcode_table.json. The host requests
stand for the arrival of their whole valid frame with its tag (log entry 2). -/
inductive Instr where
  /-- HOST_BYTE_RECEIVED (R183): a byte, and whether its stop bit was good. -/
  | hostByteReceived (b : Byte) (stopBit : Bool)
  /-- REPLY_SENT (R186). -/
  | replySent
  /-- BAD_FRAME_CODE (R187): a whole frame whose code or length fits no request. -/
  | badFrameCode (tag code : Byte) (payload : List Byte)
  /-- STATUS (R195). -/
  | status (tag clear : Byte)
  /-- READ_EVENTS (R192). -/
  | readEvents (tag max : Byte)
  /-- SET_ATTENTION_LEVEL (R193). -/
  | setAttentionLevel (tag level : Byte)
  /-- RESTART (R196). -/
  | restart (tag : Byte)
  /-- CONFIGURE_MILL (R5). -/
  | configureMill (tag : Byte) (p : MillParams)
  /-- CONFIGURE_STAND (R9). -/
  | configureStand (tag : Byte) (p : StandParams)
  /-- CONFIGURE_GAUGE (R13). -/
  | configureGauge (tag : Byte) (p : GaugeParams)
  /-- START_TRACKING (R40). -/
  | startTracking (tag product : Byte) (coil : BitVec 32)
  /-- STOP_TRACKING (R41). -/
  | stopTracking (tag : Byte)
  /-- READ_CELLS (R42). -/
  | readCells (tag : Byte) (first : BitVec 48) (count selector : Byte)
  /-- STANDARDIZE_GAUGE (R65). -/
  | standardizeGauge (tag position : Byte)
  /-- READ_GAUGES (R66). -/
  | readGauges (tag : Byte)
  /-- LOAD_PRODUCT (R72). -/
  | loadProduct (tag : Byte) (p : ProductParams)
  /-- ERASE_PRODUCT (R73). -/
  | eraseProduct (tag index : Byte)
  /-- READ_PRODUCT (R74). -/
  | readProduct (tag view index : Byte)
  /-- APPEND_COIL (R76). -/
  | appendCoil (tag : Byte) (coil : BitVec 32) (product : Byte)
  /-- CLEAR_COIL_LIST (R77). -/
  | clearCoilList (tag : Byte)
  /-- SET_OFFSET (R101). -/
  | setOffset (tag stand : Byte) (offset : BitVec 16)
  /-- RESET_TRIM (R102). -/
  | resetTrim (tag selector : Byte)
  /-- ENGAGE_STAND (R111). -/
  | engageStand (tag stand : Byte)
  /-- OPEN_STAND (R125). -/
  | openStand (tag selector : Byte)
  /-- READ_STAND (R126). -/
  | readStand (tag stand : Byte)
  /-- CONFIGURE_TRIP (R147). -/
  | configureTrip (tag index cls affected : Byte)
  /-- TRIP_REQUEST (R145). -/
  | tripRequest (tag : Byte) (reason : BitVec 16)
  /-- CLEAR_TRIPS (R149). -/
  | clearTrips (tag : Byte)
  /-- READ_TRIPS (R150). -/
  | readTrips (tag view first : Byte)
  /-- RESET_STAND_LINK (R177). -/
  | resetStandLink (tag : Byte)
  /-- READ_NODES (R179). -/
  | readNodes (tag clear : Byte)
  /-- RESET_ASSERTED (R197). -/
  | resetAsserted
  /-- RESET_RELEASED (R197). -/
  | resetReleased
  /-- TIME_BASE_TICK (R1). -/
  | timeBaseTick
  /-- ESTOP_LINE_CHANGE (R140): the line, and whether its new level is low (pressed). -/
  | estopLineChange (line : Fin 8) (low : Bool)
  /-- SETTLE_TIMER_EXPIRY (R115). -/
  | settleTimerExpiry (stand : Stand)
  /-- MOVE_TIMER_EXPIRY (R119). -/
  | moveTimerExpiry (stand : Stand)
  /-- OPEN_TIMER_EXPIRY (R124). -/
  | openTimerExpiry (stand : Stand)
  /-- STOP_CONFIRM_EXPIRY (R136). -/
  | stopConfirmExpiry
  /-- NODE_SILENCE (R158). -/
  | nodeSilence (node : Node)
  /-- RESPONSE_TIMEOUT (R164): the µs since the check byte of the part's transaction. -/
  | responseTimeout (elapsedUs : Nat)
  /-- STUCK_LINK_DETECTED (R175): the µs for which another party has asserted HOLD. -/
  | stuckLinkDetected (heldUs : Nat)
  /-- LINK_RESET_PULSE_END (R176). -/
  | linkResetPulseEnd
  /-- ARBITRATION_OPPORTUNITY (R161). -/
  | arbitrationOpportunity
  /-- ARBITRATION_WON (R168): whether a node contended as well. -/
  | arbitrationWon (nodeContended : Bool)
  /-- NODE_WINS_ARBITRATION (R161): the class and address of the winner's arbitration byte. -/
  | nodeWinsArbitration (urgent : Bool) (address : BitVec 4)
  /-- HOLD_RELEASED (R154). -/
  | holdReleased
  /-- TXN_FRAME_SENT (R164). -/
  | txnFrameSent
  /-- STOP_BROADCAST_SENT (R165). -/
  | stopBroadcastSent
  /-- RESPONSE_BYTE_RECEIVED (R164): the byte, and whether its parity was good. -/
  | responseByteReceived (b : Byte) (parity : Bool)
  /-- NODE_FRAME_REFUSED (R169): a node's frame as received. -/
  | nodeFrameRefused (f : NodeFrame)
  /-- STAND_REPORT (R171): a well-formed STAND_REPORT frame. -/
  | standReport (r : StandReport)
  /-- ENTRY_REPORT (R172): a well-formed ENTRY_REPORT frame. -/
  | entryReport (r : EntryReport)
  /-- GAUGE_SAMPLE (R47): a well-formed GAUGE_SAMPLE frame. -/
  | gaugeSample (r : GaugeSample)
  /-- POWER_LOSS (R139). -/
  | powerLoss
  deriving DecidableEq, Repr

end Sys2Proof
end

