-- ==== Sys2Proof/Decode.lean ====
section
/-! DEFINITION. The commands that a word of spec/opcode_table.json spells. The table gives its rows no
bits: the commands are events of the lines and of time, so no word spells one. -/

namespace Sys2Proof

/-- The command a word of the table's bits spells: none, as no row of the table gives bits. -/
def decodeTableWord (_nbits _w : Nat) : Option Instr := none

end Sys2Proof
end

