-- ==== Sys2Proof/Config.lean ====
section
/-! DEFINITION. What the spec leaves open as a value: opaque constants with no body, so that a
statement about them holds for every value. -/

namespace Sys2Proof

/-- The four serial rates the strap pins choose among (spec 00, outside lines). -/
inductive SerialRate where
  | bps115200
  | bps460800
  | bps921600
  | bps1843200
  deriving DecidableEq, Repr, Inhabited

/-- Which rate each code of the two strap pins selects: the spec names the four rates and the two
pins (spec 00, R182, R197) and not the pairing. Log entry 6. DESIGN CHOICE: free. -/
opaque Config.serialRate : BitVec 2 → SerialRate

/-- The level of ATTN while the part has no supply: the spec gives MSTOP's (R139) and not ATTN's.
Log entry 8. DESIGN CHOICE: free. -/
opaque Config.unpoweredAttn : Bool

end Sys2Proof
end

