-- ==== Sys2Proof/Machine/Operands.lean ====
section
/-! DEFINITION. The layouts of chapter 10: numbers in bytes, host frames, request payloads, node
frames and the two CRCs, each written and read here once. -/

namespace Sys2Proof.Machine

/-! ### Numbers in bytes (R199) -/

/-- The `w` bytes of `v`, most significant first (R199). -/
def be : Nat → Nat → List Byte
  | 0, _ => []
  | w + 1, v => BitVec.ofNat 8 (v / 256 ^ w) :: be w v

/-- The number a run of bytes spells, most significant first (R199). -/
def natOf (bs : List Byte) : Nat :=
  bs.foldl (fun acc b => acc * 256 + b.toNat) 0

/-- An unsigned field of `w` bytes, shown saturated (R199). -/
def beSat (w v : Nat) : List Byte :=
  be w (min v (256 ^ w - 1))

/-- A signed field of `w` bytes in two's complement, shown saturated (R199). -/
def beInt (w : Nat) (v : Int) : List Byte :=
  let half : Int := 256 ^ w / 2
  let c := if v < -half then -half else if half - 1 < v then half - 1 else v
  be w (c % (256 ^ w : Int)).toNat

/-- A flag as a number, to be weighed into a flag byte. -/
def bit (b : Bool) (weight : Nat) : Nat :=
  if b then weight else 0

/-- The field of `w` bytes at offset `o` of a payload (R199: fields at fixed offsets). -/
def field (p : List Byte) (o w : Nat) : Nat :=
  natOf ((p.drop o).take w)

/-- A one-byte field. -/
def u8 (p : List Byte) (o : Nat) : Byte := BitVec.ofNat 8 (field p o 1)

/-- A two-byte field. -/
def u16 (p : List Byte) (o : Nat) : BitVec 16 := BitVec.ofNat 16 (field p o 2)

/-- A four-byte field. -/
def u32 (p : List Byte) (o : Nat) : BitVec 32 := BitVec.ofNat 32 (field p o 4)

/-- A six-byte field. -/
def u48 (p : List Byte) (o : Nat) : BitVec 48 := BitVec.ofNat 48 (field p o 6)

/-! ### Requests and their payloads (R203) -/

/-- The message code of a request (R203); a bad frame keeps the code it came with. -/
def requestCode : Request → Byte
  | .bad code _ => code
  | .status _ => 0x10
  | .readEvents _ => 0x11
  | .setAttentionLevel _ => 0x12
  | .restart => 0x13
  | .configureMill _ => 0x20
  | .configureStand _ => 0x21
  | .configureGauge _ => 0x22
  | .startTracking _ _ => 0x30
  | .stopTracking => 0x31
  | .readCells _ _ _ => 0x32
  | .standardizeGauge _ => 0x38
  | .readGauges => 0x39
  | .loadProduct _ => 0x40
  | .eraseProduct _ => 0x41
  | .readProduct _ _ => 0x42
  | .appendCoil _ _ => 0x43
  | .clearCoilList => 0x44
  | .setOffset _ _ => 0x50
  | .resetTrim _ => 0x51
  | .engageStand _ => 0x58
  | .openStand _ => 0x59
  | .readStand _ => 0x5A
  | .configureTrip _ _ _ => 0x60
  | .tripRequest _ => 0x61
  | .clearTrips => 0x62
  | .readTrips _ _ => 0x63
  | .resetStandLink => 0x70
  | .readNodes _ => 0x71

/-- The payload length each message code fixes, none for an unknown code (R203). -/
def payloadLength (code : Byte) : Option Nat :=
  match code.toNat with
  | 0x10 => some 1
  | 0x11 => some 1
  | 0x12 => some 1
  | 0x13 => some 0
  | 0x20 => some 48
  | 0x21 => some 34
  | 0x22 => some 15
  | 0x30 => some 5
  | 0x31 => some 0
  | 0x32 => some 8
  | 0x38 => some 1
  | 0x39 => some 0
  | 0x40 => some 58
  | 0x41 => some 1
  | 0x42 => some 2
  | 0x43 => some 5
  | 0x44 => some 0
  | 0x50 => some 3
  | 0x51 => some 1
  | 0x58 => some 1
  | 0x59 => some 1
  | 0x5A => some 1
  | 0x60 => some 3
  | 0x61 => some 2
  | 0x62 => some 0
  | 0x63 => some 2
  | 0x70 => some 0
  | 0x71 => some 1
  | _ => none

/-- Configure Mill's payload, field by field at the offsets of R203. -/
def millOf (p : List Byte) : MillParams :=
  { n := u8 p 0, ql := u32 p 1, d0 := u32 p 5, d1 := u32 p 9, d2 := u32 p 13, d3 := u32 p 17,
    d4 := u32 p 21, d5 := u32 p 25, retire := u32 p 29, biteAllowance := u32 p 33,
    breakTension0 := u16 p 37, entryAddr := u8 p 39, silenceMs := u16 p 40,
    stopConfirm := u16 p 42, respUs := u16 p 44, txnLimitUs := u16 p 46 }

/-- Configure Stand's payload (R203). -/
def standOf (p : List Byte) : StandParams :=
  { stand := u8 p 0, addr := u8 p 1, gapMin := u32 p 2, gapMax := u32 p 6, ffLimit := u16 p 10,
    monLimit := u16 p 12, massFlow := u8 p 14, mode := u8 p 15, band := u16 p 16,
    maxStep := u16 p 18, settle := u16 p 20, moveTimeout := u16 p 22, openTimeout := u16 p 24,
    lead := u32 p 26, biteForce := u16 p 30, breakTension := u16 p 32 }

/-- Configure Gauge's payload (R203). -/
def gaugeOf (p : List Byte) : GaugeParams :=
  { position := u8 p 0, action := u8 p 1, addr := u8 p 2, g := u32 p 3, stdLength := u32 p 7,
    weldGuard := u32 p 11 }

/-- One stand group of Load Product at its offset (R203). -/
def setupOf (p : List Byte) (o : Nat) : SetupParams :=
  { hRef := u16 p o, sSet := u32 p (o + 2), kFf := u16 p (o + 6), kMon := u16 p (o + 8) }

/-- Load Product's payload (R203). -/
def productOf (p : List Byte) : ProductParams :=
  { index := u8 p 0, code := u32 p 1, carryTrim := u8 p 5, hRef := u16 p 6, s1 := setupOf p 8,
    s2 := setupOf p 18, s3 := setupOf p 28, s4 := setupOf p 38, s5 := setupOf p 48 }

/-- The request a code and a payload of that code's length spell (R203). -/
def requestOf (code : Byte) (p : List Byte) : Request :=
  match code.toNat with
  | 0x10 => .status (u8 p 0)
  | 0x11 => .readEvents (u8 p 0)
  | 0x12 => .setAttentionLevel (u8 p 0)
  | 0x13 => .restart
  | 0x20 => .configureMill (millOf p)
  | 0x21 => .configureStand (standOf p)
  | 0x22 => .configureGauge (gaugeOf p)
  | 0x30 => .startTracking (u8 p 0) (u32 p 1)
  | 0x31 => .stopTracking
  | 0x32 => .readCells (u48 p 0) (u8 p 6) (u8 p 7)
  | 0x38 => .standardizeGauge (u8 p 0)
  | 0x39 => .readGauges
  | 0x40 => .loadProduct (productOf p)
  | 0x41 => .eraseProduct (u8 p 0)
  | 0x42 => .readProduct (u8 p 0) (u8 p 1)
  | 0x43 => .appendCoil (u32 p 0) (u8 p 4)
  | 0x44 => .clearCoilList
  | 0x50 => .setOffset (u8 p 0) (u16 p 1)
  | 0x51 => .resetTrim (u8 p 0)
  | 0x58 => .engageStand (u8 p 0)
  | 0x59 => .openStand (u8 p 0)
  | 0x5A => .readStand (u8 p 0)
  | 0x60 => .configureTrip (u8 p 0) (u8 p 1) (u8 p 2)
  | 0x61 => .tripRequest (u16 p 0)
  | 0x62 => .clearTrips
  | 0x63 => .readTrips (u8 p 0) (u8 p 1)
  | 0x70 => .resetStandLink
  | 0x71 => .readNodes (u8 p 0)
  | _ => .bad code 0

/-- What a frame's code and payload ask (R187): an unknown code is reason 0, a length that does not
fit the code is reason 1. -/
def parseRequest (code : Byte) (p : List Byte) : Request :=
  match payloadLength code with
  | none => .bad code 0
  | some l => if p.length = l then requestOf code p else .bad code 1

/-- Configure Mill's payload as sent (R203). -/
def millBytes (m : MillParams) : List Byte :=
  [m.n] ++ be 4 m.ql.toNat ++ be 4 m.d0.toNat ++ be 4 m.d1.toNat ++ be 4 m.d2.toNat ++
  be 4 m.d3.toNat ++ be 4 m.d4.toNat ++ be 4 m.d5.toNat ++ be 4 m.retire.toNat ++
  be 4 m.biteAllowance.toNat ++ be 2 m.breakTension0.toNat ++ [m.entryAddr] ++
  be 2 m.silenceMs.toNat ++ be 2 m.stopConfirm.toNat ++ be 2 m.respUs.toNat ++
  be 2 m.txnLimitUs.toNat

/-- Configure Stand's payload as sent (R203). -/
def standBytes (m : StandParams) : List Byte :=
  [m.stand, m.addr] ++ be 4 m.gapMin.toNat ++ be 4 m.gapMax.toNat ++ be 2 m.ffLimit.toNat ++
  be 2 m.monLimit.toNat ++ [m.massFlow, m.mode] ++ be 2 m.band.toNat ++ be 2 m.maxStep.toNat ++
  be 2 m.settle.toNat ++ be 2 m.moveTimeout.toNat ++ be 2 m.openTimeout.toNat ++
  be 4 m.lead.toNat ++ be 2 m.biteForce.toNat ++ be 2 m.breakTension.toNat

/-- One stand group of Load Product as sent (R203). -/
def setupBytes (m : SetupParams) : List Byte :=
  be 2 m.hRef.toNat ++ be 4 m.sSet.toNat ++ be 2 m.kFf.toNat ++ be 2 m.kMon.toNat

/-- Load Product's payload as sent (R203). -/
def productBytes (m : ProductParams) : List Byte :=
  [m.index] ++ be 4 m.code.toNat ++ [m.carryTrim] ++ be 2 m.hRef.toNat ++ setupBytes m.s1 ++
  setupBytes m.s2 ++ setupBytes m.s3 ++ setupBytes m.s4 ++ setupBytes m.s5

/-- The payload a host sends for a request (R203). A bad frame has no payload of its own. -/
def requestPayload : Request → List Byte
  | .bad _ _ => []
  | .status c => [c]
  | .readEvents m => [m]
  | .setAttentionLevel l => [l]
  | .restart => []
  | .configureMill m => millBytes m
  | .configureStand m => standBytes m
  | .configureGauge m =>
    [m.position, m.action, m.addr] ++ be 4 m.g.toNat ++ be 4 m.stdLength.toNat ++
    be 4 m.weldGuard.toNat
  | .startTracking p c => [p] ++ be 4 c.toNat
  | .stopTracking => []
  | .readCells f c s => be 6 f.toNat ++ [c, s]
  | .standardizeGauge p => [p]
  | .readGauges => []
  | .loadProduct m => productBytes m
  | .eraseProduct i => [i]
  | .readProduct v i => [v, i]
  | .appendCoil c p => be 4 c.toNat ++ [p]
  | .clearCoilList => []
  | .setOffset s o => [s] ++ be 2 o.toNat
  | .resetTrim s => [s]
  | .engageStand s => [s]
  | .openStand s => [s]
  | .readStand s => [s]
  | .configureTrip i c a => [i, c, a]
  | .tripRequest r => be 2 r.toNat
  | .clearTrips => []
  | .readTrips v f => [v, f]
  | .resetStandLink => []
  | .readNodes c => [c]

/-! ### Host frames on the line (R182, R201, R202) -/

/-- One shift of the CRC-16 register (R201). -/
def crc16Shift (r : BitVec 16) : BitVec 16 :=
  if r.msb then (r <<< 1) ^^^ 0x1021 else r <<< 1

/-- The CRC-16 register after one byte (R201). -/
def crc16Byte (r : BitVec 16) (b : Byte) : BitVec 16 :=
  let r0 := r ^^^ (b ++ (0 : Byte))
  crc16Shift (crc16Shift (crc16Shift (crc16Shift
    (crc16Shift (crc16Shift (crc16Shift (crc16Shift r0)))))))

/-- The CRC-16 of a host frame's contents (R201). -/
def crc16 (bs : List Byte) : BitVec 16 :=
  bs.foldl crc16Byte 0xFFFF

/-- One content byte as sent: 0xC3 and 0x9D are escaped (R182). -/
def escapeByte (b : Byte) : List Byte :=
  if b = 0xC3 ∨ b = 0x9D then [0x9D, b ^^^ 0x5A] else [b]

/-- A frame's contents with its CRC, before escaping (R202). -/
def frameContents (kind tag code : Byte) (payload : List Byte) : List Byte :=
  let head := [kind, tag, code, BitVec.ofNat 8 payload.length] ++ payload
  head ++ be 2 (crc16 head).toNat

/-- A frame on the line: the start byte and the escaped contents (R182). -/
def frameLine (kind tag code : Byte) (payload : List Byte) : List Byte :=
  0xC3 :: (frameContents kind tag code payload).flatMap escapeByte

/-- The bytes a host puts on the line for a request with a tag (R182, R203). -/
def requestLine (tag : Byte) (r : Request) : List Byte :=
  frameLine 0x01 tag (requestCode r) (requestPayload r)

/-! ### Stand Link frames (R210, R211) -/

/-- One shift of the CRC-8 register (R210). -/
def crc8Shift (r : Byte) : Byte :=
  if r.msb then (r <<< 1) ^^^ 0x07 else r <<< 1

/-- The CRC-8 register after one byte (R210). -/
def crc8Byte (r b : Byte) : Byte :=
  crc8Shift (crc8Shift (crc8Shift (crc8Shift
    (crc8Shift (crc8Shift (crc8Shift (crc8Shift (r ^^^ b))))))))

/-- The check byte over a header and payload (R210). -/
def crc8 (bs : List Byte) : Byte :=
  bs.foldl crc8Byte 0

/-- The number of 1 bits among the first `n` bits of a byte. -/
def onesBelow (b : Byte) : Nat → Nat
  | 0 => 0
  | n + 1 => onesBelow b n + bit (b.getLsbD n) 1

/-- The parity bit that makes the count of 1 bits among the nine odd (R210). -/
def oddParity (b : Byte) : Bool :=
  onesBelow b 8 % 2 == 0

/-- The eight data bits of a byte, least significant first (R210). -/
def lsbFirst (b : Byte) : List Bool :=
  (List.range 8).map fun k => b.getLsbD k

/-- The eight data bits of a byte, most significant first (R210). -/
def msbFirst (b : Byte) : List Bool :=
  (lsbFirst b).reverse

/-- A byte on the data pair, other than an arbitration byte: its data bits least significant first, then
the parity bit (R210). -/
def pairByte (b : Byte) : List Bool :=
  lsbFirst b ++ [oddParity b]

/-- An arbitration byte on the data pair: its data bits most significant first, and the parity bit from the
winner alone (R210). -/
def pairArbitration (b : Byte) (won : Bool) : List Bool :=
  msbFirst b ++ (if won then [oddParity b] else [])

/-- What the data pair reads while contenders drive their bits at once (R210): at each bit a driven 1
overrides a 0, and a contender that drives 0 where the pair reads 1 stops driving. -/
def contest : Nat → List (List Bool) → List Bool
  | 0, _ => []
  | n + 1, cs =>
    let level := cs.any fun c => c.headD false
    level :: contest n ((cs.filter fun c => c.headD false == level).map List.tail)

/-- The arbitration byte: the class in bit 4, the address in bits 3 to 0 (R210). -/
def arbitrationByte (urgent : Bool) (address : BitVec 4) : Byte :=
  BitVec.ofNat 8 (bit urgent 16 + address.toNat)

/-- The four response bytes (R210). -/
inductive Answer where
  | accept
  | reject
  | busy
  | checkError
  deriving DecidableEq, Repr

/-- The value of a response byte (R210). -/
def answerByte : Answer → Byte
  | .accept => 0xA5
  | .reject => 0x5A
  | .busy => 0x3C
  | .checkError => 0xE1

/-- The answer a response byte stands for, none for any other value (R210). -/
def answerOf (b : Byte) : Option Answer :=
  if b = 0xA5 then some .accept
  else if b = 0x5A then some .reject
  else if b = 0x3C then some .busy
  else if b = 0xE1 then some .checkError
  else none

/-- The header and payload over which a node frame's check byte is formed (R210). -/
def nodeFrameBody (f : NodeFrame) : List Byte :=
  [f.target, f.kind, f.length, f.command] ++ f.payload

/-- The STAND_REPORT a payload spells (R211). -/
def standReportOf (echo : Byte) (p : List Byte) : StandReport :=
  { echo := echo, increment := u32 p 0, force := u16 p 4, tension := u16 p 6,
    position := u32 p 8, flags := u8 p 12, drive := u8 p 13 }

/-- The ENTRY_REPORT a payload spells (R211). -/
def entryReportOf (p : List Byte) : EntryReport :=
  { increment := u32 p 0, tension := u16 p 4, flags := u8 p 6, drive := u8 p 7 }

/-- The GAUGE_SAMPLE a payload spells (R211). -/
def gaugeSampleOf (p : List Byte) : GaugeSample :=
  { status := u8 p 0, thickness := u16 p 1 }

/-- A well-formed node frame for the part: target 15, good parity, matching check byte (R211). -/
def goodFrame (kind command : Byte) (payload : List Byte) : NodeFrame :=
  let f : NodeFrame :=
    { target := 0x0F, targetParity := true, kind := kind,
      length := BitVec.ofNat 8 payload.length, command := command, payload := payload,
      check := 0, parity := true }
  { f with check := crc8 (nodeFrameBody f) }

/-- The frame of a STAND_REPORT (R211). -/
def standReportFrame (r : StandReport) : NodeFrame :=
  goodFrame 0x61 r.echo
    (be 4 r.increment.toNat ++ be 2 r.force.toNat ++ be 2 r.tension.toNat ++
      be 4 r.position.toNat ++ [r.flags, r.drive])

/-- The frame of an ENTRY_REPORT; its command number field is not read (R211). -/
def entryReportFrame (r : EntryReport) : NodeFrame :=
  goodFrame 0x62 0 (be 4 r.increment.toNat ++ be 2 r.tension.toNat ++ [r.flags, r.drive])

/-- The frame of a GAUGE_SAMPLE; its command number field is not read (R211). -/
def gaugeSampleFrame (r : GaugeSample) : NodeFrame :=
  goodFrame 0x63 0 ([r.status] ++ be 2 r.thickness.toNat)

/-- The stand report shows in position (R211, flags bit 0). -/
def reportInPosition (r : StandReport) : Bool := r.flags.getLsbD 0

/-- The stand report shows open (R211, flags bit 1). -/
def reportOpen (r : StandReport) : Bool := r.flags.getLsbD 1

/-- The stand report shows LOCAL (R211, flags bit 2). -/
def reportLocal (r : StandReport) : Bool := r.flags.getLsbD 2

/-- The entry report carries a weld indication (R211, flags bit 0). -/
def reportWeld (r : EntryReport) : Bool := r.flags.getLsbD 0

end Sys2Proof.Machine
end

