-- ==== Sys2Proof/Machine/State.lean ====
section
/-! DEFINITION. The state of the TC540: every register, queue, counter, timer, flag and slot the spec
gives the part, as plain data, with its reset value; and the machine right after reset. A value that
the spec derives from others (MSTOP, ATTN, reference counts, work slots) is computed in Flags.lean
from its one home here. -/

namespace Sys2Proof.Machine

/-! ### Configuration (chapter 1) -/

/-- The mill record (R2). -/
structure MillRecord where
  configured : Bool
  n : Nat
  ql : Nat
  dist : Vector Nat 6
  retire : Nat
  biteAllowance : Nat
  breakTension0 : Nat
  entryAddr : Option Node
  silenceMs : Nat
  stopConfirm : Nat
  respUs : Nat
  txnLimitUs : Nat
  deriving DecidableEq, Repr

/-- The mill record's reset values (R2). -/
def millReset : MillRecord :=
  { configured := false, n := 0, ql := 0, dist := Vector.replicate 6 0, retire := 0,
    biteAllowance := 0, breakTension0 := 0, entryAddr := none, silenceMs := 0, stopConfirm := 0,
    respUs := 0, txnLimitUs := 0 }

/-- Positioning mode (R8). -/
inductive PosMode where
  | direct
  | band
  deriving DecidableEq, Repr

/-- A stand record (R8). -/
structure StandRecord where
  configured : Bool
  addr : Option Node
  gapMin : Int
  gapMax : Int
  ffLimit : Nat
  monLimit : Nat
  massFlow : Bool
  mode : PosMode
  band : Nat
  maxStep : Nat
  settle : Nat
  moveTimeout : Nat
  openTimeout : Nat
  lead : Nat
  biteForce : Nat
  breakTension : Nat
  deriving DecidableEq, Repr

/-- A stand record's reset values (R8). -/
def standReset : StandRecord :=
  { configured := false, addr := none, gapMin := 0, gapMax := 0, ffLimit := 0, monLimit := 0,
    massFlow := false, mode := .direct, band := 0, maxStep := 0, settle := 0, moveTimeout := 0,
    openTimeout := 0, lead := 0, biteForce := 0, breakTension := 0 }

/-! ### Tracking Unit (chapter 2) -/

/-- Tracking state (R17). -/
inductive TrackMode where
  | stopped
  | threading
  | running
  deriving DecidableEq, Repr

/-- A mass-flow thickness with its saturated mark (R54). -/
structure MassFlow where
  value : Nat
  saturated : Bool
  deriving DecidableEq, Repr

/-- One entry of a cell's stand list (R28). -/
structure StandEntry where
  stamp : Nat
  ff : Int
  sum : Nat
  count : Nat
  hm : Option Nat
  hf : Option MassFlow
  monUsed : Bool
  deriving DecidableEq, Repr

/-- A cell's entry measurement: H0 and V, present when the cell is flagged entry-measured (R22). -/
structure EntryMeasure where
  h0 : Nat
  v : Nat
  deriving DecidableEq, Repr

/-- A cell of the tracking queue (R27). `measured` is the entry-measured flag with H0 and V;
`entries` is the stand list, stand 1 first; `approach` is the approach stand, 0 for none. -/
structure Cell where
  serial : Nat
  coil : BitVec 32
  product : Product
  headEnd : Bool
  weld : Bool
  measured : Option EntryMeasure
  extended : Bool
  e0 : Nat
  l0 : Nat
  approach : Nat
  entries : List StandEntry
  deriving DecidableEq, Repr

/-- A pending weld (R24). -/
structure PendingWeld where
  stamp : Nat
  coil : BitVec 32
  product : Product
  sum : Nat
  count : Nat
  deriving DecidableEq, Repr

/-- The forming cell (R21). -/
structure FormingCell where
  stamp : Nat
  coil : BitVec 32
  product : Product
  headEnd : Bool
  weld : Bool
  extended : Bool
  sum : Nat
  count : Nat
  pendingWeld : Option PendingWeld
  deriving DecidableEq, Repr

/-- The Tracking Unit's state (R17, R18, R21, R25, R26, R32). The queue is oldest first. -/
structure Track where
  mode : TrackMode
  odo : Vector Nat 6
  forming : Option FormingCell
  queue : List Cell
  nextSerial : Nat
  cobble : Option Stand
  poolFull : Bool
  deriving DecidableEq, Repr

/-- The Tracking Unit after reset (R44). -/
def trackReset : Track :=
  { mode := .stopped, odo := Vector.replicate 6 0, forming := none, queue := [], nextSerial := 1,
    cobble := none, poolFull := false }

/-! ### Gauge Measurement Unit (chapter 3) -/

/-- Gauge state (R46). -/
inductive GaugeMode where
  | absent
  | measuring
  | standardizing
  | fault
  deriving DecidableEq, Repr

/-- Standardisation phase (R45). -/
inductive StdPhase where
  | none
  | waiting
  | placed
  | accepted
  | running
  deriving DecidableEq, Repr

/-- Pending source of a standardisation (R58). -/
inductive StdSource where
  | none
  | length
  | host
  deriving DecidableEq, Repr

/-- A gauge record: configuration part (R12) and operating part (R45). `inFlight` is set while the
STANDARDIZE in the gauge's slot is the item on the link (R61, R62, R167). The pending flag of R45
is set while `phase` is other than NONE. -/
structure GaugeRecord where
  installed : Bool
  addr : Option Node
  g : Nat
  stdLength : Nat
  weldGuard : Nat
  mode : GaugeMode
  length : Nat
  phase : StdPhase
  source : StdSource
  holdOff : Bool
  overdue : Bool
  discarded : Nat
  inFlight : Bool
  deriving DecidableEq, Repr

/-- A gauge record's reset values (R12, R45). -/
def gaugeReset : GaugeRecord :=
  { installed := false, addr := none, g := 0, stdLength := 0, weldGuard := 0, mode := .absent,
    length := 0, phase := .none, source := .none, holdOff := false, overdue := false,
    discarded := 0, inFlight := false }

/-! ### Product Store (chapter 4) -/

/-- A product table entry's values and whether it is loaded (R69). -/
structure ProductEntry where
  loaded : Bool
  code : BitVec 32
  carryTrim : Bool
  hRef : Nat
  hExit : Vector Nat 5
  sSet : Vector Int 5
  kFf : Vector Nat 5
  kMon : Vector Nat 5
  deriving DecidableEq, Repr

/-- An EMPTY entry with its reset values (R69). -/
def productReset : ProductEntry :=
  { loaded := false, code := 0, carryTrim := false, hRef := 0, hExit := Vector.replicate 5 0,
    sSet := Vector.replicate 5 0, kFf := Vector.replicate 5 0, kMon := Vector.replicate 5 0 }

/-- A coil list entry (R75). -/
structure Coil where
  id : BitVec 32
  product : Product
  deriving DecidableEq, Repr

/-- The Product Store's state (R69, R75, R80, R81). The coil list is head first. -/
structure Store where
  table : Vector ProductEntry 16
  coils : List Coil
  threading : Option Product
  active : Vector (Option Product) 5
  deriving DecidableEq, Repr

/-- The Product Store after reset (R85). -/
def storeReset : Store :=
  { table := Vector.replicate 16 productReset, coils := [], threading := none,
    active := Vector.replicate 5 none }

/-! ### Gap Demand Unit (chapter 5) -/

/-- A stand's demand with its unclamped sum (R89). -/
structure DemandValue where
  value : Int
  sum : Int
  deriving DecidableEq, Repr

/-- The Gap Demand Unit's fields of one stand (R87). `freeze` is the freeze serial; the monitor is
frozen while it is present (R97, R98). -/
structure DemandState where
  ff : Int
  trim : Int
  offset : Int
  freeze : Option Nat
  demand : Option DemandValue
  limited : Bool
  deriving DecidableEq, Repr

/-- The Gap Demand Unit's fields after reset (R104). -/
def demandReset : DemandState :=
  { ff := 0, trim := 0, offset := 0, freeze := none, demand := none, limited := false }

/-! ### Positioning Sequencer (chapter 6) -/

/-- Actuator state (R105). -/
inductive ActState where
  | open_
  | travel
  | settle
  | hold
  | opening
  | openFailed
  | released
  deriving DecidableEq, Repr

/-- A gap command with what it carries (chapter 6). -/
inductive GapCommand where
  | travel (position : Int)
  | trim (value : Int)
  | open_
  deriving DecidableEq, Repr

/-- Phase of a stand's current work (R108). -/
inductive WorkPhase where
  | queued
  | inFlight
  | moving
  deriving DecidableEq, Repr

/-- A stand's current work (R108). -/
structure Work where
  cmd : GapCommand
  number : Byte
  phase : WorkPhase
  deriving DecidableEq, Repr

/-- A running millisecond timer: the time base at its start, and its load. Log entry 4. -/
structure Timer where
  start : Time
  load : Nat
  deriving DecidableEq, Repr

/-- The Positioning Sequencer's fields of one stand (R105). -/
structure Actuator where
  state : ActState
  c : Int
  p : Int
  t : Option Int
  number : Byte
  work : Option Work
  reported : Option Int
  settleT : Option Timer
  moveT : Option Timer
  openT : Option Timer
  deriving DecidableEq, Repr

/-- The Positioning Sequencer's fields after reset (R128). -/
def actuatorReset : Actuator :=
  { state := .open_, c := 0, p := 0, t := none, number := 0, work := none, reported := none,
    settleT := none, moveT := none, openT := none }

/-! ### Trip Controller (chapter 7) -/

/-- Trip class (R129). -/
inductive TripClass where
  | fastStop
  | emergency
  deriving DecidableEq, Repr

/-- A trip record (R129). In `affected`, bit 0 is stand 1 (R200). -/
structure TripRecord where
  latched : Bool
  cls : TripClass
  affected : BitVec 5
  rank : Nat
  time : Time
  count : Nat
  reported : Bool
  detail : Nat
  deriving DecidableEq, Repr

/-- A CLEAR record with a class and an affected set (R129, R149). -/
def clearRecord (cls : TripClass) (affected : BitVec 5) : TripRecord :=
  { latched := false, cls := cls, affected := affected, rank := 0, time := 0, count := 0,
    reported := false, detail := 0 }

/-- The trip table's default records: EMERGENCY for ESTOP_0 to ESTOP_7, LINK_FAULT and POWER_UP,
FAST_STOP for the rest, each affecting stands 1 to 5 (R129). -/
def tripDefaults : Vector TripRecord 32 :=
  let e := clearRecord .emergency 0b11111
  let f := clearRecord .fastStop 0b11111
  #v[e, e, e, e, e, e, e, e, f, f, f, f, f, f, f, f, f, f, f, f, f, f, f, f, f, f, f, f, f, f, e, e]

/-- Stop level (R134). -/
inductive StopLevel where
  | none
  | fast
  | emergency
  deriving DecidableEq, Repr

/-- Stop-confirm state (R135). -/
inductive ConfirmState where
  | idle
  | waiting
  | confirmed
  | expired
  deriving DecidableEq, Repr

/-- Escalation cause (R129). -/
inductive EscalationCause where
  | stopUnconfirmed
  | openFailed
  deriving DecidableEq, Repr

/-- Last drive state (R137). -/
inductive DriveState where
  | unknown
  | running
  | stopping
  | stopped
  deriving DecidableEq, Repr

/-- The Trip Controller's state (R129, R134, R135, R137, R140, R142). `escalation` is the escalation
flag with its cause; `pressed` are the ESTOP line states. -/
structure Trips where
  records : Vector TripRecord 32
  escalation : Option EscalationCause
  stopWanted : StopLevel
  stopSent : StopLevel
  confirm : ConfirmState
  confirmT : Option Timer
  driveEntry : DriveState
  drive : Vector DriveState 5
  low : Vector Nat 5
  pressed : Vector Bool 8
  deriving DecidableEq, Repr

/-- The Trip Controller after reset, before POWER_UP is latched, with the ESTOP line states taken
from the line levels (R153). -/
def tripsReset (pressed : Vector Bool 8) : Trips :=
  { records := tripDefaults, escalation := none, stopWanted := .none, stopSent := .none,
    confirm := .idle, confirmT := none, driveEntry := .unknown,
    drive := Vector.replicate 5 .unknown, low := Vector.replicate 5 0, pressed := pressed }

/-! ### Stand Link Controller (chapter 8) -/

/-- A node address's role (R3). -/
inductive Role where
  | none
  | entry
  | stand (i : Stand)
  | gauge (p : Gauge)
  deriving DecidableEq, Repr

/-- Node state (R156). -/
inductive NodeState where
  | absent
  | present
  | lost
  deriving DecidableEq, Repr

/-- A node table entry (R156). `remote` is the mode: set for REMOTE, clear for LOCAL. -/
structure NodeEntry where
  role : Role
  state : NodeState
  remote : Bool
  lastFrame : Time
  failures : Nat
  echo : Byte
  deriving DecidableEq, Repr

/-- A node table entry after reset, and after a change of role to `role` (R4). -/
def nodeReset (role : Role) : NodeEntry :=
  { role := role, state := .absent, remote := false, lastFrame := 0, failures := 0, echo := 0 }

/-- Link state (R154). -/
inductive LinkState where
  | free
  | part
  | node
  | resetting
  deriving DecidableEq, Repr

/-- Arbitration class (R161). -/
inductive LinkClass where
  | normal
  | urgent
  deriving DecidableEq, Repr

/-- An item of work on the link (R167). A STOP's `counts` is cleared by a Clear Trips accepted while
it is on the link (R149). -/
inductive Item where
  | stop (level : StopLevel) (counts : Bool)
  | gapOpen (i : Stand) (number : Byte)
  | gap (i : Stand) (cmd : GapCommand) (number : Byte)
  | standardize (p : Gauge)
  deriving DecidableEq, Repr

/-- The part's transaction in flight (R163): the item, the class it was won in, the target address
(none for the broadcast), and whether its check byte has been sent. -/
structure InFlight where
  item : Item
  cls : LinkClass
  target : Option Node
  frameSent : Bool
  deriving DecidableEq, Repr

/-- The five link counters (R178). -/
structure LinkCounters where
  checkErrors : Nat
  rejected : Nat
  failed : Nat
  abandoned : Nat
  resets : Nat
  deriving DecidableEq, Repr

/-- Link counters at 0 (R178). -/
def countersReset : LinkCounters :=
  { checkErrors := 0, rejected := 0, failed := 0, abandoned := 0, resets := 0 }

/-- The Stand Link Controller's state but for the node table (R154, R161, R162, R163, R164, R169,
R174, R175, R178). `holdOther` is HOLD as other parties drive it; `sender` is the address whose frame
is under reception; `answer` is the part's answer to the node frame in hand. -/
structure Link where
  state : LinkState
  holdOther : Bool
  stuck : Bool
  lastReset : Option Time
  yield : Bool
  contending : Option LinkClass
  nodeContended : Bool
  ring : Fin 11
  inFlight : Option InFlight
  respTimer : Option Nat
  sender : Option (BitVec 4)
  answer : Option Answer
  counters : LinkCounters
  deriving DecidableEq, Repr

/-- The Stand Link Controller after reset, its link state taken from the HOLD level (R154, R181). -/
def linkReset (hold : Bool) : Link :=
  { state := if hold then .node else .free, holdOther := hold, stuck := false, lastReset := none,
    yield := false, contending := none, nodeContended := false, ring := 10, inFlight := none,
    respTimer := none, sender := none, answer := none, counters := countersReset }

/-! ### Host Port Controller (chapter 9) -/

/-- Event codes (R209). -/
inductive EventCode where
  | gaugeStandardized
  | threadingDone
  | weldEntered
  | weldAtStand
  | standOpened
  | stopConfirmed
  | tripsCleared
  | nodePresent
  | gaugeStdRefused
  | trimRejected
  | weldIgnored
  | gaugeOverdue
  | coilListEmpty
  | standLimited
  | standReleased
  | linkReset
  | trackingPoolFull
  | gaugeFault
  | nodeLost
  | standOpenFailed
  | escalated
  deriving DecidableEq, Repr

/-- An event's subject (R190). -/
inductive Subject where
  | none
  | stand (i : Stand)
  | zone (z : Zone)
  | gauge (p : Gauge)
  | node (a : Node)
  deriving DecidableEq, Repr

/-- An event queue entry (R190). Its level is fixed by its code (`eventLevel`). -/
structure Event where
  code : EventCode
  subject : Subject
  serial : Option Nat
  value : BitVec 32
  time : Time
  deriving DecidableEq, Repr

/-- Frame assembler state (R183). -/
inductive AsmState where
  | idle
  | receiving
  | escaped
  deriving DecidableEq, Repr

/-- A frame of the input queue: its tag and the request its code and payload spell (R186, R203). -/
structure Frame where
  tag : Byte
  request : Request
  deriving DecidableEq, Repr

/-- A reply on the host line: tag, message code, result byte and result payload (R201). -/
structure Reply where
  tag : Byte
  code : Byte
  result : Byte
  payload : List Byte
  deriving DecidableEq, Repr

/-- The Host Port Controller's state (R183, R185, R186, R188, R190, R191, R193). The head of
`inputQueue` is the request in hand; `reply` is the reply on the line. -/
structure HostPort where
  asm : AsmState
  content : List Byte
  inputQueue : List Frame
  reply : Option Reply
  crcDrops : Nat
  formatDrops : Nat
  queueDrops : Nat
  events : List Event
  overrun : Bool
  attention : Nat
  deriving DecidableEq, Repr

/-- The Host Port Controller after reset (R198). -/
def hostReset : HostPort :=
  { asm := .idle, content := [], inputQueue := [], reply := none, crcDrops := 0, formatDrops := 0,
    queueDrops := 0, events := [], overrun := false, attention := 4 }

/-! ### The machine -/

/-- Run mode: running, held in reset by the RESET line (R197), or without supply (R139). -/
inductive Power where
  | running
  | inReset
  | off
  deriving DecidableEq, Repr

/-- The state of the TC540. `pending` is the model's queue of commands that wait (log entry 1). -/
structure State where
  power : Power
  now : Time
  straps : BitVec 2
  rateStraps : BitVec 2
  mill : MillRecord
  stands : Vector StandRecord 5
  track : Track
  gauges : Vector GaugeRecord 6
  store : Store
  demands : Vector DemandState 5
  actuators : Vector Actuator 5
  trips : Trips
  nodes : Vector NodeEntry 15
  link : Link
  host : HostPort
  pending : List Instr
  deriving DecidableEq, Repr

/-- No rule of the spec stops the part, so no fault exists: the type is closed and has no
constructor. Safe: nothing raises it. -/
inductive Fault where
  deriving DecidableEq, Repr

/-- Why a command has no meaning. -/
inductive Refusal where
  /-- Raised by an arm of `exec` for a command without a meaning yet; no arm does so. Safe. -/
  | notModelled (mnemonic : String)
  deriving DecidableEq, Repr

/-- The outcome of one step. -/
abbrev Outcome := Host.Outcome State Fault Refusal

/-! ### After reset -/

/-- Every unit's values after reset, the time base at 0, the strap pins latched and the ESTOP and HOLD
levels taken (R197 steps 1 to 4). The lines' levels and the waiting commands are outside the reset. -/
def unitsReset (straps : BitVec 2) (pressed : Vector Bool 8) (hold : Bool) (pending : List Instr) :
    State :=
  { power := .running, now := 0, straps := straps, rateStraps := straps, mill := millReset,
    stands := Vector.replicate 5 standReset, track := trackReset,
    gauges := Vector.replicate 6 gaugeReset, store := storeReset,
    demands := Vector.replicate 5 demandReset, actuators := Vector.replicate 5 actuatorReset,
    trips := tripsReset pressed, nodes := Vector.replicate 15 (nodeReset .none),
    link := linkReset hold, host := hostReset, pending := pending }

/-- The POWER_UP record as R146 and R153 leave it after a reset: LATCHED with rank 1, latch time 0,
raise count 1, unreported, its detail 0 for the RESET line. -/
def powerUpRecord : TripRecord :=
  { latched := true, cls := .emergency, affected := 0b11111, rank := 1, time := 0, count := 1,
    reported := false, detail := 0 }

/-- The machine right after a reset by the RESET line, with no ESTOP line pressed, HOLD released and
the strap pins low (levels: log entry 6): the values of R44, R68, R85, R104, R128, R153, R181 and
R198, with POWER_UP latched under R146. The Laws show it is what RESET_RELEASED leaves. -/
def State.reset : State :=
  let s := unitsReset 0 (Vector.replicate 8 false) false []
  { s with trips :=
      { s.trips with records := s.trips.records.set 31 powerUpRecord, stopWanted := .emergency } }

end Sys2Proof.Machine
end

