-- ==== Sys2Proof/Machine/Flags.lean ====
section
/-! DEFINITION. What the spec derives from the state: the lines MSTOP and ATTN, which slots are filled,
reference counts, roles, positions of cells, timers, and the tests other rules read. Nothing here
changes the state. -/

namespace Sys2Proof.Machine

/-- The five stands in ascending order. -/
def allStands : List Stand := [0, 1, 2, 3, 4]

/-- The six gauge positions in order (R66). -/
def allGauges : List Gauge := [0, 1, 2, 3, 4, 5]

/-- The fifteen node addresses in order. -/
def allNodes : List Node := [0, 1, 2, 3, 4, 5, 6, 7, 8, 9, 10, 11, 12, 13, 14]

/-- The sixteen product indices in order. -/
def allProducts : List Product := [0, 1, 2, 3, 4, 5, 6, 7, 8, 9, 10, 11, 12, 13, 14, 15]

/-- The eight ESTOP lines in order. -/
def allLines : List (Fin 8) := [0, 1, 2, 3, 4, 5, 6, 7]

/-- The 32 source indices in order (R129). -/
def allSources : List Source :=
  [0, 1, 2, 3, 4, 5, 6, 7, 8, 9, 10, 11, 12, 13, 14, 15, 16, 17, 18, 19, 20, 21, 22, 23, 24, 25,
    26, 27, 28, 29, 30, 31]

/-- The zone before a stand: stand i lies at the end of zone i−1 (spec 00). -/
def zoneBefore (i : Stand) : Zone := i.castSucc

/-- The zone after a stand, which is also the position AFTER-i (spec 00). -/
def zoneAfter (i : Stand) : Zone := i.succ

/-- The stand at the end of a zone, none for zone 5. -/
def standAtEnd (z : Zone) : Option Stand :=
  if h : z.val < 5 then some ⟨z.val, h⟩ else none

/-- The stand a number 1 to 5 names, as frames carry it. -/
def standOfNumber (b : Byte) : Option Stand :=
  if h : 1 ≤ b.toNat ∧ b.toNat ≤ 5 then some ⟨b.toNat - 1, by omega⟩ else none

/-- A stand's number, 1 to 5. -/
def standNumber (i : Stand) : Nat := i.val + 1

/-- Stand `i` is at most N (spec 00). -/
def withinN (s : State) (i : Stand) : Bool := decide (standNumber i ≤ s.mill.n)

/-! ### Timers (R16, R105, R135; log entry 4) -/

/-- Milliseconds since a timer started, modulo 2^32 (R1). -/
def timerElapsed (now : Time) (t : Timer) : Nat := (now - t.start).toNat

/-- The timer's load has run on the time base. -/
def timerDue (now : Time) (t : Timer) : Bool := decide (t.load ≤ timerElapsed now t)

/-- Time left on a timer in ms, as reads show it: 0xFFFF when stopped (R199). -/
def timerLeft (now : Time) : Option Timer → Nat
  | none => 0xFFFF
  | some t => t.load - timerElapsed now t

/-! ### Trips, MSTOP and ATTN -/

/-- The number of LATCHED records. -/
def latchedCount (s : State) : Nat :=
  s.trips.records.toList.countP (·.latched)

/-- A latched trip record names stand `i` in its affected set (R122). -/
def tripNames (s : State) (i : Stand) : Bool :=
  s.trips.records.toList.any fun r => r.latched && r.affected.getLsbD i.val

/-- Some latched record has class EMERGENCY, or the escalation flag is set (R139). -/
def emergencyStanding (s : State) : Bool :=
  s.trips.records.toList.any (fun r => r.latched && decide (r.cls = .emergency)) ||
    s.trips.escalation.isSome

/-- MSTOP is asserted (R139): without power, while held in reset, and while powered exactly while an
EMERGENCY record is latched or the escalation flag is set. -/
def State.mstop (s : State) : Bool :=
  match s.power with
  | .running => emergencyStanding s
  | .inReset => true
  | .off => true

/-- The level of an event code (R190; chapter 9's table). -/
def eventLevel : EventCode → Nat
  | .gaugeStandardized => 1
  | .threadingDone => 2
  | .weldEntered => 2
  | .weldAtStand => 2
  | .standOpened => 2
  | .stopConfirmed => 2
  | .tripsCleared => 2
  | .nodePresent => 2
  | .gaugeStdRefused => 3
  | .trimRejected => 3
  | .weldIgnored => 4
  | .gaugeOverdue => 4
  | .coilListEmpty => 4
  | .standLimited => 4
  | .standReleased => 4
  | .linkReset => 4
  | .trackingPoolFull => 5
  | .gaugeFault => 5
  | .nodeLost => 5
  | .standOpenFailed => 6
  | .escalated => 6

/-- The code number of an event (R209). -/
def eventNumber : EventCode → Nat
  | .gaugeStandardized => 1
  | .threadingDone => 2
  | .weldEntered => 3
  | .weldAtStand => 4
  | .standOpened => 5
  | .stopConfirmed => 6
  | .tripsCleared => 7
  | .nodePresent => 8
  | .gaugeStdRefused => 9
  | .trimRejected => 10
  | .weldIgnored => 11
  | .gaugeOverdue => 12
  | .coilListEmpty => 13
  | .standLimited => 14
  | .standReleased => 15
  | .linkReset => 16
  | .trackingPoolFull => 17
  | .gaugeFault => 18
  | .nodeLost => 19
  | .standOpenFailed => 20
  | .escalated => 21

/-- Some trip record is LATCHED with its reported flag clear (R131, R194). -/
def unreportedTrip (s : State) : Bool :=
  s.trips.records.toList.any fun r => r.latched && !r.reported

/-- ATTN is high (R194): an event at or above the attention level is queued, or a trip is unreported.
It is low while held in reset (R197) and free without supply (log entry 8). -/
def State.attn (s : State) : Bool :=
  match s.power with
  | .running =>
    s.host.events.any (fun e => decide (s.host.attention ≤ eventLevel e.code)) || unreportedTrip s
  | .inReset => false
  | .off => Config.unpoweredAttn

/-- The serial rate of the host line (R182, R197). -/
def State.serialRate (s : State) : SerialRate := Config.serialRate s.rateStraps

/-! ### Nodes and link timing -/

/-- The node address that holds a role (R3). -/
def roleNode (s : State) (r : Role) : Option Node :=
  allNodes.find? fun a => decide (s.nodes[a].role = r)

/-- The node holding a role is in a state. -/
def roleInState (s : State) (r : Role) (st : NodeState) : Bool :=
  match roleNode s r with
  | some a => decide (s.nodes[a].state = st)
  | none => false

/-- RESP_US in use (R155). -/
def State.respUs (s : State) : Nat := if s.mill.configured then s.mill.respUs else 2000

/-- TXN_LIMIT_US in use (R155). -/
def State.txnLimitUs (s : State) : Nat := if s.mill.configured then s.mill.txnLimitUs else 20000

/-- SILENCE_MS in use (R155). -/
def State.silenceMs (s : State) : Nat := if s.mill.configured then s.mill.silenceMs else 1000

/-- A PRESENT node's time since its last valid frame exceeds SILENCE_MS (R158). -/
def silent (s : State) (a : Node) : Bool :=
  decide (s.nodes[a].state = .present) &&
    decide (s.silenceMs < (s.now - s.nodes[a].lastFrame).toNat)

/-! ### Work slots (R167, R108, R134; chapter 6 and the units' own state) -/

/-- The gap command slot of stand `i` is filled: GAP_TRAVEL or GAP_TRIM QUEUED or IN_FLIGHT (R108). -/
def gapFilled (s : State) (i : Stand) : Bool :=
  match s.actuators[i].work with
  | some w => decide (w.cmd ≠ .open_) && decide (w.phase ≠ .moving)
  | none => false

/-- The GAP_OPEN slot of stand `i` is filled (R108). -/
def openFilled (s : State) (i : Stand) : Bool :=
  match s.actuators[i].work with
  | some w => decide (w.cmd = .open_) && decide (w.phase ≠ .moving)
  | none => false

/-- The STANDARDIZE slot of a gauge is filled: its phase is PLACED (chapter 3's phase table). -/
def stdFilled (s : State) (p : Gauge) : Bool := decide (s.gauges[p].phase = .placed)

/-- The part's own STOP broadcast is on the link. -/
def stopOnLink (s : State) : Bool :=
  match s.link.inFlight with
  | some f => match f.item with
    | .stop _ _ => true
    | _ => false
  | none => false

/-- The strength of a stop level (R134: in rising order). -/
def stopRank : StopLevel → Nat
  | .none => 0
  | .fast => 1
  | .emergency => 2

/-- The stop broadcast slot is filled: a STOP waits because the stop wanted is above the stop sent, or
one is on the link (R134). -/
def stopFilled (s : State) : Bool :=
  stopOnLink s || decide (stopRank s.trips.stopSent < stopRank s.trips.stopWanted)

/-- Some urgent slot is filled (R161, R167). -/
def urgentFilled (s : State) : Bool := stopFilled s || allStands.any (openFilled s)

/-- Whether the normal slot at a ring position is filled (R174). -/
def ringFilled (s : State) (r : Fin 11) : Bool :=
  if h : r.val < 5 then gapFilled s ⟨r.val, h⟩ else stdFilled s ⟨r.val - 5, by omega⟩

/-- Some normal slot is filled. -/
def normalFilled (s : State) : Bool := allStands.any (gapFilled s) || allGauges.any (stdFilled s)

/-- Whether the slot of a number 0 to 16 is filled (R200). -/
def State.slotFilled (s : State) (n : Nat) : Bool :=
  if n = 0 then stopFilled s
  else if h : 1 ≤ n ∧ n ≤ 5 then openFilled s ⟨n - 1, by omega⟩
  else if h : 6 ≤ n ∧ n ≤ 10 then gapFilled s ⟨n - 6, by omega⟩
  else if h : 11 ≤ n ∧ n ≤ 16 then stdFilled s ⟨n - 11, by omega⟩
  else false

/-- HOLD is driven by the part: while it runs a transaction of its own (R154). -/
def State.drivesHold (s : State) : Bool :=
  decide (s.power = .running) && decide (s.link.state = .part)

/-- LINK-RESET is driven by the part: during a pulse (R154, R176). -/
def State.drivesLinkReset (s : State) : Bool :=
  decide (s.power = .running) && decide (s.link.state = .resetting)

/-! ### Cells (R29) -/

/-- Stamp k of a cell: E0 for k = 0, else the bite stamp of stand list entry k (R28). -/
def stampOf (c : Cell) (k : Nat) : Option Nat :=
  match k with
  | 0 => some c.e0
  | j + 1 => (c.entries[j]?).map (·.stamp)

/-- The cell holds stamp k. -/
def holdsStamp (c : Cell) (k : Nat) : Bool := decide (k ≤ c.entries.length)

/-- The cell's distance in a zone, ODO[k] − Ek (R29); 0 where it does not hold stamp k. -/
def distanceIn (s : State) (c : Cell) (z : Zone) : Nat :=
  match stampOf c z.val with
  | some e => s.track.odo[z] - e
  | none => 0

/-- The cell holds stamp k and not stamp k+1, so it waits for the stand at the end of zone k. -/
def waitsAt (c : Cell) (z : Zone) : Bool := decide (c.entries.length = z.val)

/-- The forming cell's length, ODO[0] less its leading-edge stamp (R21). -/
def formingLength (s : State) (f : FormingCell) : Nat := s.track.odo[(0 : Fin 6)] - f.stamp

/-- The cell of a serial. -/
def cellOf (s : State) (serial : Nat) : Option Cell :=
  s.track.queue.find? fun c => decide (c.serial = serial)

/-- The older neighbour of the cell of a serial in a queue that is oldest first. -/
def olderIn : List Cell → Nat → Option Cell
  | x :: y :: rest, n => if y.serial = n then some x else olderIn (y :: rest) n
  | _, _ => none

/-- A record of the tracking queue is free (R26). -/
def recordFree (s : State) : Bool := decide (s.track.queue.length < 256)

/-- Zone z is tensioned (R141): z is below N, tracking is not STOPPED, and the oldest cell of the
queue holds stamp z+1. -/
def tensioned (s : State) (z : Fin 5) : Bool :=
  decide (z.val < s.mill.n) && decide (s.track.mode ≠ .stopped) &&
    match s.track.queue with
    | c :: _ => holdsStamp c (z.val + 1)
    | [] => false

/-- The strip-break threshold of a zone: BREAK_TENSION_0, or stand z's BREAK_TENSION_z (R141). -/
def breakTension (s : State) (z : Fin 5) : Nat :=
  match z with
  | ⟨0, _⟩ => s.mill.breakTension0
  | ⟨j + 1, h⟩ => s.stands[(⟨j, by omega⟩ : Stand)].breakTension

/-! ### Product references (R70) -/

/-- The cells of the queue that name a product. -/
def cellRefs (s : State) (p : Product) : Nat :=
  s.track.queue.countP fun c => decide (c.product = p)

/-- The forming cell names a product. -/
def formingNames (s : State) (p : Product) : Bool :=
  match s.track.forming with
  | some f => decide (f.product = p)
  | none => false

/-- The pending weld of the forming cell, if any. -/
def pendingWeldOf (s : State) : Option PendingWeld :=
  match s.track.forming with
  | some f => f.pendingWeld
  | none => none

/-- A pending weld names a product. -/
def pendingNames (s : State) (p : Product) : Bool :=
  match pendingWeldOf s with
  | some w => decide (w.product = p)
  | none => false

/-- The coil list entries that name a product. -/
def coilRefs (s : State) (p : Product) : Nat :=
  s.store.coils.countP fun c => decide (c.product = p)

/-- The stands whose active product it is. -/
def activeRefs (s : State) (p : Product) : Nat :=
  s.store.active.toList.countP fun a => decide (a = some p)

/-- The reference count of a product entry: the number of holders that name it (R70). -/
def State.refCount (s : State) (p : Product) : Nat :=
  cellRefs s p + bit (formingNames s p) 1 + bit (pendingNames s p) 1 + activeRefs s p +
    coilRefs s p + bit (decide (s.store.threading = some p)) 1

/-- Product entry state (R70). -/
inductive EntryState where
  | empty
  | loaded
  | inUse
  deriving DecidableEq, Repr

/-- The state of a product entry, from whether it is loaded and its count (R70). -/
def State.entryState (s : State) (p : Product) : EntryState :=
  if s.store.table[p].loaded then (if s.refCount p = 0 then .loaded else .inUse) else .empty

/-! ### Gauges -/

/-- A standardisation of a gauge is deferred: a weld lies near it (R60). -/
def deferred (s : State) (p : Gauge) : Bool :=
  let r := s.gauges[p]
  let formingWeld : Bool := match s.track.forming with
    | some f => f.weld || f.pendingWeld.isSome
    | none => false
  match p with
  | ⟨0, _⟩ =>
    s.track.queue.any (fun c => c.weld && decide (s.track.odo[(0 : Fin 6)] - c.e0 < r.weldGuard)) ||
    (match s.track.forming with
      | some f =>
        (f.weld && decide (formingLength s f < r.weldGuard)) ||
        (match f.pendingWeld with
          | some w => decide (s.track.odo[(0 : Fin 6)] - w.stamp < r.weldGuard)
          | none => false)
      | none => false)
  | ⟨j + 1, _⟩ =>
    s.track.queue.any (fun c => c.weld && holdsStamp c (j + 1) &&
      decide (distanceIn s c p < r.g + r.weldGuard)) ||
    s.track.queue.any (fun c => c.weld && decide (c.entries.length = j)) ||
    (decide (j = 0) && formingWeld)

end Sys2Proof.Machine
end

