-- ==== Sys2Proof/Machine/Ops.lean ====
section
/-! DEFINITION. The named operations every unit shares: one update per part of the state, the arithmetic
of the conventions (spec 00), raising an event, the Trip Controller's raise of a source with all it
sets going, and taking a stand out of the strip. -/

namespace Sys2Proof.Machine

/-! ### Updates, one per part of the state -/

/-- Change one place of a fixed table. -/
def upd {α : Type} {n : Nat} (v : Vector α n) (i : Fin n) (f : α → α) : Vector α n :=
  v.set i.val (f v[i]) i.isLt

/-- Change every place of a fixed table. -/
def mapTable {α β : Type} {n : Nat} (v : Vector α n) (f : α → β) : Vector β n :=
  ⟨(v.toList.map f).toArray, by simp⟩

/-- Change the mill record. -/
def State.onMill (s : State) (f : MillRecord → MillRecord) : State := { s with mill := f s.mill }

/-- Change stand `i`'s record. -/
def State.onStand (s : State) (i : Stand) (f : StandRecord → StandRecord) : State :=
  { s with stands := upd s.stands i f }

/-- Change the Tracking Unit's state. -/
def State.onTrack (s : State) (f : Track → Track) : State := { s with track := f s.track }

/-- Change a gauge record. -/
def State.onGauge (s : State) (p : Gauge) (f : GaugeRecord → GaugeRecord) : State :=
  { s with gauges := upd s.gauges p f }

/-- Change the Product Store's state. -/
def State.onStore (s : State) (f : Store → Store) : State := { s with store := f s.store }

/-- Change the Gap Demand Unit's fields of stand `i`. -/
def State.onDemand (s : State) (i : Stand) (f : DemandState → DemandState) : State :=
  { s with demands := upd s.demands i f }

/-- Change the Positioning Sequencer's fields of stand `i`. -/
def State.onActuator (s : State) (i : Stand) (f : Actuator → Actuator) : State :=
  { s with actuators := upd s.actuators i f }

/-- Change the Trip Controller's state. -/
def State.onTrips (s : State) (f : Trips → Trips) : State := { s with trips := f s.trips }

/-- Change a node table entry. -/
def State.onNode (s : State) (a : Node) (f : NodeEntry → NodeEntry) : State :=
  { s with nodes := upd s.nodes a f }

/-- Change the Stand Link Controller's state. -/
def State.onLink (s : State) (f : Link → Link) : State := { s with link := f s.link }

/-- Change the Host Port Controller's state. -/
def State.onHost (s : State) (f : HostPort → HostPort) : State := { s with host := f s.host }

/-- The state with other waiting commands. -/
def State.withPending (s : State) (q : List Instr) : State := { s with pending := q }

/-! ### Arithmetic (spec 00, "Gains and rounding") -/

/-- Round half up, for a quotient of non-negative quantities. -/
def roundHalfUp (a b : Nat) : Nat := (2 * a + b) / (2 * b)

/-- A signed product over 4,096, rounded half away from zero (Q12 gains). -/
def scaleQ12 (x : Int) : Int :=
  if x < 0 then -(roundHalfUp x.natAbs 4096 : Int) else (roundHalfUp x.natAbs 4096 : Int)

/-- Clamp a value to [lo, hi]. -/
def clampTo (lo hi v : Int) : Int := if hi < v then hi else if v < lo then lo else v

/-- Clamp a value to ±L. -/
def clampSym (l : Nat) (v : Int) : Int := clampTo (-(l : Int)) l v

/-- Add to a counter that saturates. -/
def satAdd (max a b : Nat) : Nat := min max (a + b)

/-! ### Events (R190, R191) -/

/-- Raise an event: it joins the tail of the queue, or is discarded and sets the overrun flag when the
queue holds 48 (R190, R191). -/
def raise (code : EventCode) (subject : Subject) (serial : Option Nat) (value : Int)
    (s : State) : State :=
  s.onHost fun h =>
    if h.events.length < 48 then
      { h with events := h.events ++ [⟨code, subject, serial, BitVec.ofInt 32 value, s.now⟩] }
    else { h with overrun := true }

/-! ### Command numbers and opening (R107, R121) -/

/-- Build a gap command for stand `i` with a new command number and place it QUEUED (R107, R108). -/
def buildWork (i : Stand) (cmd : GapCommand) (s : State) : State :=
  s.onActuator i fun a =>
    { a with number := a.number + 1, work := some ⟨cmd, a.number + 1, .queued⟩ }

/-- Put stand `i` into opening (R121): the gap command slot is emptied, the settle and move timers stop,
a GAP_OPEN is built, the open timer starts and the state is OPENING. -/
def putIntoOpening (i : Stand) (s : State) : State :=
  (buildWork i .open_ s).onActuator i fun a =>
    { a with settleT := none, moveT := none, openT := some ⟨s.now, s.stands[i].openTimeout⟩,
             state := .opening }

/-- TRAVEL, SETTLE and HOLD (R105). -/
def engaged (a : ActState) : Bool := decide (a = .travel ∨ a = .settle ∨ a = .hold)

/-- The states from which a latch opens a stand it names (R122). -/
def openedByTrip (a : ActState) : Bool := engaged a || decide (a = .released)

/-- Open each stand of an affected set that is in TRAVEL, SETTLE, HOLD or RELEASED, ascending (R122). -/
def openNamed (affected : BitVec 5) (s : State) : State :=
  allStands.foldl
    (fun s i => if affected.getLsbD i.val && openedByTrip s.actuators[i].state
      then putIntoOpening i s else s) s

/-! ### Trip Controller: sources, latches, stops (R129 to R138) -/

/-- A trip source (R129). -/
inductive TripSource where
  | estop (line : Fin 8)
  | stripBreak (z : Fin 5)
  | cobble (i : Stand)
  | nodeLostEntry
  | nodeLost (i : Stand)
  | actuatorFault (i : Stand)
  | hostRequest
  | linkFault
  | powerUp
  deriving DecidableEq, Repr

/-- A source's index in the trip table (R129). -/
def sourceIndex : TripSource → Source
  | .estop x => ⟨x.val, by omega⟩
  | .stripBreak z => ⟨8 + z.val, by omega⟩
  | .cobble i => ⟨13 + i.val, by omega⟩
  | .nodeLostEntry => 18
  | .nodeLost i => ⟨19 + i.val, by omega⟩
  | .actuatorFault i => ⟨24 + i.val, by omega⟩
  | .hostRequest => 29
  | .linkFault => 30
  | .powerUp => 31

/-- Raise the stop wanted; it is never lowered here (R134). -/
def wantStop (l : StopLevel) (s : State) : State :=
  s.onTrips fun t => { t with stopWanted := if stopRank t.stopWanted < stopRank l then l else t.stopWanted }

/-- A node confirms a stop: it is PRESENT and its last drive state is STOPPING or STOPPED (R135). -/
def confirms (s : State) (r : Role) (d : DriveState) : Bool :=
  roleInState s r .present && decide (d = .stopping ∨ d = .stopped)

/-- The confirmation test of R135: every counted node (the entry node while the mill record is
CONFIGURED, and the node of each configured stand up to N) confirms. -/
def confirmHolds (s : State) : Bool :=
  (!s.mill.configured || confirms s .entry s.trips.driveEntry) &&
  allStands.all fun i => !(s.stands[i].configured && withinN s i) ||
    confirms s (.stand i) s.trips.drive[i]

/-- While WAITING, make the confirmation test; when it holds the timer stops, the state becomes
CONFIRMED and STOP_CONFIRMED is raised with the ms since the timer started (R135, R151). -/
def confirmTest (s : State) : State :=
  if s.trips.confirm = .waiting ∧ confirmHolds s then
    let ms := match s.trips.confirmT with
      | some t => timerElapsed s.now t
      | none => 0
    raise .stopConfirmed .none none ms
      (s.onTrips fun t => { t with confirm := .confirmed, confirmT := none })
  else s

/-- Start the stop-confirm timer and make the test at once (R133, R135). -/
def startConfirm (s : State) : State :=
  confirmTest (s.onTrips fun t =>
    { t with confirm := .waiting, confirmT := some ⟨s.now, s.mill.stopConfirm⟩ })

/-- What a latch of record `k` sets going, in the order of R133. -/
def latchActions (k : Source) (s : State) : State :=
  let s1 := openNamed s.trips.records[k].affected s
  match s.trips.records[k].cls with
  | .fastStop =>
    let s2 := wantStop .fast s1
    if s2.trips.confirm = .idle then startConfirm s2 else s2
  | .emergency => wantStop .emergency s1

/-- A raise that finds its record CLEAR latches it with the next rank (R131) and sets going R133. -/
def latch (k : Source) (detail : Nat) (s : State) : State :=
  let rank := latchedCount s + 1
  latchActions k (s.onTrips fun t => { t with records := upd t.records k fun r =>
    { r with latched := true, rank := rank, time := s.now, count := 1, reported := false,
             detail := detail } })

/-- A raise that finds its record LATCHED only counts (R132). -/
def recount (k : Source) (s : State) : State :=
  s.onTrips fun t => { t with records := upd t.records k fun r =>
    { r with count := satAdd 255 r.count 1 } }

/-- A source is raised at the trip table (R130). -/
def raiseTrip (src : TripSource) (detail : Nat) (s : State) : State :=
  let k := sourceIndex src
  if s.trips.records[k].latched then recount k s else latch k detail s

/-- Set the escalation with a cause: only the first is kept; ESCALATED is raised and the stop wanted
becomes EMERGENCY (R138, R151). -/
def escalate (cause : EscalationCause) (subject : Subject) (s : State) : State :=
  match s.trips.escalation with
  | some _ => s
  | none =>
    let code : Int := match cause with
      | .stopUnconfirmed => 0
      | .openFailed => 1
    wantStop .emergency (raise .escalated subject none code
      (s.onTrips fun t => { t with escalation := some cause }))

end Sys2Proof.Machine
end

