-- ==== Sys2Proof/Machine/Positioning.lean ====
section
/-! DEFINITION. The Positioning Sequencer (chapter 6): travel, hold and trims, new demands, stand
reports, transaction outcomes, timer expiries, faults, release and opening. -/

namespace Sys2Proof.Machine

/-- The step p′ of R112: t when |t − p| is at most MAX_STEP, else p moved toward t by MAX_STEP. -/
def wantedStep (p t : Int) (maxStep : Nat) : Int :=
  if (t - p).natAbs ≤ maxStep then t
  else if p < t then p + maxStep else p - maxStep

/-- R112: with no step current the wanted step is built; a QUEUED step to the same position is kept, to
another is replaced; a step IN_FLIGHT or MOVING is not changed. -/
def applyTravel (i : Stand) (s : State) : State :=
  let a := s.actuators[i]
  match a.t with
  | none => s
  | some t =>
    let step := wantedStep a.p t s.stands[i].maxStep
    match a.work with
    | none => buildWork i (.travel step) s
    | some w =>
      match w.phase with
      | .queued => if w.cmd = .travel step then s else buildWork i (.travel step) s
      | .inFlight => s
      | .moving => s

/-- Empty stand `i`'s current work and its slot (R108). -/
def dropWork (i : Stand) (s : State) : State := s.onActuator i fun a => { a with work := none }

/-- Enter TRAVEL and build a step (R116). -/
def enterTravel (i : Stand) (s : State) : State :=
  applyTravel i ((dropWork i s).onActuator i fun a => { a with state := .travel })

/-- R116: in HOLD with no trim IN_FLIGHT, compare t with p and c, and build a trim, travel, or nothing. -/
def applyHold (i : Stand) (s : State) : State :=
  let a := s.actuators[i]
  match a.t with
  | none => s
  | some t =>
    if t = a.p then dropWork i s
    else if s.stands[i].mode = .band ∧ (t - a.c).natAbs ≤ s.stands[i].band then
      match a.work with
      | some w => if w.cmd = .trim (t - a.c) ∧ w.phase = .queued then s
        else buildWork i (.trim (t - a.c)) s
      | none => buildWork i (.trim (t - a.c)) s
    else enterTravel i s

/-- The stand's current work is on the link, or (`moving` set) accepted and moving (R108). -/
def workBusy (s : State) (i : Stand) (moving : Bool) : Bool :=
  match s.actuators[i].work with
  | some w => match w.phase with
    | .inFlight => true
    | .moving => moving
    | .queued => false
  | none => false

/-- A change of stand `i`'s demand is taken into t, and acted on by state (R110). -/
def newDemand (i : Stand) (d : Option Int) (s : State) : State :=
  let s1 := s.onActuator i fun a => { a with t := d }
  match s.actuators[i].state with
  | .travel => if workBusy s i true then s1 else applyTravel i s1
  | .hold => if workBusy s i false then s1 else applyHold i s1
  | .open_ => s1
  | .settle => s1
  | .opening => s1
  | .openFailed => s1
  | .released => s1

/-- The settle timer expires: HOLD with c equal to p, and R116 at once when t differs from p (R115). -/
def settleExpire (i : Stand) (s : State) : State :=
  let s1 := s.onActuator i fun a => { a with state := .hold, c := a.p, settleT := none }
  if s1.actuators[i].t = some s1.actuators[i].p then s1 else applyHold i s1

/-- A step is complete at position `pos` (R114): p takes it, the next step is built or SETTLE is
entered; with SETTLE_i at 0 the settle timer expires at once. -/
def completeStep (i : Stand) (pos : Int) (s : State) : State :=
  let s1 := s.onActuator i fun a => { a with p := pos, work := none, moveT := none }
  if s1.actuators[i].t = some pos then
    let s2 := s1.onActuator i fun a =>
      { a with state := .settle, settleT := some ⟨s.now, s.stands[i].settle⟩ }
    if s.stands[i].settle = 0 then settleExpire i s2 else s2
  else applyTravel i s1

/-- A trim is accepted (R117): p becomes c plus the trim, and R116 is applied. -/
def acceptTrim (i : Stand) (trim : Int) (s : State) : State :=
  applyHold i (s.onActuator i fun a => { a with p := a.c + trim, work := none })

/-- A trim is rejected (R117): it is dropped and TRIM_REJECTED raised; R116 follows only when t has left
the trim's position. -/
def rejectTrim (i : Stand) (trim : Int) (s : State) : State :=
  let s1 := raise .trimRejected (.stand i) none trim (dropWork i s)
  if s1.actuators[i].t = some (s1.actuators[i].c + trim) then s1 else applyHold i s1

/-- An actuator fault (R119): ACTUATOR_FAULT_i is raised, and the stand is opened if the latch has not
already put it into opening. -/
def actuatorFault (i : Stand) (s : State) : State :=
  let s1 := raiseTrip (.actuatorFault i) (standNumber i) s
  if s1.actuators[i].state = .opening then s1 else putIntoOpening i s1

/-- Stand `i` becomes OPEN_FAILED, by expiry (0) or refusal (1) (R123, R124): work and open timer are
dropped, the Trip Controller is told, STAND_OPEN_FAILED is raised. Log entry 11 for the order. -/
def openFailed (i : Stand) (cause : Int) (s : State) : State :=
  let s1 := s.onActuator i fun a => { a with state := .openFailed, work := none, openT := none }
  raise .standOpenFailed (.stand i) none cause (escalate .openFailed (.stand i) s1)

/-- A command of stand `i` was not delivered: it returns to QUEUED with its number (R118, R123). -/
def requeue (i : Stand) (w : Work) (s : State) : State :=
  s.onActuator i fun a => { a with work := some { w with phase := .queued } }

/-- How the owner of a slot sees the end of a transaction (R166). -/
inductive Handed where
  | accept
  | reject
  | notDelivered
  deriving DecidableEq, Repr

/-- The outcome of stand `i`'s command of a number is handed on (R109); it is taken only while that
command is the current work IN_FLIGHT. -/
def takeOutcome (i : Stand) (number : Byte) (o : Handed) (s : State) : State :=
  match s.actuators[i].work with
  | none => s
  | some w =>
    if w.phase = .inFlight ∧ w.number = number then
      match w.cmd, o with
      | .travel pos, .accept => s.onActuator i fun a =>
          { a with p := pos, work := some { w with phase := .moving },
                   moveT := some ⟨s.now, s.stands[i].moveTimeout⟩ }
      | .travel _, .reject => actuatorFault i s
      | .trim v, .accept => acceptTrim i v s
      | .trim v, .reject => rejectTrim i v s
      | .open_, .accept => s.onActuator i fun a =>
          { a with work := some { w with phase := .moving } }
      | .open_, .reject => openFailed i 1 s
      | .open_, .notDelivered => requeue i w s
      | _, .notDelivered =>
        let s1 := requeue i w s
        match s1.actuators[i].state with
        | .travel => applyTravel i s1
        | .hold => applyHold i s1
        | _ => s1
    else s

/-- The value STAND_RELEASED carries for the state left (R127). -/
def leftCode : ActState → Int
  | .open_ => 0
  | .travel => 1
  | .settle => 2
  | .hold => 3
  | .opening => 4
  | .openFailed => 5
  | .released => 6

/-- A report showing LOCAL (R120): an untripped stand in OPEN, TRAVEL, SETTLE or HOLD becomes RELEASED. -/
def takeLocal (i : Stand) (s : State) : State :=
  let a := s.actuators[i]
  if (a.state = .open_ ∨ engaged a.state) ∧ ¬ tripNames s i then
    raise .standReleased (.stand i) none (leftCode a.state) (s.onActuator i fun a =>
      { a with state := .released, work := none, settleT := none, moveT := none })
  else s

/-- A report showing open (R124), with its echo. -/
def takeOpen (i : Stand) (echo : Byte) (s : State) : State :=
  let a := s.actuators[i]
  let opened := raise .standOpened (.stand i) none echo.toNat (s.onActuator i fun a =>
    { a with state := .open_, work := none, openT := none })
  match a.state with
  | .opening =>
    match a.work with
    | some w => if w.cmd = .open_ ∧ w.number = echo then opened else s
    | none => s
  | .openFailed => opened
  | _ => s

/-- A report showing in position, with its echo, for a stand in TRAVEL or HOLD (R114, R117). -/
def takeInPosition (i : Stand) (echo : Byte) (s : State) : State :=
  let a := s.actuators[i]
  match a.work with
  | none => s
  | some w =>
    if w.number = echo then
      match a.state, w.cmd with
      | .travel, .travel pos => completeStep i pos s
      | .hold, .trim v => acceptTrim i v s
      | _, _ => s
    else s

/-- A valid stand report is taken by the sequencer, in the order of R106. -/
def takeReport (i : Stand) (r : StandReport) (s : State) : State :=
  let s1 := s.onActuator i fun a => { a with reported := some r.position.toInt }
  let s2 := if reportLocal r then takeLocal i s1 else s1
  let s3 := if reportOpen r then takeOpen i r.echo s2 else s2
  if reportInPosition r then takeInPosition i r.echo s3 else s3

/-- A running timer of stand `i` has run its load (log entry 4). -/
def dueNow (s : State) (t : Option Timer) : Bool :=
  match t with
  | some t => timerDue s.now t
  | none => false

/-- The settle timer of stand `i` expires in SETTLE (R115). -/
def settleExpiry (i : Stand) (s : State) : State :=
  if s.actuators[i].state = .settle ∧ dueNow s s.actuators[i].settleT then settleExpire i s else s

/-- The move timer of stand `i` expires in TRAVEL (R119). -/
def moveExpiry (i : Stand) (s : State) : State :=
  if s.actuators[i].state = .travel ∧ dueNow s s.actuators[i].moveT then
    actuatorFault i (s.onActuator i fun a => { a with moveT := none })
  else s

/-- The open timer of stand `i` expires in OPENING (R124). -/
def openExpiry (i : Stand) (s : State) : State :=
  if s.actuators[i].state = .opening ∧ dueNow s s.actuators[i].openT then openFailed i 0 s else s

/-- The stop-confirm timer expires while WAITING (R136). -/
def confirmExpiry (s : State) : State :=
  if s.trips.confirm = .waiting ∧ dueNow s s.trips.confirmT then
    escalate .stopUnconfirmed .none
      (s.onTrips fun t => { t with confirm := .expired, confirmT := none })
  else s

end Sys2Proof.Machine
end

