-- ==== Sys2Proof/Machine/GapDemand.lean ====
section
/-! DEFINITION. The Gap Demand Unit (chapter 5): composing and ending a demand, feedforward at a bite,
the monitor, its freeze, and the product switch. -/

namespace Sys2Proof.Machine

/-- A stand's demand ends (R88, R90): the limited flag clears and the ending is handed on. -/
def endDemand (i : Stand) (s : State) : State :=
  let s1 := s.onDemand i fun d => { d with demand := none, limited := false }
  match s.demands[i].demand with
  | some _ => newDemand i none s1
  | none => s1

/-- The unclamped sum of stand `i` working to a product (R89). -/
def demandSum (s : State) (i : Stand) (p : Product) : Int :=
  s.store.table[p].sSet[i] + s.demands[i].ff + s.demands[i].trim + s.demands[i].offset

/-- The demand of stand `i` is composed (R88 to R90): the sum is clamped to the gap limits, the limited
flag follows, STAND_LIMITED is raised when it newly sets, and a changed or new demand is handed on. -/
def composeDemand (i : Stand) (s : State) : State :=
  let r := s.stands[i]
  match r.configured, s.store.active[i] with
  | true, some p =>
    let sum := demandSum s i p
    let v := clampTo r.gapMin r.gapMax sum
    let lim := decide (sum < r.gapMin ∨ r.gapMax < sum)
    let s1 := s.onDemand i fun d => { d with demand := some ⟨v, sum⟩, limited := lim }
    let s2 := if lim && !s.demands[i].limited then raise .standLimited (.stand i) none sum s1 else s1
    if (s.demands[i].demand.map (·.value)) = some v then s2 else newDemand i (some v) s2
  | _, _ => endDemand i s

/-- Weld approach for stand `i` naming the weld cell of a serial: the monitor is frozen (R97). -/
def freezeMonitor (i : Stand) (serial : Nat) (s : State) : State :=
  s.onDemand i fun d => { d with freeze := some serial }

/-- The bite of weld-flagged cell `y` ends the freeze when its serial is at least the freeze serial
(R98). -/
def endFreeze (i : Stand) (y : Cell) (s : State) : State :=
  s.onDemand i fun d =>
    { d with freeze := d.freeze.filter fun n => !(y.weld && decide (n ≤ y.serial)) }

/-- Stand `i` has switched to a product at the bite of `y` (R99): the freeze ends, the trim is carried
or zeroed, and the demand is composed. DESIGN CHOICE (log entry 29): the composition raises STAND_LIMITED
as every other does (R89), before WELD_AT_STAND, though R99 says that the switch raises no event of this
unit. -/
def switchDemand (i : Stand) (y : Cell) (new : Product) (s : State) : State :=
  let s1 := endFreeze i y s
  composeDemand i (s1.onDemand i fun d =>
    { d with trim := if s.store.table[new].carryTrim then d.trim else 0 })

/-- The thickness deviation ΔH at the bite of `y` at stand `i`, none without an input (R91). -/
def biteInput (s : State) (i : Stand) (y : Cell) : Option Int :=
  let e := s.store.table[y.product]
  match h : i.val with
  | 0 => y.measured.map fun m => (m.h0 : Int) - e.hRef
  | j + 1 =>
    match s.gauges[zoneBefore i].installed, y.entries[j]? with
    | true, some n =>
      if 1 ≤ n.count then
        some ((roundHalfUp n.sum n.count : Int) - e.hExit[(⟨j, by omega⟩ : Stand)])
      else none
    | _, _ => none

/-- The feedforward term of the bite of `y` at stand `i`: 0 without an input or at an unconfigured stand
(R92), else the scaled deviation, negated and clamped (R93). -/
def feedforward (s : State) (i : Stand) (y : Cell) : Int :=
  match s.stands[i].configured, biteInput s i y with
  | true, some dH => clampSym s.stands[i].ffLimit (-(scaleQ12 (dH * s.store.table[y.product].kFf[i])))
  | _, _ => 0

/-- Change the cells of a serial in the queue. -/
def onCell (serial : Nat) (f : Cell → Cell) (s : State) : State :=
  s.onTrack fun t => { t with queue := t.queue.map fun c => if c.serial = serial then f c else c }

/-- Change stand list entry `i` of the cells of a serial (R28). -/
def onEntry (serial : Nat) (i : Stand) (f : StandEntry → StandEntry) (s : State) : State :=
  onCell serial (fun c => { c with entries := c.entries.modify i.val f }) s

/-- The Gap Demand Unit takes the bite of `y` at stand `i` (R91 to R93). -/
def biteDemand (i : Stand) (y : Cell) (s : State) : State :=
  let s1 := endFreeze i y s
  let ff := feedforward s1 i y
  composeDemand i ((onEntry y.serial i (fun e => { e with ff := ff }) s1).onDemand i fun d =>
    { d with ff := ff })

/-- A monitor update of stand `i` from cell `x` with exit thickness `h`, or nothing where it is passed
over (R95, R96). -/
def monitorUpdate (i : Stand) (x : Cell) (h : Nat) (s : State) : State :=
  if s.stands[i].configured ∧ s.demands[i].freeze = none ∧ s.store.active[i] = some x.product then
    let e := s.store.table[x.product]
    let err : Int := (h : Int) - e.hExit[i]
    let step := scaleQ12 (err * e.kMon[i])
    let s1 := s.onDemand i fun d => { d with trim := clampSym s.stands[i].monLimit (d.trim - step) }
    composeDemand i (onEntry x.serial i (fun n => { n with monUsed := true }) s1)
  else s

/-- A measured exit thickness hm_i is handed on; it is the monitor's source while AFTER-i is installed
(R94). -/
def takeMeasured (i : Stand) (x : Cell) (h : Nat) (s : State) : State :=
  if s.gauges[zoneAfter i].installed then monitorUpdate i x h s else s

/-- A mass-flow thickness hf_i is handed on; it is the monitor's source while AFTER-i is not installed
and mass-flow monitoring is enabled, unless saturated (R94). -/
def takeMassFlow (i : Stand) (x : Cell) (m : MassFlow) (s : State) : State :=
  if ¬ s.gauges[zoneAfter i].installed ∧ s.stands[i].massFlow ∧ ¬ m.saturated then
    monitorUpdate i x m.value s
  else s

/-- Start Tracking's share (R100): terms and freezes cleared for every stand, then the demands composed.
DESIGN CHOICE (log entry 30): in ascending stand order, which R100 does not state. -/
def startDemands (s : State) : State :=
  let s1 := allStands.foldl
    (fun s i => s.onDemand i fun d => { d with ff := 0, trim := 0, freeze := none }) s
  allStands.foldl (fun s i => composeDemand i s) s1

/-- Stop Tracking's share (R100): each demand ends and the freezes are cleared. -/
def stopDemands (s : State) : State :=
  allStands.foldl (fun s i => (endDemand i s).onDemand i fun d => { d with freeze := none }) s

/-- New limits of stand `i` (R11): the terms are clamped and the demand recomposed. -/
def reclampDemand (i : Stand) (s : State) : State :=
  composeDemand i (s.onDemand i fun d =>
    { d with ff := clampSym s.stands[i].ffLimit d.ff, trim := clampSym s.stands[i].monLimit d.trim })

end Sys2Proof.Machine
end

