-- ==== Sys2Proof/Machine/Products.lean ====
section
/-! DEFINITION. The Product Store at work on the strip (chapter 4): the coil a weld takes and the
switch of a stand's active product at a bite. -/

namespace Sys2Proof.Machine

/-- The coil and product a weld takes (R78, R79): the head of the coil list, or coil id 0 and the kept
product when it is empty. -/
def nextCoil (s : State) (kept : Product) : Coil :=
  match s.store.coils with
  | c :: _ => c
  | [] => ⟨0, kept⟩

/-- The Product Store's share of a weld taken (R78, R79): the list loses its head, and the events are
raised, COIL_LIST_EMPTY before WELD_ENTERED (R84). -/
def takeCoil (kept : Product) (s : State) : State :=
  match s.store.coils with
  | c :: rest => raise .weldEntered (.zone 0) none c.id.toNat
      (s.onStore fun t => { t with coils := rest })
  | [] => raise .weldEntered (.zone 0) none 0 (raise .coilListEmpty (.zone 0) none kept.val s)

/-- The Product Store takes the bite of `y` at stand `i` (R82): a differing product is switched in, the
Gap Demand Unit is told, and WELD_AT_STAND is raised. -/
def biteProduct (i : Stand) (y : Cell) (s : State) : State :=
  if s.store.active[i] = some y.product then s
  else
    let s1 := s.onStore fun t => { t with active := upd t.active i fun _ => some y.product }
    raise .weldAtStand (.stand i) (some y.serial) y.product.val (switchDemand i y y.product s1)

/-- Start Tracking's share (R80, R81): the threading product, and the active product of stands 1 to N;
stands above N keep none. -/
def startProducts (p : Product) (s : State) : State :=
  let s1 := s.onStore fun t => { t with threading := some p }
  allStands.foldl
    (fun s i => if withinN s i
      then s.onStore fun t => { t with active := upd t.active i fun _ => some p } else s) s1

/-- Stop Tracking's share (R80, R81): no threading product and no active product. -/
def stopProducts (s : State) : State :=
  s.onStore fun t => { t with threading := none, active := Vector.replicate 5 none }

end Sys2Proof.Machine
end

