-- ==== Sys2Proof/Machine/Gauges.lean ====
section
/-! DEFINITION. The Gauge Measurement Unit (chapter 3): gauge state, attribution of samples, measured
and mass-flow thickness, and standardisation. -/

namespace Sys2Proof.Machine

/-- A length in metres, rounded half up (R67). -/
def inMetres (um : Nat) : Nat := roundHalfUp um 1000000

/-- The code GAUGE_FAULT carries for the state before (R67, R200). -/
def gaugeModeCode : GaugeMode → Nat
  | .absent => 0
  | .measuring => 1
  | .standardizing => 2
  | .fault => 3

/-- The placing test and then the withdrawal test of an installed gauge (R61). -/
def gaugeTests (p : Gauge) (s : State) : State :=
  let r := s.gauges[p]
  if ¬ r.installed then s
  else if r.phase = .waiting ∧ ¬ r.holdOff ∧ r.mode = .measuring ∧
      (r.source = .host ∨ ¬ deferred s p) then
    s.onGauge p fun r => { r with phase := .placed, inFlight := false }
  else if r.phase = .placed ∧ ¬ r.inFlight ∧
      (r.mode ≠ .measuring ∨ (r.source = .length ∧ deferred s p)) then
    s.onGauge p fun r => { r with phase := .waiting }
  else s

/-- Both tests on every gauge, in order (R61). -/
def allGaugeTests (s : State) : State := allGauges.foldl (fun s p => gaugeTests p s) s

/-- A standardisation is complete (R64): GAUGE_STANDARDIZED with the length just before it became 0. -/
def completeStd (p : Gauge) (s : State) : State :=
  raise .gaugeStandardized (.gauge p) none (inMetres s.gauges[p].length)
    (s.onGauge p fun r =>
      { r with length := 0, phase := .none, source := .none, overdue := false, holdOff := false,
               inFlight := false })

/-- The phase after the gauge state goes from `old` to `new` (R63): a STANDARDIZING sample moves a wanted
standardisation to RUNNING; a change to FAULT or ABSENT returns an accepted or running one to
WAITING. -/
def phaseAfter (phase : StdPhase) (old new : GaugeMode) : StdPhase :=
  if new = .standardizing ∧ (phase = .waiting ∨ phase = .placed ∨ phase = .accepted) then .running
  else if (new = .fault ∨ new = .absent) ∧ old ≠ new ∧ (phase = .accepted ∨ phase = .running) then
    .waiting
  else phase

/-- The gauge state is set (R46), with the standardisation steps of R63 and R64 that apply; the tests of
R61 are the caller's. A MEASURING state also clears the hold-off flag. -/
def setGaugeMode (p : Gauge) (new : GaugeMode) (s : State) : State :=
  let old := s.gauges[p].mode
  let ph := phaseAfter s.gauges[p].phase old new
  let s1 := s.onGauge p fun r =>
    { r with mode := new, phase := ph, inFlight := r.inFlight && decide (ph = .placed),
             holdOff := r.holdOff && decide (new ≠ .measuring) }
  let s2 := if new = .fault ∧ old ≠ .fault then
      raise .gaugeFault (.gauge p) none (gaugeModeCode old) s1 else s1
  if new = .measuring ∧ old = .standardizing then completeStd p s2 else s2

/-- The state a sample's status code gives (R46): an unlisted code is FAULT. -/
def sampleMode (b : Byte) : GaugeMode :=
  if b = 1 then .measuring else if b = 2 then .standardizing else .fault

/-- A MEASURING sample not added to any accumulator is counted (R50). -/
def discardSample (p : Gauge) (s : State) : State :=
  s.onGauge p fun r => { r with discarded := satAdd 65535 r.discarded 1 }

/-- An ENTRY sample goes to the pending weld's sum when one is pending, else to the forming cell's
(R48), unless its count is at the cap (R50). -/
def attributeEntry (thickness : Nat) (s : State) : State :=
  match s.track.forming with
  | none => discardSample 0 s
  | some f =>
    match f.pendingWeld with
    | some w =>
      if w.count < 65535 then
        let w1 := { w with sum := w.sum + thickness, count := w.count + 1 }
        s.onTrack fun t => { t with forming := some { f with pendingWeld := some w1 } }
      else discardSample 0 s
    | none =>
      if f.count < 65535 then
        let f1 := { f with sum := f.sum + thickness, count := f.count + 1 }
        s.onTrack fun t => { t with forming := some f1 }
      else discardSample 0 s

/-- The newest cell of a queue (oldest first) that holds stamp k at a distance of at least g (R49). -/
def newestPast (s : State) (p : Gauge) (g : Nat) : Option Cell :=
  s.track.queue.reverse.find? fun c => holdsStamp c p.val && decide (g ≤ distanceIn s c p)

/-- An AFTER-k sample goes to stand list entry k of the newest cell past the gauge (R49), unless none
qualifies or its count is at the cap (R50). `i` is stand k. -/
def attributeAfter (i : Stand) (thickness : Nat) (s : State) : State :=
  let p := zoneAfter i
  match newestPast s p s.gauges[p].g with
  | none => discardSample p s
  | some c =>
    match c.entries[i.val]? with
    | none => discardSample p s
    | some n =>
      if n.count < 65535 then
        onEntry c.serial i (fun e => { e with sum := e.sum + thickness, count := e.count + 1 }) s
      else discardSample p s

/-- A MEASURING sample's thickness is attributed (R47, R48, R49). -/
def attributeSample (p : Gauge) (thickness : Nat) (s : State) : State :=
  match h : p.val with
  | 0 => attributeEntry thickness s
  | j + 1 => attributeAfter ⟨j, by omega⟩ thickness s

/-- A valid sample of gauge `p` is taken, in the order of R47. -/
def takeSample (p : Gauge) (r : GaugeSample) (s : State) : State :=
  let m := sampleMode r.status
  let s1 := setGaugeMode p m s
  let s2 := if m = .measuring ∧ s1.track.mode ≠ .stopped then
      attributeSample p r.thickness.toNat s1 else s1
  gaugeTests p s2

/-- The gauge's node became LOST (R46, R61, R160). -/
def gaugeLost (p : Gauge) (s : State) : State := gaugeTests p (setGaugeMode p .absent s)

/-- A gauge passage at AFTER-i names older neighbour `x`: its measurement is finalised (R52). -/
def finalise (i : Stand) (x : Cell) (s : State) : State :=
  match x.entries[i.val]? with
  | none => s
  | some n =>
    if 1 ≤ n.count then
      let h := roundHalfUp n.sum n.count
      takeMeasured i x h (onEntry x.serial i (fun e => { e with hm := some h }) s)
    else s

/-- The mass-flow thickness of `x` at stand `i` over a length in zone i (R54). -/
def massFlowOf (x : Cell) (len : Nat) : Option MassFlow :=
  match x.measured with
  | none => none
  | some m =>
    if len = 0 then none
    else
      let q := roundHalfUp m.v len
      some (if q ≤ 65535 then ⟨q, false⟩ else ⟨65535, true⟩)

/-- The bite of a newer neighbour with bite stamp `stampY` forms `x`'s mass-flow thickness at stand `i`,
which is written and handed on when present (R54, R55). -/
def formMassFlow (i : Stand) (x : Cell) (stampY : Nat) (s : State) : State :=
  match x.entries[i.val]? with
  | none => s
  | some n =>
    match massFlowOf x (stampY - n.stamp) with
    | none => s
    | some m => takeMassFlow i x m (onEntry x.serial i (fun e => { e with hf := some m }) s)

/-- The length since standardisation grows with the strip that passes (R56), and the length comparisons
are made when it has risen (R57). -/
def growLength (p : Gauge) (amount : Nat) (s : State) : State :=
  let r := s.gauges[p]
  if ¬ r.installed then s
  else
    let len := satAdd (2 ^ 48 - 1) r.length amount
    let s1 := s.onGauge p fun r => { r with length := len }
    if len ≤ r.length then s1
    else
      let due := r.stdLength * 1000000
      let s2 := if due ≤ len ∧ r.phase = .none then
          s1.onGauge p fun r => { r with phase := .waiting, source := .length } else s1
      if 2 * due ≤ len ∧ s2.gauges[p].phase ≠ .none ∧ ¬ r.overdue then
        raise .gaugeOverdue (.gauge p) none (inMetres len)
          (s2.onGauge p fun r => { r with overdue := true })
      else s2

/-- The answer to the STANDARDIZE in a gauge's slot (R62), taken while the phase is PLACED and the work
in the slot is the one that was on the link. -/
def takeStdOutcome (p : Gauge) (o : Handed) (s : State) : State :=
  let r := s.gauges[p]
  if r.phase = .placed ∧ r.inFlight then
    match o with
    | .accept => s.onGauge p fun r => { r with phase := .accepted, inFlight := false }
    | .reject =>
      raise .gaugeStdRefused (.gauge p) none (inMetres r.length)
        (s.onGauge p fun r => { r with phase := .waiting, holdOff := true, inFlight := false })
    | .notDelivered => s.onGauge p fun r => { r with inFlight := false }
  else s

/-- Start Tracking sets the discarded counts to 0 (R50). -/
def startGauges (s : State) : State :=
  allGauges.foldl (fun s p => s.onGauge p fun r => { r with discarded := 0 }) s

/-- A Standardize Gauge is accepted for a gauge (R58, R59): the hold-off clears, NONE becomes WAITING with
source HOST, WAITING or PLACED takes source HOST; the tests follow. -/
def orderStd (p : Gauge) (s : State) : State :=
  gaugeTests p (s.onGauge p fun r =>
    { r with
      holdOff := false
      phase := if r.phase = .none then .waiting else r.phase
      source := if r.phase = .accepted ∨ r.phase = .running then r.source else .host })

end Sys2Proof.Machine
end

