-- ==== Sys2Proof/Machine/Tracking.lean ====
section
/-! DEFINITION. The Tracking Unit (chapter 2): closures, welds, bites, threading, gauge passages, weld
approach, retirement, and the advance of an odometer that runs them in order. -/

namespace Sys2Proof.Machine

/-- A length shown in a 32-bit event value, saturated (R43). -/
def sat32 (n : Nat) : Nat := min n 4294967295

/-- The forming cell `f` closes with length `l0` as the newest cell (R22), and `new` opens; the pool-full
episode closes (R25). -/
def closeForming (f : FormingCell) (l0 : Nat) (new : FormingCell) (s : State) : State :=
  let h0 := roundHalfUp f.sum f.count
  let measured : Option EntryMeasure := if 1 ≤ f.count then some ⟨h0, h0 * l0⟩ else none
  s.onTrack fun t =>
    { t with
      queue := t.queue ++ [
        { serial := t.nextSerial, coil := f.coil, product := f.product, headEnd := f.headEnd,
          weld := f.weld, measured := measured, extended := f.extended, e0 := f.stamp, l0 := l0,
          approach := 0, entries := [] }]
      nextSerial := t.nextSerial + 1
      forming := some new
      poolFull := false }

/-- A forming cell that opens at a stamp with a coil and product, its other fields clear (R22). -/
def freshForming (stamp : Nat) (coil : BitVec 32) (product : Product) : FormingCell :=
  { stamp := stamp, coil := coil, product := product, headEnd := false, weld := false,
    extended := false, sum := 0, count := 0, pendingWeld := none }

/-- The forming cell closes at the present ODO[0], and the new one inherits its coil and product (R22). -/
def closeHere (f : FormingCell) (s : State) : State :=
  closeForming f (formingLength s f) (freshForming s.track.odo[(0 : Fin 6)] f.coil f.product) s

/-- Step 1 of an advance of ODO[0] (R21, R25): a forming cell of at least Q_L closes when a record is
free; else it is flagged extended and a pool-full episode opens if none is open. -/
def closeStep (s : State) : State :=
  match s.track.forming with
  | none => s
  | some f =>
    if formingLength s f < s.mill.ql then s
    else if recordFree s then closeHere f s
    else
      let s1 := s.onTrack fun t => { t with forming := some { f with extended := true } }
      if s.track.poolFull then s1
      else raise .trackingPoolFull (.zone 0) none (sat32 (formingLength s f))
        (s1.onTrack fun t => { t with poolFull := true })

/-- Weld approach of weld cell `y` for stand `i` is signalled (R38): the monitor is frozen and the
approach stand becomes i. -/
def signalApproach (i : Stand) (y : Cell) (s : State) : State :=
  freezeMonitor i y.serial (onCell y.serial (fun c => { c with approach := standNumber i }) s)

/-- The head-end cell of the queue (R21, R32). -/
def headEndCell (s : State) : Option Cell := s.track.queue.find? (·.headEnd)

/-- Tracking becomes RUNNING at the head-end cell's bite of stand N, and THREADING_DONE is raised with
the number of cells in the queue (R34, R43). -/
def threadingDone (i : Stand) (y : Cell) (s : State) : State :=
  if s.track.mode = .threading ∧ y.headEnd ∧ standNumber i = s.mill.n then
    raise .threadingDone (.stand i) (some y.serial) s.track.queue.length
      (s.onTrack fun t => { t with mode := .running })
  else s

/-- Cell `y` bites stand `i` (R30): entry i is added with the present ODO[i], and the bite is handed on
in the order of R31. -/
def bite (i : Stand) (y : Cell) (s : State) : State :=
  let stamp := s.track.odo[zoneAfter i]
  let entry : StandEntry :=
    { stamp := stamp, ff := 0, sum := 0, count := 0, hm := none, hf := none, monUsed := false }
  let s0 := onCell y.serial (fun c => { c with entries := c.entries ++ [entry] }) s
  let s1 := if y.weld ∧ y.approach < standNumber i then signalApproach i y s0 else s0
  let s2 := biteProduct i y s1
  let s3 := biteDemand i y s2
  let s4 := match olderIn s3.track.queue y.serial with
    | some x => formMassFlow i x stamp s3
    | none => s3
  threadingDone i y s4

/-- The bites of step 2 (R30): the oldest cell that waits at the end of the zone bites when its distance
is at least D_k (never the head-end cell while THREADING), and the next is considered. The fuel is
the queue's length: each bite takes one cell out of the zone. -/
def biteLoop (i : Stand) : Nat → State → State
  | 0, s => s
  | fuel + 1, s =>
    match s.track.queue.find? (fun c => waitsAt c (zoneBefore i)) with
    | none => s
    | some y =>
      if y.headEnd ∧ s.track.mode = .threading then s
      else if s.mill.dist[zoneBefore i] ≤ distanceIn s y (zoneBefore i) then
        biteLoop i fuel (bite i y s)
      else s

/-- The cobble check of step 2 for stand `i` (R35). -/
def cobbleCheck (i : Stand) (s : State) : State :=
  match headEndCell s with
  | none => s
  | some y =>
    if s.track.mode = .threading ∧ waitsAt y (zoneBefore i) ∧ s.track.cobble = none ∧
        s.mill.dist[zoneBefore i] + s.mill.biteAllowance < distanceIn s y (zoneBefore i) then
      raiseTrip (.cobble i) y.serial (s.onTrack fun t => { t with cobble := some i })
    else s

/-- Step 2 of an advance of the zone before stand `i` (R19, R30, R35). -/
def biteStep (i : Stand) (s : State) : State := cobbleCheck i (biteLoop i s.track.queue.length s)

/-- A head-end confirmation by roll force at stand `i` while THREADING (R33). -/
def confirmHead (i : Stand) (force : Nat) (s : State) : State :=
  if s.track.mode = .threading ∧ s.stands[i].biteForce ≤ force then
    match headEndCell s with
    | none => s
    | some y =>
      if waitsAt y (zoneBefore i) ∧
          s.mill.dist[zoneBefore i] - s.mill.biteAllowance ≤ distanceIn s y (zoneBefore i) ∧
          s.track.cobble ≠ some i then bite i y s
      else s
  else s

/-- Gauge passages at AFTER-i: cells with stamp i, oldest first, whose distance was below g before the
advance and is at least g after it; each finalises its older neighbour (R36, R52). `before` is
ODO[i] before the advance. -/
def passageStep (i : Stand) (before : Nat) (s : State) : State :=
  let g := s.gauges[zoneAfter i].g
  let crossing := s.track.queue.filter fun y =>
    match stampOf y (standNumber i) with
    | some e => decide (before - e < g) && decide (g ≤ s.track.odo[zoneAfter i] - e)
    | none => false
  crossing.foldl
    (fun s y => match olderIn s.track.queue y.serial with
      | some x => finalise i x s
      | none => s) s

/-- Step 4 for stand `i` (R38): weld approach is signalled for each weld cell within LEAD_i that has not
been signalled for it. -/
def approachStep (i : Stand) (s : State) : State :=
  let near := s.track.queue.filter fun y =>
    y.weld && waitsAt y (zoneBefore i) && decide (y.approach < standNumber i) &&
      decide (s.mill.dist[zoneBefore i] - distanceIn s y (zoneBefore i) ≤ s.stands[i].lead)
  near.foldl (fun s y => signalApproach i y s) s

/-- Steps 2 and 4 of zone 0 after a closure under R25. -/
def afterClosure (s : State) : State := approachStep 0 (biteStep 0 s)

/-- A freed record is offered to the forming cell (R25): a pending weld splits it at its stamp; else a
length of at least Q_L closes it; else the record stays free. -/
def offerRecord (s : State) : State :=
  match s.track.forming with
  | none => s
  | some f =>
    match f.pendingWeld with
    | some w =>
      let second : FormingCell :=
        { stamp := w.stamp, coil := w.coil, product := w.product, headEnd := false, weld := true,
          extended := false, sum := w.sum, count := w.count, pendingWeld := none }
      afterClosure (closeForming f (w.stamp - f.stamp) second s)
    | none => if s.mill.ql ≤ formingLength s f then afterClosure (closeHere f s) else s

/-- Step 5 (R39): the oldest of at least two cells is retired while the second-oldest lies at least R_N
into zone N; each freed record is offered first. `z` is zone N. -/
def retireLoop (z : Zone) : Nat → State → State
  | 0, s => s
  | fuel + 1, s =>
    match s.track.queue with
    | _ :: y :: rest =>
      if holdsStamp y z.val ∧ s.mill.retire ≤ distanceIn s y z then
        retireLoop z fuel (offerRecord (s.onTrack fun t => { t with queue := y :: rest }))
      else s
    | _ => s

/-- The largest odometer reading, 2^48 − 1 (R18). -/
def odoMax : Nat := 2 ^ 48 - 1

/-- The steps of R19 for an advance of ODO[z] whose reading was `before`. -/
def advanceSteps (z : Zone) (before : Nat) (s : State) : State :=
  let s1 := if z.val = 0 then closeStep s else s
  let s2 := match standAtEnd z with
    | some i => if withinN s i then biteStep i s1 else s1
    | none => s1
  let s3 := match h : z.val with
    | 0 => s2
    | j + 1 =>
      let i : Stand := ⟨j, by omega⟩
      if withinN s i ∧ s.gauges[z].installed then passageStep i before s2 else s2
  let s4 := match standAtEnd z with
    | some i => if withinN s i then approachStep i s3 else s3
    | none => s3
  if z.val = s.mill.n then retireLoop z s4.track.queue.length s4 else s4

/-- The gauges tested after an advance of ODO[k]: positions k and k+1 (R61). -/
def testsAfter (z : Zone) (s : State) : State :=
  let s1 := gaugeTests z s
  if h : z.val < 5 then gaugeTests ⟨z.val + 1, by omega⟩ s1 else s1

/-- An advance of ODO[z] by a length increment (R18, R19): nothing while STOPPED; the odometer saturates;
then the steps in order, the gauge's length (R56, R57) and the standardisation tests (R61). -/
def advance (z : Zone) (increment : Nat) (s : State) : State :=
  if s.track.mode = .stopped then s
  else
    let before := s.track.odo[z]
    let after := satAdd odoMax before increment
    let s1 := s.onTrack fun t => { t with odo := upd t.odo z fun _ => after }
    testsAfter z (growLength z (after - before) (advanceSteps z before s1))

/-- A weld indication is taken, by the cases of R23, with the Product Store's share (R78, R79) and the
standardisation tests that follow a weld taken (R61). DESIGN CHOICE (log entry 26): a weld cell that a
second weld closes runs no step 4 there, and its approach to stand 1 is signalled at the next advance of
ODO[0], also where LEAD_1 is already reached (R38 leaves the two open). -/
def takeWeld (s : State) : State :=
  match s.track.mode, s.track.forming with
  | .stopped, _ => s
  | _, none => s
  | _, some f =>
    let odo := s.track.odo[(0 : Fin 6)]
    match f.pendingWeld with
    | some w => raise .weldIgnored (.zone 0) none (sat32 (odo - w.stamp)) s
    | none =>
      let c := nextCoil s f.product
      if formingLength s f = 0 then
        let f1 := { f with weld := true, coil := c.id, product := c.product }
        allGaugeTests (takeCoil f.product (s.onTrack fun t => { t with forming := some f1 }))
      else if recordFree s then
        let f1 := { freshForming odo c.id c.product with weld := true }
        allGaugeTests (takeCoil f.product (closeForming f (formingLength s f) f1 s))
      else
        let w : PendingWeld :=
          { stamp := odo, coil := c.id, product := c.product, sum := 0, count := 0 }
        let f1 := { f with pendingWeld := some w }
        allGaugeTests (takeCoil f.product (s.onTrack fun t => { t with forming := some f1 }))

/-- The Tracking Unit takes a stand report (R20): the confirmation, then the advance. -/
def trackStand (i : Stand) (r : StandReport) (s : State) : State :=
  advance (zoneAfter i) r.increment.toNat (confirmHead i r.force.toNat s)

/-- The Tracking Unit takes an entry report (R20): the advance, then the weld. -/
def trackEntry (r : EntryReport) (s : State) : State :=
  let s1 := advance 0 r.increment.toNat s
  if reportWeld r then takeWeld s1 else s1

end Sys2Proof.Machine
end

