-- ==== Sys2Proof/Machine/Protection.lean ====
section
/-! DEFINITION. The Trip Controller's share of reports and lines (chapter 7): drive states, tension
readings and strip breaks, emergency-stop lines, active sources. -/

namespace Sys2Proof.Machine

/-- A reported drive state code (R137, R211): an unlisted code is held as RUNNING. -/
def driveOf (b : Byte) : DriveState :=
  if b = 2 then .stopping else if b = 3 then .stopped else .running

/-- A tension reading of a zone (R142), with the strip break it raises at a count of 2 or more (R143). -/
def tensionReading (z : Fin 5) (tension : Nat) (s : State) : State :=
  let low := tensioned s z && decide (tension < breakTension s z)
  let count := if low then satAdd 255 s.trips.low[z] 1 else 0
  let s1 := s.onTrips fun t => { t with low := upd t.low z fun _ => count }
  if 2 ≤ count then raiseTrip (.stripBreak z) z.val s1 else s1

/-- The Trip Controller takes stand `i`'s report (R171): drive state, then the tension of zone i where
one is carried (zones 1 to N−1, R141), then the confirmation test. -/
def protectStand (i : Stand) (r : StandReport) (s : State) : State :=
  let s1 := s.onTrips fun t => { t with drive := upd t.drive i fun _ => driveOf r.drive }
  let s2 := if h : standNumber i < s.mill.n ∧ standNumber i < 5 then
      tensionReading ⟨standNumber i, h.2⟩ r.tension.toNat s1 else s1
  confirmTest s2

/-- The Trip Controller takes an entry report (R172): drive state, tension of zone 0, confirmation test. -/
def protectEntry (r : EntryReport) (s : State) : State :=
  let s1 := s.onTrips fun t => { t with driveEntry := driveOf r.drive }
  confirmTest (tensionReading 0 r.tension.toNat s1)

/-- A change of an ESTOP line's level (R140): low sets PRESSED and raises ESTOP_x, high sets RELEASED. -/
def estopChange (x : Fin 8) (low : Bool) (s : State) : State :=
  if s.trips.pressed[x] = low then s
  else
    let s1 := s.onTrips fun t => { t with pressed := upd t.pressed x fun _ => low }
    if low then raiseTrip (.estop x) x.val s1 else s1

/-- The source of a record index is active at a Clear Trips (R148). -/
def sourceActive (s : State) (k : Source) : Bool :=
  if h : k.val < 8 then s.trips.pressed[(⟨k.val, h⟩ : Fin 8)]
  else if k.val = 18 then roleInState s .entry .lost
  else if h : 19 ≤ k.val ∧ k.val ≤ 23 then
    roleInState s (.stand ⟨k.val - 19, by omega⟩) .lost
  else if k.val = 30 then s.link.stuck
  else false

/-- The source indices of the LATCHED records whose source is active, ascending (R148). -/
def activeSources (s : State) : List Source :=
  allSources.filter fun k => s.trips.records[k].latched && sourceActive s k

/-- Every record CLEAR, with its class and affected set kept (R149). -/
def clearAll (v : Vector TripRecord 32) : Vector TripRecord 32 :=
  mapTable v fun r => clearRecord r.cls r.affected

/-- A STOP of the part on the link no longer counts toward the stop sent (R149). -/
def uncountStop (l : Link) : Link :=
  { l with inFlight := l.inFlight.map fun f => { f with item := match f.item with
      | .stop lv _ => .stop lv false
      | it => it } }

/-- The effects of an accepted Clear Trips (R149). -/
def clearTripTable (s : State) : State :=
  let n := latchedCount s
  let s1 := s.onTrips fun t =>
    { t with records := clearAll t.records, escalation := none, confirm := .idle, confirmT := none,
             stopWanted := .none, stopSent := .none }
  raise .tripsCleared .none none n (s1.onLink uncountStop)

/-- The emergency-stop lines found pressed at a reset are raised in ascending order (R140, R146). -/
def raisePressed (s : State) : State :=
  allLines.foldl (fun s x => if s.trips.pressed[x] then raiseTrip (.estop x) x.val s else s) s

end Sys2Proof.Machine
end

