-- ==== Sys2Proof/Machine/StandLink.lean ====
section
/-! DEFINITION. The Stand Link Controller (chapter 8): roles, presence, arbitration, the part's
transactions and their outcomes, node frames and their delivery, the stuck link and the link reset. -/

namespace Sys2Proof.Machine

/-! ### Roles (R3, R4) -/

/-- Give a role to an address (R3, R4): an address that holds it already is left as it was; otherwise the
address that held it before becomes NONE, and both entries take the values of a role change. -/
def giveRole (a : Node) (r : Role) (s : State) : State :=
  if s.nodes[a].role = r then s
  else
    let s1 := match roleNode s r with
      | some b => s.onNode b fun _ => nodeReset .none
      | none => s
    s1.onNode a fun _ => nodeReset r

/-- Take a role from the address that holds it, if any (R3). -/
def dropRole (r : Role) (s : State) : State :=
  match roleNode s r with
  | some b => s.onNode b fun _ => nodeReset .none
  | none => s

/-! ### Presence (R157 to R160) -/

/-- The code of a role (R180, R200). -/
def roleCode : Role → Nat
  | .none => 0xFF
  | .entry => 0
  | .stand i => 1 + i.val
  | .gauge p => 6 + p.val

/-- A valid frame from a node updates its entry first, and makes it PRESENT (R157). -/
def frameArrived (a : Node) (s : State) : State :=
  let s1 := s.onNode a fun n => { n with lastFrame := s.now, failures := 0, state := .present }
  if s.nodes[a].state = .present then s1
  else raise .nodePresent (.node a) none (roleCode s.nodes[a].role) s1

/-- A node becomes LOST with a cause, 0 silence or 1 failures, in the order of R160. -/
def loseNode (a : Node) (cause : Int) (s : State) : State :=
  let s1 := raise .nodeLost (.node a) none cause (s.onNode a fun n => { n with state := .lost })
  match s.nodes[a].role with
  | .none => s1
  | .entry => if s.track.mode = .stopped then s1 else raiseTrip .nodeLostEntry a.val s1
  | .stand i => if s.track.mode = .stopped then s1 else raiseTrip (.nodeLost i) a.val s1
  | .gauge p => gaugeLost p s1

/-- A node's failure count rises, and a PRESENT node becomes LOST when it reaches 3 (R159). -/
def countFailure (a : Node) (s : State) : State :=
  let s1 := s.onNode a fun n => { n with failures := satAdd 3 n.failures 1 }
  if s.nodes[a].state = .present ∧ s1.nodes[a].failures = 3 then loseNode a 1 s1 else s1

/-- The silence test of a node (R158). -/
def silenceTest (a : Node) (s : State) : State := if silent s a then loseNode a 0 s else s

/-- The silence test of every node, in ascending address order (R16, R158; log entry 12). -/
def allSilenceTests (s : State) : State := allNodes.foldl (fun s a => silenceTest a s) s

/-! ### The end of a transaction of the part (R164 to R166, R173) -/

/-- How a transaction of the part to a node ends (R164, R173, R176). -/
inductive TxnEnd where
  | answered (a : Answer)
  | noResponse
  | abandoned
  deriving DecidableEq, Repr

/-- The form in which the owner takes an outcome (R166). -/
def handedAs : TxnEnd → Handed
  | .answered .accept => .accept
  | .answered .reject => .reject
  | .answered .busy => .notDelivered
  | .answered .checkError => .notDelivered
  | .noResponse => .notDelivered
  | .abandoned => .notDelivered

/-- The link counters advance at a failed or abandoned transaction (R178). -/
def countEnd (e : TxnEnd) (c : LinkCounters) : LinkCounters :=
  match e with
  | .answered .checkError => { c with failed := satAdd 65535 c.failed 1 }
  | .noResponse => { c with failed := satAdd 65535 c.failed 1 }
  | .abandoned => { c with abandoned := satAdd 65535 c.abandoned 1 }
  | .answered .accept => c
  | .answered .reject => c
  | .answered .busy => c

/-- The target's failure count at the end of a transaction (R159, R164). -/
def targetFailures (e : TxnEnd) (target : Option Node) (s : State) : State :=
  match target with
  | none => s
  | some a => match e with
    | .answered .checkError => countFailure a s
    | .noResponse => countFailure a s
    | .abandoned => s
    | .answered .accept => s.onNode a fun n => { n with failures := 0 }
    | .answered .reject => s.onNode a fun n => { n with failures := 0 }
    | .answered .busy => s.onNode a fun n => { n with failures := 0 }

/-- The outcome is handed to the owner of the item (R166). A STOP cut before its end has not been sent:
nothing changes (R134). -/
def handOn (item : Item) (e : TxnEnd) (s : State) : State :=
  match item with
  | .stop _ _ => s
  | .gapOpen i n => takeOutcome i n (handedAs e) s
  | .gap i _ n => takeOutcome i n (handedAs e) s
  | .standardize p => takeStdOutcome p (handedAs e) s

/-- The part's transaction is over on the link: HOLD released, response timer stopped (R164, R165). -/
def releaseLink (s : State) : State :=
  s.onLink fun l => { l with state := .free, inFlight := none, respTimer := none }

/-- The end of the transaction `f`: the counters, the target's failure count, then the hand-on (R164,
R166; log entry 10 for the order). The link itself is the caller's. -/
def endTxn (f : InFlight) (e : TxnEnd) (s : State) : State :=
  let s1 := s.onLink fun l => { l with counters := countEnd e l.counters }
  handOn f.item e (targetFailures e f.target s1)

/-- An item is normal work (R167). -/
def normalItem : Item → Bool
  | .stop _ _ => false
  | .gapOpen _ _ => false
  | .gap _ _ _ => true
  | .standardize _ => true

/-- R173: with a normal item in flight and an urgent slot filled, the transaction ends ABANDONED, at the
end of the event that filled the slot (log entry 9). -/
def abandonForUrgent (s : State) : State :=
  match s.link.inFlight with
  | none => s
  | some f =>
    if normalItem f.item ∧ urgentFilled s then endTxn f .abandoned (releaseLink s) else s

/-! ### Arbitration and choosing work (R161 to R163, R168, R174) -/

/-- The opportunity (R161, R162): with the link FREE and no transaction of its own the part contends
URGENT for urgent work, NORMAL for normal work unless yielding, else not; the yield is cleared. DESIGN
CHOICE (log entry 31): no opportunity falls while the link is not FREE, also not during a LINK-RESET
pulse with HOLD released: there the part does not contend and keeps the yield. -/
def opportunity (s : State) : State :=
  if s.link.state = .free ∧ s.link.inFlight = none then
    let cls : Option LinkClass :=
      if urgentFilled s then some .urgent
      else if normalFilled s ∧ ¬ s.link.yield then some .normal
      else none
    s.onLink fun l => { l with contending := cls, yield := false }
  else s

/-- The first filled ring position after `r`, going round and wrapping (R174). The fuel is eleven. -/
def nextRing (s : State) : Nat → Fin 11 → Option (Fin 11)
  | 0, _ => none
  | fuel + 1, r =>
    let n : Fin 11 := r + 1
    if ringFilled s n then some n else nextRing s fuel n

/-- The item in the slot at a ring position (R174). -/
def ringItem (s : State) (r : Fin 11) : Option Item :=
  if h : r.val < 5 then
    let i : Stand := ⟨r.val, h⟩
    s.actuators[i].work.map fun w => .gap i w.cmd w.number
  else some (.standardize ⟨r.val - 5, by omega⟩)

/-- The lowest-numbered stand whose GAP_OPEN slot is filled (R168). -/
def firstOpen (s : State) : Option Stand := allStands.find? (openFilled s)

/-- The item chosen at the moment of winning, with the new ring position (R168). -/
def chooseItem (s : State) : Option (Item × Fin 11) :=
  if stopFilled s then some (.stop s.trips.stopWanted true, s.link.ring)
  else match firstOpen s with
    | some i => s.actuators[i].work.map fun w => (.gapOpen i w.number, s.link.ring)
    | none => match nextRing s 11 s.link.ring with
      | some r => (ringItem s r).map fun it => (it, r)
      | none => none

/-- The target address of an item, read from the node table when it is chosen (R163). -/
def itemTarget (s : State) : Item → Option Node
  | .stop _ _ => none
  | .gapOpen i _ => roleNode s (.stand i)
  | .gap i _ _ => roleNode s (.stand i)
  | .standardize p => roleNode s (.gauge p)

/-- The owner sees its item as IN_FLIGHT (R163, R108). -/
def markInFlight (item : Item) (s : State) : State :=
  match item with
  | .stop _ _ => s
  | .gapOpen i _ => s.onActuator i fun a =>
      { a with work := a.work.map fun w => { w with phase := .inFlight } }
  | .gap i _ _ => s.onActuator i fun a =>
      { a with work := a.work.map fun w => { w with phase := .inFlight } }
  | .standardize p => s.onGauge p fun r => { r with inFlight := true }

/-- The part wins the arbitration it contended (R162, R163, R168): with no slot filled it sends nothing;
else the chosen item is in flight, the ring moves for normal work, and the yield is set when a node
contended and the part contended NORMAL or sends normal work. DESIGN CHOICE (log entry 32): a win that
sends nothing leaves the data pair undriven, so the winner's parity bit of R210 shows only with a
transaction. -/
def winArbitration (nodeContended : Bool) (s : State) : State :=
  match s.link.contending with
  | none => s
  | some cls =>
    if s.link.state ≠ .free then s
    else
      let s1 := s.onLink fun l => { l with contending := none, nodeContended := nodeContended }
      match chooseItem s with
      | none => s1
      | some (item, ring) =>
        let yields := nodeContended && (decide (cls = .normal) || normalItem item)
        markInFlight item (s1.onLink fun l =>
          { l with state := .part, ring := ring, yield := yields,
                   inFlight := some ⟨item, cls, itemTarget s item, false⟩ })

/-- The part's arbitration byte in a class (R210). -/
def partByte (cls : LinkClass) : Byte := arbitrationByte (decide (cls = .urgent)) 15

/-- A node with a class and address wins (R161): its byte must rank above the part's when the part
contends (R210). The link state becomes NODE and its frame is awaited. During a LINK-RESET pulse only HOLD
is seen, for the pulse's end to find (R176; log entry 14). -/
def nodeWins (urgent : Bool) (address : BitVec 4) (s : State) : State :=
  let outranked : Bool := match s.link.contending with
    | some cls => decide ((arbitrationByte urgent address).toNat ≤ (partByte cls).toNat)
    | none => false
  match s.link.state with
  | .free => if outranked then s
    else s.onLink fun l =>
      { l with state := .node, holdOther := true, sender := some address, answer := none,
               nodeContended := l.nodeContended || l.contending.isSome, contending := none }
  | .resetting => s.onLink fun l => { l with holdOther := true }
  | .node => s
  | .part => s

/-- Another party releases HOLD (R154, R169, R175): NODE becomes FREE, the stuck flag clears, and a frame
under reception is discarded. During a pulse only the level and the flag change. -/
def releaseHold (s : State) : State :=
  match s.link.state with
  | .node => s.onLink fun l =>
      { l with state := .free, holdOther := false, stuck := false, sender := none, answer := none }
  | .resetting => s.onLink fun l => { l with holdOther := false, stuck := false }
  | .free => s
  | .part => s

/-! ### Transactions of the part on the line (R163 to R165, R210, R211) -/

/-- The check byte of a transaction to a node has been sent: the response timer starts (R164). -/
def frameSent (s : State) : State :=
  match s.link.inFlight with
  | none => s
  | some f =>
    match f.item with
    | .stop _ _ => s
    | _ =>
      if s.link.state = .part ∧ ¬ f.frameSent then
        s.onLink fun l =>
          { l with inFlight := some { f with frameSent := true }, respTimer := some s.respUs }
      else s

/-- A STOP broadcast has been sent (R165): HOLD is released, and its kind becomes the stop sent if
stronger, unless a Clear Trips came while it was on the link (R134, R149). -/
def broadcastSent (s : State) : State :=
  match s.link.inFlight with
  | none => s
  | some f =>
    match f.item with
    | .stop lv counts =>
      (releaseLink s).onTrips fun t =>
        { t with stopSent :=
            if counts ∧ stopRank t.stopSent < stopRank lv then lv else t.stopSent }
    | _ => s

/-- A byte is received after the check byte (R164): the transaction ends with it, whatever it is. -/
def responseByte (b : Byte) (parity : Bool) (s : State) : State :=
  match s.link.inFlight with
  | none => s
  | some f =>
    if f.frameSent then
      let e : TxnEnd := match parity, answerOf b with
        | true, some a => .answered a
        | _, _ => .noResponse
      endTxn f e (releaseLink s)
    else s

/-- The response timer expires (R164) once the elapsed µs reach its load (log entry 4). -/
def responseExpiry (elapsedUs : Nat) (s : State) : State :=
  match s.link.inFlight, s.link.respTimer with
  | some f, some load =>
    if f.frameSent ∧ load ≤ elapsedUs then endTxn f .noResponse (releaseLink s) else s
  | _, _ => s

/-- The kind code of an item (R211). -/
def itemKind : Item → Byte
  | .stop _ _ => 0x41
  | .gapOpen _ _ => 0x23
  | .gap _ (.travel _) _ => 0x21
  | .gap _ (.trim _) _ => 0x22
  | .gap _ .open_ _ => 0x23
  | .standardize _ => 0x31

/-- The payload of an item (R211). -/
def itemPayload : Item → List Byte
  | .stop lv _ => be 1 (stopRank lv)
  | .gapOpen _ _ => []
  | .gap _ (.travel p) _ => beInt 4 p
  | .gap _ (.trim v) _ => beInt 4 v
  | .gap _ .open_ _ => []
  | .standardize _ => []

/-- The command number an item's header carries (R163). -/
def itemNumber : Item → Byte
  | .stop _ _ => 0
  | .gapOpen _ n => n
  | .gap _ _ n => n
  | .standardize _ => 0

/-- The frame of the part's transaction: header, payload and check byte (R163, R210, R211). -/
def inFlightFrame (f : InFlight) : List Byte :=
  let target : Byte := match f.target with
    | some a => BitVec.ofNat 8 a.val
    | none => 0x1F
  let payload := itemPayload f.item
  let body := [target, itemKind f.item, BitVec.ofNat 8 payload.length, itemNumber f.item] ++ payload
  body ++ [crc8 body]

/-- The part's transaction on the data pair, bit by bit: the arbitration byte with the winner's parity bit,
then each byte of the frame (R163, R210). -/
def inFlightBits (f : InFlight) : List Bool :=
  pairArbitration (partByte f.cls) true ++ (inFlightFrame f).flatMap pairByte

/-- What a running part drives on the data pair, by its place in the transaction: its own transaction, its
arbitration byte while it contends, or its answer to the node frame in hand (R161, R163, R169, R210). -/
def Link.pairBits (l : Link) : List Bool :=
  match l.inFlight, l.contending, l.answer with
  | some f, _, _ => inFlightBits f
  | none, some cls, _ => pairArbitration (partByte cls) false
  | none, none, some a => pairByte (answerByte a)
  | none, none, none => []

/-- What the part drives on the data pair: nothing while it is held in reset (R197) or without supply
(R139). The bits that nodes drive come as bytes with their parity judged (log entry 28). -/
def State.pairBits (s : State) : List Bool :=
  match s.power with
  | .running => s.link.pairBits
  | .inReset => []
  | .off => []

/-! ### Frames from nodes (R169 to R172) -/

/-- What a frame's checks decide (R169). -/
inductive Verdict where
  | unanswered
  | checkError
  | reject
  | standReport (a : Node) (i : Stand) (r : StandReport)
  | entryReport (a : Node) (r : EntryReport)
  | gaugeSample (a : Node) (p : Gauge) (r : GaugeSample)
  deriving DecidableEq, Repr

/-- A sender's address as a node address, none for 15 (R169). -/
def nodeOf (sender : BitVec 4) : Option Node :=
  if h : sender.toNat < 15 then some ⟨sender.toNat, h⟩ else none

/-- The checks of R169 in order, on a frame from a sender. -/
def judgeFrame (s : State) (sender : BitVec 4) (f : NodeFrame) : Verdict :=
  if ¬ f.targetParity ∨ f.target ≠ 0x0F then .unanswered
  else if ¬ f.parity ∨ crc8 (nodeFrameBody f) ≠ f.check then .checkError
  else match nodeOf sender with
    | none => .reject
    | some a => match s.nodes[a].role with
      | .stand i => if f.kind = 0x61 ∧ f.payload.length = 14 then
          .standReport a i (standReportOf f.command f.payload) else .reject
      | .entry => if f.kind = 0x62 ∧ f.payload.length = 8 then
          .entryReport a (entryReportOf f.payload) else .reject
      | .gauge p => if f.kind = 0x63 ∧ f.payload.length = 3 then
          .gaugeSample a p (gaugeSampleOf f.payload) else .reject
      | .none => .reject

/-- A valid stand report: the node table first, then the units in the order of R171. -/
def deliverStand (a : Node) (i : Stand) (r : StandReport) (s : State) : State :=
  let s1 := frameArrived a s
  let s2 := s1.onNode a fun n => { n with remote := !reportLocal r, echo := r.echo }
  takeReport i r (protectStand i r (trackStand i r s2))

/-- A valid entry report: the node table first, then the units in the order of R172. -/
def deliverEntry (a : Node) (r : EntryReport) (s : State) : State :=
  protectEntry r (trackEntry r (frameArrived a s))

/-- A valid gauge sample: the node table first, then the Gauge Measurement Unit (R172, R47). -/
def deliverSample (a : Node) (p : Gauge) (r : GaugeSample) (s : State) : State :=
  takeSample p r (frameArrived a s)

/-- A frame answered REJECT (R169): the counter, and the failure count of a sender 0 to 14. -/
def rejectFrame (sender : BitVec 4) (s : State) : State :=
  let s1 := s.onLink fun l =>
    { l with counters := { l.counters with rejected := satAdd 65535 l.counters.rejected 1 } }
  match nodeOf sender with
  | some a => countFailure a s1
  | none => s1

/-- The frame under reception reaches its check byte and is judged (R169, R170). Without a frame under
reception nothing happens. -/
def receiveFrame (f : NodeFrame) (s : State) : State :=
  match s.link.state, s.link.sender with
  | .node, some sender =>
    let answered (a : Option Answer) : State :=
      s.onLink fun l => { l with sender := none, answer := a }
    match judgeFrame s sender f with
    | .unanswered => answered none
    | .checkError => (answered (some .checkError)).onLink fun l =>
        { l with counters := { l.counters with checkErrors := satAdd 65535 l.counters.checkErrors 1 } }
    | .reject => rejectFrame sender (answered (some .reject))
    | .standReport a i r => deliverStand a i r (answered (some .accept))
    | .entryReport a r => deliverEntry a r (answered (some .accept))
    | .gaugeSample a p r => deliverSample a p r (answered (some .accept))
  | _, _ => s

/-! ### Stuck link and link reset (R175 to R177) -/

/-- Whether fewer than 1,000 ms have passed since the last link reset (R175). -/
def recentReset (s : State) : Bool :=
  match s.link.lastReset with
  | some t => decide ((s.now - t).toNat < 1000)
  | none => false

/-- A LINK-RESET pulse starts (R176): the part's transaction ends ABANDONED, a node frame under reception
is discarded, failure counts and the yield are cleared, the time is noted and the counter advances. DESIGN
CHOICE (log entry 33): an arbitration the part contends but has not yet won is dropped. -/
def startPulse (s : State) : State :=
  let s1 := s.onLink fun l =>
    { l with state := .resetting, inFlight := none, respTimer := none, sender := none, answer := none,
             contending := none, yield := false, lastReset := some s.now,
             counters := { l.counters with resets := satAdd 65535 l.counters.resets 1 } }
  let s2 := allNodes.foldl (fun s a => s.onNode a fun n => { n with failures := 0 }) s1
  match s.link.inFlight with
  | some f => endTxn f .abandoned s2
  | none => s2

/-- A stuck link is detected (R175) once another party has asserted HOLD for more than TXN_LIMIT_US: the
flag and LINK_RESET, LINK_FAULT when the last link reset is recent, and a pulse. -/
def stuckDetected (heldUs : Nat) (s : State) : State :=
  if s.link.state = .node ∧ s.txnLimitUs < heldUs then
    let s1 := if s.link.stuck then s
      else raise .linkReset .none none 0 (s.onLink fun l => { l with stuck := true })
    let s2 := if recentReset s then raiseTrip .linkFault 0 s1 else s1
    startPulse s2
  else s

/-- The pulse ends (R176): the link state is taken from HOLD, and a HOLD found released clears the stuck
flag (R175). -/
def pulseEnd (s : State) : State :=
  if s.link.state = .resetting then
    s.onLink fun l =>
      if l.holdOther then { l with state := .node } else { l with state := .free, stuck := false }
  else s

end Sys2Proof.Machine
end

