-- ==== Sys2Proof/Machine/Configure.lean ====
section
/-! DEFINITION. Results of requests (R189, R201) and the three configuration requests (chapter 1):
Configure Mill, Configure Stand and Configure Gauge, with their checks in order and their effects. -/

namespace Sys2Proof.Machine

/-! ### Results (R188, R189, R201) -/

/-- Result codes: OK and the refusal codes (R189). -/
inductive ResultCode where
  | ok
  | badFrameCode
  | badParam
  | state
  | notConfigured
  | nodeAbsent
  | inUse
  | full
  | badProduct
  | tripped
  | sourceActive
  deriving DecidableEq, Repr

/-- The result byte of a result code (R201). -/
def resultByte : ResultCode → Byte
  | .ok => 0x00
  | .badFrameCode => 0x01
  | .badParam => 0x02
  | .state => 0x03
  | .notConfigured => 0x04
  | .nodeAbsent => 0x05
  | .inUse => 0x06
  | .full => 0x07
  | .badProduct => 0x08
  | .tripped => 0x09
  | .sourceActive => 0x0A

/-- A request's result: its code and result payload (R188). -/
structure Result where
  code : ResultCode
  payload : List Byte
  deriving DecidableEq, Repr

/-- What an owner gives back: the state it leaves, and the result. -/
abbrev Served := State × Result

/-- Accepted, with a result payload (R204). -/
def accept (payload : List Byte) (s : State) : Served := (s, ⟨.ok, payload⟩)

/-- Refused with a code and no payload: the state is left exactly as it was (R189). -/
def refuse (code : ResultCode) (s : State) : Served := (s, ⟨code, []⟩)

/-- Refused with BAD_PARAM and the number of the failing check, 0 where a rule numbers none (R189). -/
def badParam (check : Nat) (s : State) : Served := (s, ⟨.badParam, be 1 check⟩)

/-- The number of the first check that fails, if any (R5, R10, R14). -/
def firstFailing : List (Nat × Bool) → Option Nat
  | [] => none
  | (n, ok) :: rest => if ok then firstFailing rest else some n

/-- A value lies in a range, bounds included. -/
def inRange (lo hi v : Nat) : Bool := decide (lo ≤ v ∧ v ≤ hi)

/-- A node address field names an address 0 to 14. -/
def addrOf (b : Byte) : Option Node := if h : b.toNat < 15 then some ⟨b.toNat, h⟩ else none

/-! ### Configure Mill (R5 to R7) -/

/-- The six zone distances a Configure Mill carries. -/
def millDist (p : MillParams) : Vector Nat 6 :=
  #v[p.d0.toNat, p.d1.toNat, p.d2.toNat, p.d3.toNat, p.d4.toNat, p.d5.toNat]

/-- A property holds of every D_k for k = 0 to N−1 of a Configure Mill. -/
def allDist (p : MillParams) (f : Nat → Bool) : Bool :=
  allGauges.all fun z => !decide (z.val < p.n.toNat) || f (millDist p)[z]

/-- Stand `i` stays configured: it is configured and its number is at most the new N (R5). -/
def standStays (s : State) (p : MillParams) (i : Stand) : Bool :=
  s.stands[i].configured && decide (standNumber i ≤ p.n.toNat)

/-- Gauge `z` stays configured: it is installed and its position exists for the new N (R5, R7). -/
def gaugeStays (s : State) (p : MillParams) (z : Gauge) : Bool :=
  s.gauges[z].installed && decide (z.val ≤ p.n.toNat)

/-- Check 12 of R5: the entry address holds NONE or ENTRY, or the role of what does not stay. -/
def entryAddrFree (s : State) (p : MillParams) : Bool :=
  match addrOf p.entryAddr with
  | none => false
  | some a => match s.nodes[a].role with
    | .none => true
    | .entry => true
    | .stand i => !standStays s p i
    | .gauge z => !gaugeStays s p z

/-- Check 13 of R5: each stand that stays has LEAD_i at most the new D_{i−1}. -/
def leadsFit (s : State) (p : MillParams) : Bool :=
  allStands.all fun i => !standStays s p i || decide (s.stands[i].lead ≤ (millDist p)[zoneBefore i])

/-- Check 14 of R5: each AFTER-k that stays has g_k at most the new D_k − 1, and g_N below the new R_N. -/
def gaugesFit (s : State) (p : MillParams) : Bool :=
  allGauges.all fun z => z == 0 || !gaugeStays s p z ||
    (if z.val < p.n.toNat then decide (s.gauges[z].g < (millDist p)[z])
     else decide (s.gauges[z].g < p.retire.toNat))

/-- The checks of R5 in the order of their numbers. -/
def millChecks (s : State) (p : MillParams) : List (Nat × Bool) :=
  [(1, inRange 2 5 p.n.toNat),
   (2, inRange 50000 2000000 p.ql.toNat),
   (3, allDist p (inRange 100000 30000000)),
   (4, decide (p.ql.toNat + 10000 ≤ p.d0.toNat)),
   (5, inRange 1 30000000 p.retire.toNat),
   (6, decide (p.biteAllowance.toNat ≤ 2000000)),
   (7, allDist p fun d => decide (p.biteAllowance.toNat < d)),
   (8, inRange 2 1000 p.silenceMs.toNat),
   (9, inRange 10 5000 p.stopConfirm.toNat),
   (10, inRange 20 2000 p.respUs.toNat && inRange 200 20000 p.txnLimitUs.toNat &&
      decide (p.respUs.toNat < p.txnLimitUs.toNat)),
   (11, decide (p.entryAddr.toNat < 15)),
   (12, entryAddrFree s p),
   (13, leadsFit s p),
   (14, gaugesFit s p)]

/-- D_k as kept: the request's for k below N, else 0 (R7). -/
def keptDist (p : MillParams) (z : Zone) : Nat :=
  if z.val < p.n.toNat then (millDist p)[z] else 0

/-- The mill record an accepted Configure Mill writes (R7): D_k for k of N or more read as 0. -/
def millRecordOf (p : MillParams) : MillRecord :=
  { configured := true, n := p.n.toNat, ql := p.ql.toNat,
    dist := #v[keptDist p 0, keptDist p 1, keptDist p 2, keptDist p 3, keptDist p 4, keptDist p 5],
    retire := p.retire.toNat, biteAllowance := p.biteAllowance.toNat,
    breakTension0 := p.breakTension0.toNat, entryAddr := addrOf p.entryAddr,
    silenceMs := p.silenceMs.toNat, stopConfirm := p.stopConfirm.toNat,
    respUs := p.respUs.toNat, txnLimitUs := p.txnLimitUs.toNat }

/-- The drive state of a role becomes UNKNOWN when the role is given to an address that does not hold it
(R137; log entry 16). -/
def forgetDrive (a : Node) (r : Role) (s : State) : State :=
  if s.nodes[a].role = r then s
  else s.onTrips fun t => match r with
    | .entry => { t with driveEntry := .unknown }
    | .stand i => { t with drive := upd t.drive i fun _ => .unknown }
    | _ => t

/-- Stand `i` becomes unconfigured (R7): its record, role, Gap Demand and Positioning state return to
their reset values. -/
def removeStand (i : Stand) (s : State) : State :=
  (((dropRole (.stand i) s).onStand i fun _ => standReset).onDemand i fun _ => demandReset).onActuator
    i fun _ => actuatorReset

/-- Gauge `p` is uninstalled (R15): its address goes to NONE and its record to the values of R12. -/
def removeGauge (p : Gauge) (s : State) : State :=
  (dropRole (.gauge p) s).onGauge p fun _ => gaugeReset

/-- The effect of an accepted Configure Mill (R7), with the silence test (R16, R158) and the stop
confirmation test (R135) that follow it. -/
def millEffect (p : MillParams) (a : Node) (s : State) : State :=
  let s1 := s.onMill fun _ => millRecordOf p
  let s2 := giveRole a .entry (forgetDrive a .entry s1)
  let s3 := allStands.foldl
    (fun s i => if s.stands[i].configured ∧ ¬ withinN s i then removeStand i s else s) s2
  let s4 := allGauges.foldl
    (fun s z => if s.gauges[z].installed ∧ s.mill.n < z.val then removeGauge z s else s) s3
  confirmTest (allSilenceTests s4)

/-- A stand blocks Configure Mill: configured and in an actuator state other than OPEN (R5). -/
def blocksMill (s : State) (i : Stand) : Bool :=
  s.stands[i].configured && decide (s.actuators[i].state ≠ .open_)

/-- Configure Mill (R5). -/
def serveConfigureMill (p : MillParams) (s : State) : Served :=
  if s.track.mode ≠ .stopped ∨ allStands.any (blocksMill s) then refuse .state s
  else match firstFailing (millChecks s p), addrOf p.entryAddr with
    | some n, _ => badParam n s
    | none, some a => accept [] (millEffect p a s)
    | none, none => badParam 11 s

/-! ### Configure Stand (R9 to R11) -/

/-- The address of Configure Stand holds NONE or STAND(i) (check 13 of R10). -/
def addrFreeFor (s : State) (b : Byte) (r : Role) : Bool :=
  match addrOf b with
  | none => false
  | some a => decide (s.nodes[a].role = .none ∨ s.nodes[a].role = r)

/-- A gap limit or setpoint is −200,000 to +600,000 (R8, R69). -/
def gapInRange (v : Int) : Bool := decide (-200000 ≤ v ∧ v ≤ 600000)

/-- The checks of R10 in the order of their numbers. -/
def standChecks (s : State) (p : StandParams) (i : Stand) : List (Nat × Bool) :=
  [(3, gapInRange p.gapMin.toInt && gapInRange p.gapMax.toInt),
   (4, decide (p.gapMin.toInt < p.gapMax.toInt)),
   (5, decide (p.ffLimit.toNat ≤ 10000 ∧ p.monLimit.toNat ≤ 20000)),
   (6, decide (p.mode.toNat ≤ 1 ∧ p.massFlow.toNat ≤ 1)),
   (7, decide (p.band.toNat ≤ 5000)),
   (8, inRange 10 50000 p.maxStep.toNat),
   (9, decide (p.settle.toNat ≤ 2000)),
   (10, inRange 10 10000 p.moveTimeout.toNat && inRange 10 10000 p.openTimeout.toNat),
   (11, decide (p.lead.toNat ≤ s.mill.dist[zoneBefore i])),
   (12, decide (p.addr.toNat < 15)),
   (13, addrFreeFor s p.addr (.stand i))]

/-- The stand record an accepted Configure Stand writes (R11). -/
def standRecordOf (p : StandParams) : StandRecord :=
  { configured := true, addr := addrOf p.addr, gapMin := p.gapMin.toInt, gapMax := p.gapMax.toInt,
    ffLimit := p.ffLimit.toNat, monLimit := p.monLimit.toNat, massFlow := decide (p.massFlow = 1),
    mode := if p.mode = 1 then .band else .direct, band := p.band.toNat,
    maxStep := p.maxStep.toNat, settle := p.settle.toNat, moveTimeout := p.moveTimeout.toNat,
    openTimeout := p.openTimeout.toNat, lead := p.lead.toNat, biteForce := p.biteForce.toNat,
    breakTension := p.breakTension.toNat }

/-- The effect of an accepted Configure Stand (R11), with the stop confirmation test (R135). -/
def standEffect (p : StandParams) (i : Stand) (a : Node) (s : State) : State :=
  let s1 := s.onStand i fun _ => standRecordOf p
  let s2 := giveRole a (.stand i) (forgetDrive a (.stand i) s1)
  confirmTest (reclampDemand i s2)

/-- Configure Stand (R9, R10). -/
def serveConfigureStand (p : StandParams) (s : State) : Served :=
  match standOfNumber p.stand with
  | none => badParam 1 s
  | some i =>
    if ¬ s.mill.configured then refuse .notConfigured s
    else if ¬ withinN s i then badParam 2 s
    else if s.stands[i].configured ∧ s.actuators[i].state ≠ .open_ ∧
        s.actuators[i].state ≠ .released then refuse .state s
    else match firstFailing (standChecks s p i), addrOf p.addr with
      | some n, _ => badParam n s
      | none, some a => accept [] (standEffect p i a s)
      | none, none => badParam 12 s

/-! ### Configure Gauge (R13 to R15) -/

/-- A gauge position code names one of the six positions (R13, R200). -/
def gaugeOfCode (b : Byte) : Option Gauge :=
  if h : b.toNat < 6 then some ⟨b.toNat, h⟩ else none

/-- Check 6 of R14: not made for ENTRY; below D_k for AFTER-k within the mill, below R_N for AFTER-N. -/
def positionFits (s : State) (z : Gauge) (g : Nat) : Bool :=
  if z.val = 0 then true
  else if z.val < s.mill.n then decide (1 ≤ g ∧ g < s.mill.dist[z])
  else decide (1 ≤ g ∧ g < s.mill.retire)

/-- The checks of R14 in the order of their numbers. -/
def gaugeChecks (s : State) (p : GaugeParams) (z : Gauge) : List (Nat × Bool) :=
  [(4, decide (p.addr.toNat < 15)),
   (5, addrFreeFor s p.addr (.gauge z)),
   (6, positionFits s z p.g.toNat),
   (7, inRange 1 100000 p.stdLength.toNat),
   (8, decide (p.weldGuard.toNat ≤ 30000000))]

/-- The record an accepted install writes (R15): the configuration part from the request, ENTRY at 0, the
operating part at its start values. -/
def gaugeRecordOf (p : GaugeParams) (z : Gauge) : GaugeRecord :=
  { gaugeReset with
    installed := true, addr := addrOf p.addr, g := if z.val = 0 then 0 else p.g.toNat,
    stdLength := p.stdLength.toNat, weldGuard := p.weldGuard.toNat }

/-- Configure Gauge (R13, R14, R15). -/
def serveConfigureGauge (p : GaugeParams) (s : State) : Served :=
  match gaugeOfCode p.position with
  | none => badParam 1 s
  | some z =>
    if ¬ s.mill.configured then refuse .notConfigured s
    else if s.mill.n < z.val then badParam 2 s
    else if s.track.mode ≠ .stopped then refuse .state s
    else if p.action = 2 then
      accept [] (if s.gauges[z].installed then removeGauge z s else s)
    else if p.action = 1 then
      match firstFailing (gaugeChecks s p z), addrOf p.addr with
      | some n, _ => badParam n s
      | none, some a =>
        accept [] (giveRole a (.gauge z) (s.onGauge z fun _ => gaugeRecordOf p z))
      | none, none => badParam 4 s
    else badParam 3 s

end Sys2Proof.Machine
end

