-- ==== Sys2Proof/Machine/Readout.lean ====
section
/-! DEFINITION. The read-outs of chapter 10: the codes of R200 and the byte layout of every reply that
carries part of the state (R204 to R208). -/

namespace Sys2Proof.Machine

/-! ### Codes (R200) -/

/-- Tracking state code. -/
def trackCode : TrackMode → Nat
  | .stopped => 0
  | .threading => 1
  | .running => 2

/-- Phase code. -/
def phaseCode : StdPhase → Nat
  | .none => 0
  | .waiting => 1
  | .placed => 2
  | .accepted => 3
  | .running => 4

/-- Pending source code. -/
def sourceCode : StdSource → Nat
  | .none => 0
  | .length => 1
  | .host => 2

/-- Actuator state code. -/
def actCode : ActState → Nat
  | .open_ => 0
  | .travel => 1
  | .settle => 2
  | .hold => 3
  | .opening => 4
  | .openFailed => 5
  | .released => 6

/-- Node state code. -/
def nodeStateCode : NodeState → Nat
  | .absent => 0
  | .present => 1
  | .lost => 2

/-- Link state code. -/
def linkStateCode : LinkState → Nat
  | .free => 0
  | .part => 1
  | .node => 2
  | .resetting => 3

/-- Trip class code. -/
def classCode : TripClass → Nat
  | .fastStop => 0
  | .emergency => 1

/-- Stop-confirm state code. -/
def confirmCode : ConfirmState → Nat
  | .idle => 0
  | .waiting => 1
  | .confirmed => 2
  | .expired => 3

/-- Escalation cause code. -/
def causeCode : Option EscalationCause → Nat
  | none => 0
  | some .stopUnconfirmed => 1
  | some .openFailed => 2

/-- Drive state code. -/
def driveCode : DriveState → Nat
  | .unknown => 0
  | .running => 1
  | .stopping => 2
  | .stopped => 3

/-- Product entry state code. -/
def entryStateCode : EntryState → Nat
  | .empty => 0
  | .loaded => 1
  | .inUse => 2

/-- Subject kind code. -/
def subjectKind : Subject → Nat
  | .none => 0
  | .stand _ => 1
  | .zone _ => 2
  | .gauge _ => 3
  | .node _ => 4

/-- Subject number (R190): 0 when the kind is none. -/
def subjectNumber : Subject → Nat
  | .none => 0
  | .stand i => standNumber i
  | .zone z => z.val
  | .gauge p => p.val
  | .node a => a.val

/-- A product index or node address field, 0xFF when absent (R199). DESIGN CHOICE (log entry 27): an index
that also has a presence bit (Read Stand's active product, the odometer block's forming cell and pending
weld) shows 0xFF too, where R199's table gives both 0xFF and 0. -/
def optIndex {n : Nat} : Option (Fin n) → Nat
  | some p => p.val
  | none => 0xFF

/-- A value field, 0 when absent (R199). -/
def optInt (v : Option Int) : Int := v.getD 0

/-! ### Stand demand block and stand read-out (R204, R207) -/

/-- The stand demand block, 11 bytes (R204). -/
def demandBlock (s : State) (i : Stand) : List Byte :=
  let d := s.demands[i]
  beInt 2 d.ff ++ beInt 2 d.trim ++ beInt 2 d.offset ++ beInt 4 (optInt (d.demand.map (·.value))) ++
  be 1 (bit d.demand.isSome 1 + bit d.limited 2 + bit d.freeze.isSome 4)

/-- The current work's kind, number, value and phase, 7 bytes (R207). -/
def workBytes : Option Work → List Byte
  | none => be 1 0 ++ be 1 0 ++ beInt 4 0 ++ be 1 0
  | some w =>
    let kind := match w.cmd with
      | .travel _ => 1
      | .trim _ => 2
      | .open_ => 3
    let value : Int := match w.cmd with
      | .travel p => p
      | .trim v => v
      | .open_ => 0
    let phase := match w.phase with
      | .queued => 0
      | .inFlight => 1
      | .moving => 2
    be 1 kind ++ [w.number] ++ beInt 4 value ++ be 1 phase

/-- The stand read-out, 57 bytes (R126, R207). -/
def standReadout (s : State) (i : Stand) : List Byte :=
  let r := s.stands[i]
  let a := s.actuators[i]
  let d := s.demands[i]
  let node := r.addr.map fun n => s.nodes[n]
  be 1 (standNumber i) ++
  be 1 (bit r.configured 1 + bit (decide (r.mode = .band)) 2 + bit a.t.isSome 4 +
    bit a.reported.isSome 8 + bit s.store.active[i].isSome 16 + bit d.demand.isSome 32 +
    bit d.limited 64 + bit d.freeze.isSome 128) ++
  be 1 (optIndex r.addr) ++
  be 1 (match node with
    | some n => nodeStateCode n.state
    | none => 0) ++
  be 1 (match node with
    | some n => bit n.remote 1
    | none => 0) ++
  be 1 (actCode a.state) ++
  beInt 4 a.c ++ beInt 4 a.p ++ beInt 4 (optInt a.t) ++ beInt 4 (optInt a.reported) ++
  [a.number] ++ workBytes a.work ++
  beSat 2 (timerLeft s.now a.settleT) ++ beSat 2 (timerLeft s.now a.moveT) ++
  beSat 2 (timerLeft s.now a.openT) ++
  be 1 (optIndex s.store.active[i]) ++
  beInt 2 d.ff ++ beInt 2 d.trim ++ beInt 2 d.offset ++
  beInt 4 (optInt (d.demand.map (·.value))) ++ beInt 4 (optInt (d.demand.map (·.sum))) ++
  beSat 6 (d.freeze.getD 0)

/-! ### Cells (R205) -/

/-- The head of the Read Cells reply, 15 bytes (R205). -/
def cellsHead (s : State) : List Byte :=
  be 1 (trackCode s.track.mode) ++ be 2 s.track.queue.length ++
  beSat 6 ((s.track.queue.head?.map (·.serial)).getD 0) ++
  beSat 6 ((s.track.queue.getLast?.map (·.serial)).getD 0)

/-- The odometer block, 68 bytes (R205). -/
def odometerBlock (s : State) : List Byte :=
  let f := s.track.forming
  let w := pendingWeldOf s
  (s.track.odo.toList.flatMap fun o => beSat 6 o) ++
  be 1 (match s.track.cobble with
    | some i => standNumber i
    | none => 0) ++
  be 1 (bit f.isSome 1 + bit ((f.map (·.headEnd)).getD false) 2 + bit ((f.map (·.weld)).getD false) 4 +
    bit ((f.map (·.extended)).getD false) 8 + bit w.isSome 16) ++
  beSat 6 ((f.map (·.stamp)).getD 0) ++ beSat 4 ((f.map (formingLength s)).getD 0) ++
  be 4 ((f.map fun f => f.coil.toNat).getD 0) ++ be 1 (optIndex (f.map (·.product))) ++
  beSat 2 ((f.map (·.count)).getD 0) ++
  beSat 6 ((w.map (·.stamp)).getD 0) ++
  be 4 ((w.map fun w => w.coil.toNat).getD 0) ++ be 1 (optIndex (w.map (·.product))) ++
  beSat 2 ((w.map (·.count)).getD 0)

/-- The selected part of a cell record for stand list entry `n`, 15 bytes (R205). -/
def entryBytes : Option StandEntry → List Byte
  | none => be 1 0 ++ be 6 0 ++ be 2 0 ++ be 2 0 ++ be 2 0 ++ be 2 0
  | some n =>
    be 1 (1 + bit n.hm.isSome 2 + bit n.hf.isSome 4 +
      bit ((n.hf.map (·.saturated)).getD false) 8 + bit n.monUsed 16) ++
    beSat 6 n.stamp ++ beInt 2 n.ff ++ beSat 2 n.count ++ beSat 2 (n.hm.getD 0) ++
    beSat 2 ((n.hf.map (·.value)).getD 0)

/-- A cell record, 12 bytes common and 12 or 15 selected (R205). -/
def cellRecord (selector : Nat) (c : Cell) : List Byte :=
  beSat 6 c.serial ++ be 4 c.coil.toNat ++ be 1 c.product.val ++
  be 1 (bit c.headEnd 1 + bit c.weld 2 + bit c.measured.isSome 4 + bit c.extended 8 +
    16 * c.approach) ++
  (match selector with
    | 0 => beSat 6 c.e0 ++ beSat 4 c.l0 ++ beSat 2 ((c.measured.map (·.h0)).getD 0)
    | i + 1 => entryBytes c.entries[i]?)

/-- The cells a Read Cells with count 1 to 8 returns (R42): from the first serial, oldest first. -/
def cellsFrom (s : State) (first count : Nat) : List Cell :=
  (s.track.queue.dropWhile fun c => decide (c.serial < first)).take count

/-- The Read Cells reply (R42, R205). -/
def cellsReply (s : State) (first count selector : Nat) : List Byte :=
  cellsHead s ++
  (if count = 0 then odometerBlock s
   else
    let cs := cellsFrom s first count
    be 1 cs.length ++ cs.flatMap (cellRecord selector))

/-! ### Gauges (R66, R208) -/

/-- A gauge record, 25 bytes (R208). -/
def gaugeRecordBytes (r : GaugeRecord) : List Byte :=
  be 1 (bit r.installed 1 + bit r.holdOff 2 + bit r.overdue 4) ++ be 1 (optIndex r.addr) ++
  beSat 4 r.g ++ beSat 4 r.stdLength ++ beSat 4 r.weldGuard ++ be 1 (gaugeModeCode r.mode) ++
  beSat 6 r.length ++ be 1 (phaseCode r.phase) ++ be 1 (sourceCode r.source) ++ beSat 2 r.discarded

/-- The Read Gauges reply, 150 bytes (R66, R208). -/
def gaugesReply (s : State) : List Byte := s.gauges.toList.flatMap gaugeRecordBytes

/-! ### Products (R74, R208) -/

/-- One stand group of a product entry, 10 bytes (R208). -/
def productStandBytes (e : ProductEntry) (i : Stand) : List Byte :=
  beSat 2 e.hExit[i] ++ beInt 4 e.sSet[i] ++ beSat 2 e.kFf[i] ++ beSat 2 e.kMon[i]

/-- The values of a product entry, 57 bytes (R208). -/
def productBytesOf (e : ProductEntry) : List Byte :=
  be 4 e.code.toNat ++ be 1 (bit e.carryTrim 1) ++ beSat 2 e.hRef ++
  allStands.flatMap (productStandBytes e)

/-- The stand set whose active product it is (R200: bit 0 is stand 1). -/
def activeSet (s : State) (p : Product) : Nat :=
  (allStands.map fun i => bit (decide (s.store.active[i] = some p)) (2 ^ i.val)).sum

/-- The ENTRY view of Read Product, 66 bytes (R74, R208). -/
def productEntryReply (s : State) (p : Product) : List Byte :=
  be 1 p.val ++ be 1 (entryStateCode (s.entryState p)) ++ beSat 2 (s.refCount p) ++
  beSat 2 (cellRefs s p) ++
  be 1 (bit (formingNames s p) 1 + bit (pendingNames s p) 2 +
    bit (decide (s.store.threading = some p)) 4) ++
  be 1 (activeSet s p) ++ be 1 (coilRefs s p) ++ productBytesOf s.store.table[p]

/-- The TABLE view of Read Product (R74, R208). -/
def productTableReply (s : State) : List Byte :=
  (allProducts.flatMap fun p =>
    be 1 (entryStateCode (s.entryState p)) ++ beSat 2 (s.refCount p) ++
    be 4 s.store.table[p].code.toNat) ++
  be 1 (optIndex s.store.threading) ++
  (s.store.active.toList.flatMap fun a => be 1 (optIndex a)) ++
  be 1 s.store.coils.length ++
  s.store.coils.flatMap fun c => be 4 c.id.toNat ++ be 1 c.product.val

/-! ### Trips (R150, R206) -/

/-- The Read Trips summary, 20 bytes (R150, R206). -/
def tripSummary (s : State) : List Byte :=
  be 1 (latchedCount s) ++
  be 1 (bit s.trips.escalation.isSome 1 + bit s.mstop 2) ++
  be 1 (causeCode s.trips.escalation) ++ be 1 (stopRank s.trips.stopWanted) ++
  be 1 (stopRank s.trips.stopSent) ++ be 1 (confirmCode s.trips.confirm) ++
  beSat 2 (timerLeft s.now s.trips.confirmT) ++
  be 1 (allLines.map fun x => bit s.trips.pressed[x] (2 ^ x.val)).sum ++
  be 1 (driveCode s.trips.driveEntry) ++
  (s.trips.drive.toList.flatMap fun d => be 1 (driveCode d)) ++
  s.trips.low.toList.flatMap fun c => beSat 1 c

/-- The LATCHED record of a rank, with its index (R131). -/
def recordOfRank (s : State) (rank : Nat) : Option Source :=
  allSources.find? fun k => s.trips.records[k].latched && decide (s.trips.records[k].rank = rank)

/-- The LATCHED records a LATCHED view carries: up to 12 in rank order from the first rank (R150). -/
def recordsFrom (s : State) (first : Nat) : List Source :=
  (List.range 12).filterMap fun j => recordOfRank s (first + j)

/-- A trip record as read out, 15 bytes (R206). -/
def tripRecordBytes (s : State) (k : Source) : List Byte :=
  let r := s.trips.records[k]
  be 1 k.val ++ be 1 (classCode r.cls) ++ be 1 r.affected.toNat ++ be 1 r.rank ++
  be 4 r.time.toNat ++ beSat 1 r.count ++ beSat 6 r.detail

/-- The LATCHED view's reply (R150, R206). -/
def latchedReply (s : State) (ks : List Source) : List Byte :=
  tripSummary s ++ be 1 ks.length ++ ks.flatMap (tripRecordBytes s)

/-- The CONFIG view's reply (R150, R206). -/
def configReply (s : State) : List Byte :=
  tripSummary s ++
  s.trips.records.toList.flatMap fun r => be 1 (classCode r.cls) ++ be 1 r.affected.toNat

/-! ### Nodes (R179, R208) -/

/-- The filled slots, bit s for slot s (R208). -/
def slotBits (s : State) : Nat :=
  ((List.range 17).map fun n => bit (s.slotFilled n) (2 ^ n)).sum

/-- The slot number of an item (R200). -/
def itemSlot : Item → Nat
  | .stop _ _ => 0
  | .gapOpen i _ => 1 + i.val
  | .gap i _ _ => 6 + i.val
  | .standardize p => 11 + p.val

/-- A node table entry as read out, 7 bytes (R208). -/
def nodeBytes (s : State) (a : Node) : List Byte :=
  let n := s.nodes[a]
  let seen := decide (n.state ≠ .absent)
  be 1 (roleCode n.role) ++ be 1 (nodeStateCode n.state) ++
  be 1 (bit n.remote 1 + bit seen 2) ++
  (if seen then beSat 2 (s.now - n.lastFrame).toNat else be 2 0) ++
  be 1 n.failures ++ [n.echo]

/-- The Read Nodes reply, 132 bytes (R179, R208). -/
def nodesReply (s : State) : List Byte :=
  let l := s.link
  be 1 (linkStateCode l.state) ++
  be 1 (bit l.stuck 1 + bit l.yield 2 + bit l.lastReset.isSome 4) ++
  (match l.lastReset with
    | some t => be 4 (s.now - t).toNat
    | none => be 4 0) ++
  beSat 2 s.respUs ++ beSat 2 s.txnLimitUs ++ beSat 2 s.silenceMs ++ be 1 l.ring.val ++
  be 3 (slotBits s) ++
  be 1 (match l.inFlight with
    | some f => itemSlot f.item
    | none => 0xFF) ++
  beSat 2 l.counters.checkErrors ++ beSat 2 l.counters.rejected ++ beSat 2 l.counters.failed ++
  beSat 2 l.counters.abandoned ++ beSat 2 l.counters.resets ++
  allNodes.flatMap (nodeBytes s)

/-! ### Status and events (R192, R195, R208) -/

/-- The highest level in the event queue, 0 when empty (R195). -/
def highestLevel (s : State) : Nat :=
  (s.host.events.map fun e => eventLevel e.code).foldl max 0

/-- The Status reply, 21 bytes (R195, R208). -/
def statusReply (s : State) : List Byte :=
  be 1 (bit s.mill.configured 1) ++ be 1 s.mill.n ++ be 1 (trackCode s.track.mode) ++
  be 2 s.track.queue.length ++
  be 1 (bit (pendingWeldOf s).isSome 1 + bit s.trips.escalation.isSome 2 + bit s.mstop 4 +
    bit s.host.overrun 8 + bit s.attn 16 + bit s.link.stuck 32) ++
  be 1 (latchedCount s) ++ be 1 s.host.events.length ++ be 1 (highestLevel s) ++
  be 1 s.host.attention ++ be 1 (linkStateCode s.link.state) ++
  beSat 2 s.host.crcDrops ++ beSat 2 s.host.formatDrops ++ beSat 2 s.host.queueDrops ++
  be 4 s.now.toNat

/-- An event entry, 18 bytes (R208). -/
def eventBytes (e : Event) : List Byte :=
  be 1 (eventNumber e.code) ++ be 1 (eventLevel e.code) ++ be 1 (subjectKind e.subject) ++
  be 1 (subjectNumber e.subject) ++ beSat 6 (e.serial.getD 0) ++ be 4 e.value.toNat ++
  be 4 e.time.toNat

/-- The Read Events reply for a maximum count (R192, R208). -/
def eventsReply (s : State) (max : Nat) : List Byte :=
  let out := s.host.events.take max
  be 1 out.length ++ be 1 (s.host.events.length - out.length) ++ be 1 (bit s.host.overrun 1) ++
  out.flatMap eventBytes

end Sys2Proof.Machine
end

