-- ==== Sys2Proof/Machine/Requests.lean ====
section
/-! DEFINITION. The requests of the host other than the three that configure: for each, its tests in the
order of its rule, its effect, and its result payload (R204). -/

namespace Sys2Proof.Machine

/-! ### Host Port Controller (R192, R193, R195, R196) -/

/-- Status (R195): the reply carries the drop counts as they stood before a clearing. -/
def serveStatus (clear : Byte) (s : State) : Served :=
  if clear = 0 then accept (statusReply s) s
  else if clear = 1 then
    accept (statusReply s)
      (s.onHost fun h => { h with crcDrops := 0, formatDrops := 0, queueDrops := 0 })
  else badParam 0 s

/-- Read Events (R192): the oldest entries leave the queue and the overrun flag clears. -/
def serveReadEvents (max : Byte) (s : State) : Served :=
  if 1 ≤ max.toNat ∧ max.toNat ≤ 10 then
    accept (eventsReply s max.toNat)
      (s.onHost fun h => { h with events := h.events.drop max.toNat, overrun := false })
  else badParam 0 s

/-- Set Attention Level (R193). -/
def serveAttention (level : Byte) (s : State) : Served :=
  if 1 ≤ level.toNat ∧ level.toNat ≤ 7 then
    accept (be 1 s.host.attention) (s.onHost fun h => { h with attention := level.toNat })
  else badParam 1 s

/-- Restart (R196): accepted; the reset follows the last byte of its reply. -/
def serveRestart (s : State) : Served := accept [] s

/-! ### Tracking Unit (R40 to R42) -/

/-- A product index field names one of the sixteen entries (R69). -/
def productOfIndex (b : Byte) : Option Product :=
  if h : b.toNat < 16 then some ⟨b.toNat, h⟩ else none

/-- The Tracking Unit's share of an accepted Start Tracking (R40, R21). -/
def openRun (p : Product) (coil : BitVec 32) (s : State) : State :=
  s.onTrack fun t =>
    { t with mode := .threading, odo := Vector.replicate 6 0, nextSerial := 1, cobble := none,
             poolFull := false, forming := some { freshForming 0 coil p with headEnd := true } }

/-- The effect of an accepted Start Tracking on every unit (R40, R50, R61, R80, R81, R100). -/
def startEffect (p : Product) (coil : BitVec 32) (s : State) : State :=
  allGaugeTests (startDemands (startProducts p (startGauges (openRun p coil s))))

/-- Start Tracking (R40). -/
def serveStart (product : Byte) (coil : BitVec 32) (s : State) : Served :=
  if ¬ s.mill.configured then refuse .notConfigured s
  else if s.track.mode ≠ .stopped then refuse .state s
  else match productOfIndex product with
    | none => badParam 0 s
    | some p =>
      if s.store.table[p].loaded then accept [] (startEffect p coil s) else refuse .badProduct s

/-- The Tracking Unit's share of an accepted Stop Tracking (R41): the odometers, the next serial and the
cobble record keep their values. -/
def closeRun (s : State) : State :=
  s.onTrack fun t => { t with mode := .stopped, queue := [], forming := none, poolFull := false }

/-- The effect of an accepted Stop Tracking on every unit (R41, R61, R80, R81, R100). -/
def stopEffect (s : State) : State := allGaugeTests (stopDemands (stopProducts (closeRun s)))

/-- A configured stand in HOLD, TRAVEL or SETTLE (R41). -/
def standEngaged (s : State) (i : Stand) : Bool :=
  s.stands[i].configured && engaged s.actuators[i].state

/-- Stop Tracking (R41). -/
def serveStop (s : State) : Served :=
  if allStands.any (standEngaged s) then refuse .state s
  else if s.track.mode = .stopped then accept [] s
  else accept [] (stopEffect s)

/-- The highest stand selector Read Cells admits (R42). -/
def maxSelector (s : State) : Nat := if s.mill.configured then s.mill.n else 0

/-- Read Cells (R42). -/
def serveReadCells (first : BitVec 48) (count selector : Byte) (s : State) : Served :=
  if 8 < count.toNat ∨ maxSelector s < selector.toNat then badParam 0 s
  else accept (cellsReply s first.toNat count.toNat selector.toNat) s

/-! ### Gauge Measurement Unit (R65, R66) -/

/-- Standardize Gauge (R65). -/
def serveStandardize (position : Byte) (s : State) : Served :=
  match gaugeOfCode position with
  | none => badParam 0 s
  | some p =>
    if ¬ s.gauges[p].installed then refuse .notConfigured s
    else if s.gauges[p].mode = .absent then refuse .nodeAbsent s
    else accept [] (orderStd p s)

/-- Read Gauges (R66). -/
def serveReadGauges (s : State) : Served := accept (gaugesReply s) s

/-! ### Product Store (R72 to R77) -/

/-- The five stand groups of a Load Product, stand 1 first. -/
def setups (p : ProductParams) : List SetupParams := [p.s1, p.s2, p.s3, p.s4, p.s5]

/-- The checks 2 to 4 of R72 in order. -/
def productChecks (p : ProductParams) : List (Nat × Bool) :=
  [(2, (setups p).all fun g => gapInRange g.sSet.toInt),
   (3, (setups p).all fun g => decide (g.kFf.toNat ≤ 8191 ∧ g.kMon.toNat ≤ 8191)),
   (4, decide (p.carryTrim.toNat ≤ 1))]

/-- The entry an accepted Load Product writes (R69, R72). -/
def productEntryOf (p : ProductParams) : ProductEntry :=
  { loaded := true, code := p.code, carryTrim := decide (p.carryTrim = 1), hRef := p.hRef.toNat,
    hExit := #v[p.s1.hRef.toNat, p.s2.hRef.toNat, p.s3.hRef.toNat, p.s4.hRef.toNat, p.s5.hRef.toNat],
    sSet := #v[p.s1.sSet.toInt, p.s2.sSet.toInt, p.s3.sSet.toInt, p.s4.sSet.toInt, p.s5.sSet.toInt],
    kFf := #v[p.s1.kFf.toNat, p.s2.kFf.toNat, p.s3.kFf.toNat, p.s4.kFf.toNat, p.s5.kFf.toNat],
    kMon := #v[p.s1.kMon.toNat, p.s2.kMon.toNat, p.s3.kMon.toNat, p.s4.kMon.toNat,
      p.s5.kMon.toNat] }

/-- Write one entry of the product table. -/
def writeProduct (i : Product) (e : ProductEntry) (s : State) : State :=
  s.onStore fun t => { t with table := upd t.table i fun _ => e }

/-- Load Product (R72). -/
def serveLoad (p : ProductParams) (s : State) : Served :=
  match productOfIndex p.index with
  | none => badParam 1 s
  | some i =>
    if s.entryState i = .inUse then refuse .inUse s
    else match firstFailing (productChecks p) with
      | some n => badParam n s
      | none => accept [] (writeProduct i (productEntryOf p) s)

/-- Erase Product (R73). -/
def serveErase (index : Byte) (s : State) : Served :=
  match productOfIndex index with
  | none => badParam 0 s
  | some i =>
    match s.entryState i with
    | .inUse => refuse .inUse s
    | .loaded => accept [] (writeProduct i productReset s)
    | .empty => accept [] s

/-- Read Product (R74). -/
def serveReadProduct (view index : Byte) (s : State) : Served :=
  if view = 0 then
    match productOfIndex index with
    | none => badParam 0 s
    | some p => accept (productEntryReply s p) s
  else if view = 1 then accept (productTableReply s) s
  else badParam 0 s

/-- Append Coil (R76). -/
def serveAppend (coil : BitVec 32) (product : Byte) (s : State) : Served :=
  match productOfIndex product with
  | none => badParam 0 s
  | some p =>
    if ¬ s.store.table[p].loaded then refuse .badProduct s
    else if 8 ≤ s.store.coils.length then refuse .full s
    else accept (be 1 (s.store.coils.length + 1))
      (s.onStore fun t => { t with coils := t.coils ++ [⟨coil, p⟩] })

/-- Clear Coil List (R77). -/
def serveClearCoils (s : State) : Served :=
  accept (be 1 s.store.coils.length) (s.onStore fun t => { t with coils := [] })

/-! ### Gap Demand Unit (R101, R102) -/

/-- The effect of an accepted Set Offset (R101): an equal offset recomposes nothing. -/
def offsetEffect (i : Stand) (o : Int) (s : State) : State :=
  if s.demands[i].offset = o then s
  else composeDemand i (s.onDemand i fun d => { d with offset := o })

/-- Set Offset (R101). -/
def serveOffset (stand : Byte) (offset : BitVec 16) (s : State) : Served :=
  match standOfNumber stand with
  | none => badParam 1 s
  | some i =>
    if ¬ s.mill.configured then refuse .notConfigured s
    else if ¬ withinN s i then badParam 2 s
    else if ¬ s.stands[i].configured then refuse .notConfigured s
    else if offset.toInt < -10000 ∨ 10000 < offset.toInt then badParam 3 s
    else
      let s1 := offsetEffect i offset.toInt s
      accept (demandBlock s1 i) s1

/-- One stand's share of a Reset Trim (R102). -/
def zeroTrim (i : Stand) (s : State) : State :=
  composeDemand i (s.onDemand i fun d => { d with trim := 0 })

/-- The stands a Reset Trim acts on with selector 0: the configured stands from 1 to N (R102). -/
def trimTargets (s : State) : List Stand :=
  allStands.filter fun i => withinN s i && s.stands[i].configured

/-- An accepted Reset Trim on a list of stands in ascending order (R102), with its reply (R204). -/
def trimEffect (is : List Stand) (s : State) : Served :=
  let moved := is.countP fun i => decide (s.demands[i].trim ≠ 0)
  let s1 := is.foldl (fun s i => zeroTrim i s) s
  accept (be 1 moved ++ be 1 is.length ++
    is.flatMap fun i => be 1 (standNumber i) ++ demandBlock s1 i) s1

/-- Reset Trim (R102). -/
def serveResetTrim (selector : Byte) (s : State) : Served :=
  if 5 < selector.toNat then badParam 1 s
  else if ¬ s.mill.configured then refuse .notConfigured s
  else match standOfNumber selector with
    | none => trimEffect (trimTargets s) s
    | some i =>
      if ¬ withinN s i then badParam 2 s
      else if ¬ s.stands[i].configured then refuse .notConfigured s
      else trimEffect [i] s

/-! ### Positioning Sequencer (R111, R125, R126) -/

/-- The node of stand `i` reports REMOTE (R156). -/
def nodeRemote (s : State) (i : Stand) : Bool :=
  match roleNode s (.stand i) with
  | some a => s.nodes[a].remote
  | none => false

/-- The effect of an accepted Engage Stand (R111): t takes the demand, p the reported position clamped to
the limits, and TRAVEL is entered with its first step. A PRESENT stand node has reported, so a
reported position exists (log entry 3). -/
def engageEffect (i : Stand) (s : State) : State :=
  let r := s.stands[i]
  applyTravel i (s.onActuator i fun a =>
    { a with
      t := s.demands[i].demand.map (·.value)
      p := match a.reported with
        | some q => clampTo r.gapMin r.gapMax q
        | none => a.p
      state := .travel })

/-- Engage Stand (R111). -/
def serveEngage (stand : Byte) (s : State) : Served :=
  match standOfNumber stand with
  | none => badParam 0 s
  | some i =>
    if ¬ (s.mill.configured ∧ withinN s i ∧ s.stands[i].configured) then refuse .notConfigured s
    else if ¬ roleInState s (.stand i) .present then refuse .nodeAbsent s
    else if ¬ ((s.actuators[i].state = .open_ ∨ s.actuators[i].state = .released) ∧
        s.track.mode ≠ .stopped ∧ nodeRemote s i) then refuse .state s
    else if tripNames s i then refuse .tripped s
    else accept [] (engageEffect i s)

/-- The states from which an Open Stand opens a selected stand (R125). -/
def openedByHost (a : ActState) : Bool := openedByTrip a || decide (a = .openFailed)

/-- The effect of an accepted Open Stand on the selected stands (R125). -/
def openEffect (is : List Stand) (s : State) : State :=
  is.foldl (fun s i => if openedByHost s.actuators[i].state then putIntoOpening i s else s) s

/-- Open Stand (R125). -/
def serveOpen (selector : Byte) (s : State) : Served :=
  if 5 < selector.toNat then badParam 0 s
  else
    let is := match standOfNumber selector with
      | some i => [i]
      | none => allStands
    let s1 := openEffect is s
    accept (is.flatMap fun i => be 1 (actCode s1.actuators[i].state)) s1

/-- Read Stand (R126). -/
def serveReadStand (stand : Byte) (s : State) : Served :=
  match standOfNumber stand with
  | none => badParam 0 s
  | some i => accept (standReadout s i) s

/-! ### Trip Controller (R145, R147 to R150) -/

/-- A source index field names one of the 32 records (R129). -/
def sourceOfIndex (b : Byte) : Option Source :=
  if h : b.toNat < 32 then some ⟨b.toNat, h⟩ else none

/-- Configure Trip (R147). -/
def serveConfigureTrip (index cls affected : Byte) (s : State) : Served :=
  match sourceOfIndex index with
  | none => badParam 1 s
  | some k =>
    if 30 ≤ k.val then badParam 2 s
    else if s.trips.records[k].latched then refuse .state s
    else if 1 < cls.toNat then badParam 3 s
    else if 31 < affected.toNat then badParam 4 s
    else accept [] (s.onTrips fun t => { t with records := upd t.records k fun r =>
      { r with cls := if cls = 1 then .emergency else .fastStop,
               affected := BitVec.ofNat 5 affected.toNat } })

/-- Trip Request (R145): the reply gives HOST_REQUEST's rank and whether this request latched it. -/
def serveTripRequest (reason : BitVec 16) (s : State) : Served :=
  let k := sourceIndex .hostRequest
  let fresh := !s.trips.records[k].latched
  let s1 := raiseTrip .hostRequest reason.toNat s
  accept (be 1 s1.trips.records[k].rank ++ be 1 (bit fresh 1)) s1

/-- Clear Trips (R148, R149): the reply of a refusal lists the active sources. -/
def serveClearTrips (s : State) : Served :=
  match activeSources s with
  | [] => accept (be 1 (latchedCount s)) (clearTripTable s)
  | ks => (s, ⟨.sourceActive, be 1 ks.length ++ ks.flatMap fun k => be 1 k.val⟩)

/-- Set the reported flags of records (R150). -/
def setReported (ks : List Source) (v : Vector TripRecord 32) : Vector TripRecord 32 :=
  ks.foldl (fun v k => upd v k fun r => { r with reported := true }) v

/-- The Trip Controller's records carried in a reply become reported (R150). -/
def markReported (ks : List Source) (s : State) : State :=
  s.onTrips fun t => { t with records := setReported ks t.records }

/-- Read Trips (R150). -/
def serveReadTrips (view first : Byte) (s : State) : Served :=
  if view = 0 then
    if 1 ≤ first.toNat ∧ first.toNat ≤ 32 then
      let ks := recordsFrom s first.toNat
      accept (latchedReply s ks) (markReported ks s)
    else badParam 0 s
  else if view = 1 then accept (configReply s) s
  else badParam 0 s

/-! ### Stand Link Controller (R177, R179) -/

/-- Reset Stand Link (R177): a pulse under way serves the request. -/
def serveResetLink (s : State) : Served :=
  if s.link.state = .resetting then accept (be 1 0 ++ be 1 (linkStateCode .resetting)) s
  else
    let s1 := raise .linkReset .none none 1 (startPulse s)
    accept (be 1 1 ++ be 1 (linkStateCode s1.link.state)) s1

/-- Read Nodes (R179): the reply carries the link counters as they stood before a clearing. -/
def serveReadNodes (clear : Byte) (s : State) : Served :=
  if clear = 0 then accept (nodesReply s) s
  else if clear = 1 then
    accept (nodesReply s) (s.onLink fun l => { l with counters := countersReset })
  else badParam 0 s

/-! ### One request (R187) -/

/-- Serve a request: the Host Port Controller refuses a bad frame, and hands any other to its owner
(R187). -/
def serve (r : Request) (s : State) : Served :=
  match r with
  | .bad _ reason => (s, ⟨.badFrameCode, [reason]⟩)
  | .status c => serveStatus c s
  | .readEvents m => serveReadEvents m s
  | .setAttentionLevel l => serveAttention l s
  | .restart => serveRestart s
  | .configureMill p => serveConfigureMill p s
  | .configureStand p => serveConfigureStand p s
  | .configureGauge p => serveConfigureGauge p s
  | .startTracking p c => serveStart p c s
  | .stopTracking => serveStop s
  | .readCells f c n => serveReadCells f c n s
  | .standardizeGauge p => serveStandardize p s
  | .readGauges => serveReadGauges s
  | .loadProduct p => serveLoad p s
  | .eraseProduct i => serveErase i s
  | .readProduct v i => serveReadProduct v i s
  | .appendCoil c p => serveAppend c p s
  | .clearCoilList => serveClearCoils s
  | .setOffset i o => serveOffset i o s
  | .resetTrim n => serveResetTrim n s
  | .engageStand i => serveEngage i s
  | .openStand n => serveOpen n s
  | .readStand i => serveReadStand i s
  | .configureTrip i c a => serveConfigureTrip i c a s
  | .tripRequest r => serveTripRequest r s
  | .clearTrips => serveClearTrips s
  | .readTrips v f => serveReadTrips v f s
  | .resetStandLink => serveResetLink s
  | .readNodes c => serveReadNodes c s

end Sys2Proof.Machine
end

