-- ==== Sys2Proof/Machine/HostPort.lean ====
section
/-! DEFINITION. The Host Port Controller at work (chapter 9): the reset of the part, the input queue and
the request in hand, the frame assembler, and the reply on the line. -/

namespace Sys2Proof.Machine

/-! ### Reset (R197, R146, R140) -/

/-- A reset completed as one event, in the order of R197: every unit's values after reset with the line
levels and strap pins taken, POWER_UP latched, then each pressed ESTOP line raised. -/
def afterReset (detail : Nat) (s : State) : State :=
  raisePressed (raiseTrip .powerUp detail
    (unitsReset s.straps s.trips.pressed s.link.holdOther s.pending))

/-! ### The input queue and the request in hand (R184, R186 to R188) -/

/-- The frame at the head of the input queue is taken (R187): its request is served, a transaction that
its urgent work ends is ended (R173), and its reply is composed and sent (R188). -/
def takeHead (s : State) : State :=
  match s.host.inputQueue with
  | [] => s
  | f :: _ =>
    let out := serve f.request s
    (abandonForUrgent out.1).onHost fun h =>
      { h with reply := some ⟨f.tag, requestCode f.request, resultByte out.2.code, out.2.payload⟩ }

/-- A frame that has passed tests 1 and 2 of R184, which leaves the assembler IDLE: with the input queue
full it is dropped and counted (test 3); else it joins the tail, and is taken at once when it is the
request in hand (R186). -/
def submit (tag : Byte) (r : Request) (s : State) : State :=
  let s1 := s.onHost fun h => { h with asm := .idle, content := [] }
  if 4 ≤ s.host.inputQueue.length then
    s1.onHost fun h => { h with queueDrops := satAdd 65535 h.queueDrops 1 }
  else
    let s2 := s1.onHost fun h => { h with inputQueue := h.inputQueue ++ [⟨tag, r⟩] }
    if s.host.inputQueue.length = 0 then takeHead s2 else s2

/-- The last byte of the reply has been sent (R186, R196): after a Restart the reset is made; else the
head leaves and the next frame is taken at once. Without a reply nothing happens. -/
def endReply (s : State) : State :=
  match s.host.reply, s.host.inputQueue with
  | some _, f :: rest =>
    if f.request = .restart then afterReset 1 s
    else takeHead (s.onHost fun h => { h with inputQueue := rest, reply := none })
  | _, _ => s

/-! ### The frame assembler (R183 to R185) -/

/-- The frame being assembled is dropped and the format drop count rises (R185). -/
def formatDrop (s : State) : State :=
  s.onHost fun h =>
    { h with asm := .idle, content := [], formatDrops := satAdd 65535 h.formatDrops 1 }

/-- The frame being assembled is dropped and the CRC drop count rises (R185). -/
def crcDrop (s : State) : State :=
  s.onHost fun h => { h with asm := .idle, content := [], crcDrops := satAdd 65535 h.crcDrops 1 }

/-- A complete frame of contents `bs` is judged in the order of R184. -/
def judge (bs : List Byte) (s : State) : State :=
  let n := bs.length - 2
  let body := bs.take n
  if be 2 (crc16 body).toNat ≠ bs.drop n then crcDrop s
  else match body with
    | kind :: tag :: code :: _ :: payload =>
      if kind = 0x01 then submit tag (parseRequest code payload) s else formatDrop s
    | _ => formatDrop s

/-- The next content byte is added to the frame (R183, R184): the fourth, the payload length, is tested
at once, and a frame that holds 4 + L + 2 bytes is complete. -/
def addContent (b : Byte) (s : State) : State :=
  let bs := s.host.content ++ [b]
  if bs.length = 4 ∧ 240 < b.toNat then formatDrop s
  else if 4 ≤ bs.length ∧ bs.length = 4 + field bs 3 1 + 2 then judge bs s
  else s.onHost fun h => { h with asm := .receiving, content := bs }

/-- A start byte outside IDLE or in it: assembly begins with an empty frame (R183). -/
def beginFrame (s : State) : State := s.onHost fun h => { h with asm := .receiving, content := [] }

/-- The assembler takes one byte of the host line, by its state (R183); without its stop bit the byte
ends the frame being assembled. -/
def assemble (b : Byte) (stopBit : Bool) (s : State) : State :=
  match s.host.asm with
  | .idle => if stopBit ∧ b = 0xC3 then beginFrame s else s
  | .receiving =>
    if ¬ stopBit then formatDrop s
    else if b = 0xC3 then beginFrame s
    else if b = 0x9D then s.onHost fun h => { h with asm := .escaped }
    else addContent b s
  | .escaped =>
    if ¬ stopBit then formatDrop s
    else if b = 0xC3 then beginFrame s
    else if b = 0x99 then addContent 0xC3 s
    else if b = 0xC7 then addContent 0x9D s
    else formatDrop s

/-- A run of good bytes on the host line. -/
def assembleAll (bs : List Byte) (s : State) : State := bs.foldl (fun s b => assemble b true s) s

/-! ### The reply on the line (R188, R201) -/

/-- The bytes of a reply on the host line: kind REPLY, the request's tag and code, and a payload that
begins with the result byte. -/
def replyLine (r : Reply) : List Byte := frameLine 0x02 r.tag r.code (r.result :: r.payload)

end Sys2Proof.Machine
end

