-- ==== Sys2Proof/Machine/HostCommands.lean ====
section
/-! DEFINITION. The meanings of the commands of the host line: bytes, replies sent, and the requests,
each of which stands for the arrival of its whole valid frame (log entry 2). -/

namespace Sys2Proof.Machine

/-- An event the part takes while it runs; held in reset or without supply it takes none (R197, R139;
log entry 5). The abandonment of R173 falls at the end of the event (log entry 9). -/
def whileRunning (f : State → State) (s : State) : Outcome :=
  if s.power = .running then .next (abandonForUrgent (f s)) else .next s

/-- A whole valid frame of the host arrives with a tag and a request (log entry 2). -/
def frameOf (tag : Byte) (r : Request) (s : State) : Outcome := whileRunning (submit tag r) s

/-- HOST_BYTE_RECEIVED (R183). -/
def execHostByteReceived (b : Byte) (stopBit : Bool) (s : State) : Outcome :=
  whileRunning (assemble b stopBit) s

/-- REPLY_SENT (R186, R196). -/
def execReplySent (s : State) : Outcome := whileRunning endReply s

/-- BAD_FRAME_CODE (R187): a whole frame whose code or length fits no request. A payload of any other
kind, or longer than a frame holds, is no such event (log entry 3). -/
def execBadFrameCode (tag code : Byte) (payload : List Byte) (s : State) : Outcome :=
  match decide (payload.length ≤ 240), parseRequest code payload with
  | true, .bad c reason => frameOf tag (.bad c reason) s
  | _, _ => .next s

/-- STATUS (R195). -/
def execStatus (tag clear : Byte) (s : State) : Outcome := frameOf tag (.status clear) s

/-- READ_EVENTS (R192). -/
def execReadEvents (tag max : Byte) (s : State) : Outcome := frameOf tag (.readEvents max) s

/-- SET_ATTENTION_LEVEL (R193). -/
def execSetAttentionLevel (tag level : Byte) (s : State) : Outcome :=
  frameOf tag (.setAttentionLevel level) s

/-- RESTART (R196). -/
def execRestart (tag : Byte) (s : State) : Outcome := frameOf tag .restart s

/-- CONFIGURE_MILL (R5 to R7). -/
def execConfigureMill (tag : Byte) (p : MillParams) (s : State) : Outcome :=
  frameOf tag (.configureMill p) s

/-- CONFIGURE_STAND (R9 to R11). -/
def execConfigureStand (tag : Byte) (p : StandParams) (s : State) : Outcome :=
  frameOf tag (.configureStand p) s

/-- CONFIGURE_GAUGE (R13 to R15). -/
def execConfigureGauge (tag : Byte) (p : GaugeParams) (s : State) : Outcome :=
  frameOf tag (.configureGauge p) s

/-- START_TRACKING (R40). -/
def execStartTracking (tag product : Byte) (coil : BitVec 32) (s : State) : Outcome :=
  frameOf tag (.startTracking product coil) s

/-- STOP_TRACKING (R41). -/
def execStopTracking (tag : Byte) (s : State) : Outcome := frameOf tag .stopTracking s

/-- READ_CELLS (R42). -/
def execReadCells (tag : Byte) (first : BitVec 48) (count selector : Byte) (s : State) : Outcome :=
  frameOf tag (.readCells first count selector) s

/-- STANDARDIZE_GAUGE (R65). -/
def execStandardizeGauge (tag position : Byte) (s : State) : Outcome :=
  frameOf tag (.standardizeGauge position) s

/-- READ_GAUGES (R66). -/
def execReadGauges (tag : Byte) (s : State) : Outcome := frameOf tag .readGauges s

/-- LOAD_PRODUCT (R72). -/
def execLoadProduct (tag : Byte) (p : ProductParams) (s : State) : Outcome :=
  frameOf tag (.loadProduct p) s

/-- ERASE_PRODUCT (R73). -/
def execEraseProduct (tag index : Byte) (s : State) : Outcome := frameOf tag (.eraseProduct index) s

/-- READ_PRODUCT (R74). -/
def execReadProduct (tag view index : Byte) (s : State) : Outcome :=
  frameOf tag (.readProduct view index) s

/-- APPEND_COIL (R76). -/
def execAppendCoil (tag : Byte) (coil : BitVec 32) (product : Byte) (s : State) : Outcome :=
  frameOf tag (.appendCoil coil product) s

/-- CLEAR_COIL_LIST (R77). -/
def execClearCoilList (tag : Byte) (s : State) : Outcome := frameOf tag .clearCoilList s

/-- SET_OFFSET (R101). -/
def execSetOffset (tag stand : Byte) (offset : BitVec 16) (s : State) : Outcome :=
  frameOf tag (.setOffset stand offset) s

/-- RESET_TRIM (R102). -/
def execResetTrim (tag selector : Byte) (s : State) : Outcome := frameOf tag (.resetTrim selector) s

/-- ENGAGE_STAND (R111). -/
def execEngageStand (tag stand : Byte) (s : State) : Outcome := frameOf tag (.engageStand stand) s

/-- OPEN_STAND (R125). -/
def execOpenStand (tag selector : Byte) (s : State) : Outcome := frameOf tag (.openStand selector) s

/-- READ_STAND (R126). -/
def execReadStand (tag stand : Byte) (s : State) : Outcome := frameOf tag (.readStand stand) s

/-- CONFIGURE_TRIP (R147). -/
def execConfigureTrip (tag index cls affected : Byte) (s : State) : Outcome :=
  frameOf tag (.configureTrip index cls affected) s

/-- TRIP_REQUEST (R145). -/
def execTripRequest (tag : Byte) (reason : BitVec 16) (s : State) : Outcome :=
  frameOf tag (.tripRequest reason) s

/-- CLEAR_TRIPS (R148, R149). -/
def execClearTrips (tag : Byte) (s : State) : Outcome := frameOf tag .clearTrips s

/-- READ_TRIPS (R150). -/
def execReadTrips (tag view first : Byte) (s : State) : Outcome :=
  frameOf tag (.readTrips view first) s

/-- RESET_STAND_LINK (R177). -/
def execResetStandLink (tag : Byte) (s : State) : Outcome := frameOf tag .resetStandLink s

/-- READ_NODES (R179). -/
def execReadNodes (tag clear : Byte) (s : State) : Outcome := frameOf tag (.readNodes clear) s

end Sys2Proof.Machine
end

