-- ==== Sys2Proof/Machine/LineCommands.lean ====
section
/-! DEFINITION. The meanings of the commands of the other lines and of time: reset and supply, ticks,
emergency stops, timers, the Stand Link and the frames its nodes send. -/

namespace Sys2Proof.Machine

/-! ### Reset, supply and time -/

/-- RESET_ASSERTED (R197): the RESET line goes low and the part is held in reset; a reply on the line is
cut short, and from here the part drives neither the data pair, nor HOLD, nor LINK-RESET
(`State.pairBits`, `State.drivesHold`, `State.drivesLinkReset`): the link's fields are dead until the
release replaces them. Supply that returns finds the line low (log entry 5). -/
def execResetAsserted (s : State) : Outcome :=
  .next (({ s with power := .inReset }).onHost fun h => { h with reply := none })

/-- RESET_RELEASED (R197): the reset is completed as one event, with detail 0 for the RESET line. A line
that was not low is not released (log entry 3). -/
def execResetReleased (s : State) : Outcome :=
  if s.power = .inReset then .next (afterReset 0 s) else .next s

/-- POWER_LOSS (R139): without supply MSTOP is asserted and the part takes nothing (log entry 5). -/
def execPowerLoss (s : State) : Outcome :=
  .next (({ s with power := .off }).onHost fun h => { h with reply := none })

/-- TIME_BASE_TICK (R1): the time base advances by one and wraps. -/
def execTimeBaseTick (s : State) : Outcome := whileRunning (fun s => { s with now := s.now + 1 }) s

/-- ESTOP_LINE_CHANGE (R140); held in reset or without supply only the level changes, which the reset
then takes (R197, log entry 5). -/
def execEstopLineChange (line : Fin 8) (low : Bool) (s : State) : Outcome :=
  if s.power = .running then whileRunning (estopChange line low) s
  else .next (s.onTrips fun t => { t with pressed := upd t.pressed line fun _ => low })

/-- SETTLE_TIMER_EXPIRY (R115). -/
def execSettleTimerExpiry (i : Stand) (s : State) : Outcome := whileRunning (settleExpiry i) s

/-- MOVE_TIMER_EXPIRY (R119). -/
def execMoveTimerExpiry (i : Stand) (s : State) : Outcome := whileRunning (moveExpiry i) s

/-- OPEN_TIMER_EXPIRY (R124). -/
def execOpenTimerExpiry (i : Stand) (s : State) : Outcome := whileRunning (openExpiry i) s

/-- STOP_CONFIRM_EXPIRY (R136). -/
def execStopConfirmExpiry (s : State) : Outcome := whileRunning confirmExpiry s

/-- NODE_SILENCE (R158): the silence test of a node finds it silent. -/
def execNodeSilence (a : Node) (s : State) : Outcome := whileRunning (silenceTest a) s

/-! ### The Stand Link -/

/-- RESPONSE_TIMEOUT (R164). -/
def execResponseTimeout (elapsedUs : Nat) (s : State) : Outcome :=
  whileRunning (responseExpiry elapsedUs) s

/-- STUCK_LINK_DETECTED (R175). -/
def execStuckLinkDetected (heldUs : Nat) (s : State) : Outcome :=
  whileRunning (stuckDetected heldUs) s

/-- LINK_RESET_PULSE_END (R176). -/
def execLinkResetPulseEnd (s : State) : Outcome := whileRunning pulseEnd s

/-- ARBITRATION_OPPORTUNITY (R161, R162). -/
def execArbitrationOpportunity (s : State) : Outcome := whileRunning opportunity s

/-- ARBITRATION_WON (R163, R168). -/
def execArbitrationWon (nodeContended : Bool) (s : State) : Outcome :=
  whileRunning (winArbitration nodeContended) s

/-- NODE_WINS_ARBITRATION (R161, R176); a part that does not run only finds HOLD asserted (log entry 5). -/
def execNodeWinsArbitration (urgent : Bool) (address : BitVec 4) (s : State) : Outcome :=
  if s.power = .running then whileRunning (nodeWins urgent address) s
  else .next (s.onLink fun l => { l with holdOther := true })

/-- HOLD_RELEASED (R154, R169, R175); a part that does not run only finds HOLD released (log entry 5). -/
def execHoldReleased (s : State) : Outcome :=
  if s.power = .running then whileRunning releaseHold s
  else .next (s.onLink fun l => { l with holdOther := false })

/-- TXN_FRAME_SENT (R164). -/
def execTxnFrameSent (s : State) : Outcome := whileRunning frameSent s

/-- STOP_BROADCAST_SENT (R165, R134). -/
def execStopBroadcastSent (s : State) : Outcome := whileRunning broadcastSent s

/-- RESPONSE_BYTE_RECEIVED (R164). -/
def execResponseByteReceived (b : Byte) (parity : Bool) (s : State) : Outcome :=
  whileRunning (responseByte b parity) s

/-- NODE_FRAME_REFUSED (R169): a node's frame as received. A frame that passes every check is delivered
like any other (log entry 21). -/
def execNodeFrameRefused (f : NodeFrame) (s : State) : Outcome := whileRunning (receiveFrame f) s

/-- STAND_REPORT (R171): a well-formed STAND_REPORT frame of the node that holds the link. -/
def execStandReport (r : StandReport) (s : State) : Outcome :=
  whileRunning (receiveFrame (standReportFrame r)) s

/-- ENTRY_REPORT (R172). -/
def execEntryReport (r : EntryReport) (s : State) : Outcome :=
  whileRunning (receiveFrame (entryReportFrame r)) s

/-- GAUGE_SAMPLE (R172, R47). -/
def execGaugeSample (r : GaugeSample) (s : State) : Outcome :=
  whileRunning (receiveFrame (gaugeSampleFrame r)) s

end Sys2Proof.Machine
end

