-- ==== Sys2Proof/Machine/Dispatch.lean ====
section
/-! DEFINITION. One arm per command: the command's meaning (R-numbers stand with the meanings). -/

namespace Sys2Proof.Machine

def exec (i : Instr) (s : State) : Host.Outcome State Fault Refusal :=
  match i with
  | .hostByteReceived b stopBit => Sys2Proof.Machine.execHostByteReceived b stopBit s
  | .replySent => Sys2Proof.Machine.execReplySent s
  | .badFrameCode tag code payload => Sys2Proof.Machine.execBadFrameCode tag code payload s
  | .status tag clear => Sys2Proof.Machine.execStatus tag clear s
  | .readEvents tag max => Sys2Proof.Machine.execReadEvents tag max s
  | .setAttentionLevel tag level => Sys2Proof.Machine.execSetAttentionLevel tag level s
  | .restart tag => Sys2Proof.Machine.execRestart tag s
  | .configureMill tag p => Sys2Proof.Machine.execConfigureMill tag p s
  | .configureStand tag p => Sys2Proof.Machine.execConfigureStand tag p s
  | .configureGauge tag p => Sys2Proof.Machine.execConfigureGauge tag p s
  | .startTracking tag product coil => Sys2Proof.Machine.execStartTracking tag product coil s
  | .stopTracking tag => Sys2Proof.Machine.execStopTracking tag s
  | .readCells tag first count selector => Sys2Proof.Machine.execReadCells tag first count selector s
  | .standardizeGauge tag position => Sys2Proof.Machine.execStandardizeGauge tag position s
  | .readGauges tag => Sys2Proof.Machine.execReadGauges tag s
  | .loadProduct tag p => Sys2Proof.Machine.execLoadProduct tag p s
  | .eraseProduct tag index => Sys2Proof.Machine.execEraseProduct tag index s
  | .readProduct tag view index => Sys2Proof.Machine.execReadProduct tag view index s
  | .appendCoil tag coil product => Sys2Proof.Machine.execAppendCoil tag coil product s
  | .clearCoilList tag => Sys2Proof.Machine.execClearCoilList tag s
  | .setOffset tag stand offset => Sys2Proof.Machine.execSetOffset tag stand offset s
  | .resetTrim tag selector => Sys2Proof.Machine.execResetTrim tag selector s
  | .engageStand tag stand => Sys2Proof.Machine.execEngageStand tag stand s
  | .openStand tag selector => Sys2Proof.Machine.execOpenStand tag selector s
  | .readStand tag stand => Sys2Proof.Machine.execReadStand tag stand s
  | .configureTrip tag index cls affected => Sys2Proof.Machine.execConfigureTrip tag index cls affected s
  | .tripRequest tag reason => Sys2Proof.Machine.execTripRequest tag reason s
  | .clearTrips tag => Sys2Proof.Machine.execClearTrips tag s
  | .readTrips tag view first => Sys2Proof.Machine.execReadTrips tag view first s
  | .resetStandLink tag => Sys2Proof.Machine.execResetStandLink tag s
  | .readNodes tag clear => Sys2Proof.Machine.execReadNodes tag clear s
  | .resetAsserted => Sys2Proof.Machine.execResetAsserted s
  | .resetReleased => Sys2Proof.Machine.execResetReleased s
  | .timeBaseTick => Sys2Proof.Machine.execTimeBaseTick s
  | .estopLineChange line low => Sys2Proof.Machine.execEstopLineChange line low s
  | .settleTimerExpiry stand => Sys2Proof.Machine.execSettleTimerExpiry stand s
  | .moveTimerExpiry stand => Sys2Proof.Machine.execMoveTimerExpiry stand s
  | .openTimerExpiry stand => Sys2Proof.Machine.execOpenTimerExpiry stand s
  | .stopConfirmExpiry => Sys2Proof.Machine.execStopConfirmExpiry s
  | .nodeSilence node => Sys2Proof.Machine.execNodeSilence node s
  | .responseTimeout elapsedUs => Sys2Proof.Machine.execResponseTimeout elapsedUs s
  | .stuckLinkDetected heldUs => Sys2Proof.Machine.execStuckLinkDetected heldUs s
  | .linkResetPulseEnd => Sys2Proof.Machine.execLinkResetPulseEnd s
  | .arbitrationOpportunity => Sys2Proof.Machine.execArbitrationOpportunity s
  | .arbitrationWon nodeContended => Sys2Proof.Machine.execArbitrationWon nodeContended s
  | .nodeWinsArbitration urgent address => Sys2Proof.Machine.execNodeWinsArbitration urgent address s
  | .holdReleased => Sys2Proof.Machine.execHoldReleased s
  | .txnFrameSent => Sys2Proof.Machine.execTxnFrameSent s
  | .stopBroadcastSent => Sys2Proof.Machine.execStopBroadcastSent s
  | .responseByteReceived b parity => Sys2Proof.Machine.execResponseByteReceived b parity s
  | .nodeFrameRefused f => Sys2Proof.Machine.execNodeFrameRefused f s
  | .standReport r => Sys2Proof.Machine.execStandReport r s
  | .entryReport r => Sys2Proof.Machine.execEntryReport r s
  | .gaugeSample r => Sys2Proof.Machine.execGaugeSample r s
  | .powerLoss => Sys2Proof.Machine.execPowerLoss s

end Sys2Proof.Machine
end

