-- ==== Sys2Proof/Safety.lean ====
section
/-! DEFINITION. What counts as a sound state of the part: the laws the spec gives the device, each as a
predicate on State that statements show every step keeps. -/

namespace Sys2Proof.Machine

/-! ### The bounds of the tables and counters -/

/-- The tables' capacities and the counters' largest values: the tracking queue (R26), the coil list
(R75), the input queue (R186), the event queue (R190), the attention level (R193), the drop counts
(R185), the link counters (R178), the failure counts (R156), the low-reading counts (R142), the raise
counts (R129) and the discarded sample counts (R45). -/
structure Bounded (s : State) : Prop where
  cells : s.track.queue.length ≤ 256
  coils : s.store.coils.length ≤ 8
  frames : s.host.inputQueue.length ≤ 4
  events : s.host.events.length ≤ 48
  attention : 1 ≤ s.host.attention ∧ s.host.attention ≤ 7
  crcDrops : s.host.crcDrops ≤ 65535
  formatDrops : s.host.formatDrops ≤ 65535
  queueDrops : s.host.queueDrops ≤ 65535
  checkErrors : s.link.counters.checkErrors ≤ 65535
  rejected : s.link.counters.rejected ≤ 65535
  failed : s.link.counters.failed ≤ 65535
  abandoned : s.link.counters.abandoned ≤ 65535
  resets : s.link.counters.resets ≤ 65535
  failures : ∀ a : Node, s.nodes[a].failures ≤ 3
  low : ∀ z : Fin 5, s.trips.low[z] ≤ 255
  raises : ∀ k : Source, s.trips.records[k].count ≤ 255
  discarded : ∀ p : Gauge, s.gauges[p].discarded ≤ 65535

/-! ### The host port -/

/-- The assembler holds no content in IDLE (R183), and while the part runs a reply is on the line exactly
while a request is in hand (R186, R188). -/
structure HostSound (s : State) : Prop where
  empty : s.host.asm = .idle → s.host.content = []
  inHand : s.power = .running → (s.host.reply.isSome = true ↔ s.host.inputQueue ≠ [])

/-! ### The Stand Link -/

/-- No transaction of the part carries normal work while an urgent slot is filled (R173). -/
def Settled (s : State) : Prop :=
  ∀ f, s.link.inFlight = some f → normalItem f.item = true → urgentFilled s = false

/-- The link state is PART exactly while a transaction of the part is in flight (R154, R163); the
response timer runs exactly from the check byte of a transaction to a node (R164, R165); a frame is
under reception only in NODE (R169); and the part contends only for a free link (R161). -/
structure LinkSound (s : State) : Prop where
  part : s.link.state = .part ↔ s.link.inFlight.isSome = true
  timer : s.link.respTimer.isSome = true ↔ ∃ f, s.link.inFlight = some f ∧ f.frameSent = true
  answered : ∀ f, s.link.inFlight = some f → f.frameSent = true → ∀ l b, f.item ≠ .stop l b
  reception : s.link.sender.isSome = true → s.link.state = .node
  contends : s.link.contending.isSome = true → s.link.state = .free

/-- Each role other than NONE is held by at most one address (R3). -/
def RolesUnique (s : State) : Prop :=
  ∀ a b : Node, s.nodes[a].role = s.nodes[b].role → s.nodes[a].role ≠ .none → a = b

/-! ### The trip table -/

/-- The LATCHED records carry ranks 1 to n, each once, where n is their number (R131); a CLEAR record
holds no latch (R129). -/
structure RanksSound (s : State) : Prop where
  range : ∀ k : Source, s.trips.records[k].latched = true →
    1 ≤ s.trips.records[k].rank ∧ s.trips.records[k].rank ≤ latchedCount s ∧
      1 ≤ s.trips.records[k].count
  once : ∀ j k : Source, s.trips.records[j].latched = true → s.trips.records[k].latched = true →
    s.trips.records[j].rank = s.trips.records[k].rank → j = k
  clear : ∀ k : Source, s.trips.records[k].latched = false →
    s.trips.records[k] = clearRecord s.trips.records[k].cls s.trips.records[k].affected

/-- While the part runs, a PRESSED line's record is LATCHED (R140). -/
def PressedLatched (s : State) : Prop :=
  s.power = .running → ∀ x : Fin 8, s.trips.pressed[x] = true →
    s.trips.records[sourceIndex (.estop x)].latched = true

/-- The stop wanted is EMERGENCY while an EMERGENCY record is LATCHED or the escalation flag is set
(R133, R138); the stop sent, and a STOP on the link that still counts, are at most the stop wanted
(R134); and the stop-confirm timer runs exactly in WAITING (R135, R136). -/
structure StopsSound (s : State) : Prop where
  emergency : emergencyStanding s = true → s.trips.stopWanted = .emergency
  sent : stopRank s.trips.stopSent ≤ stopRank s.trips.stopWanted
  onLink : ∀ f lv, s.link.inFlight = some f → f.item = .stop lv true →
    stopRank lv ≤ stopRank s.trips.stopWanted
  timer : s.trips.confirmT.isSome = true ↔ s.trips.confirm = .waiting

/-! ### The stands -/

/-- The actuator state a gap command belongs to: a GAP_TRAVEL to TRAVEL, a GAP_TRIM to HOLD, a GAP_OPEN
to OPENING (R112, R116, R121). -/
def homeState : GapCommand → ActState
  | .travel _ => .travel
  | .trim _ => .hold
  | .open_ => .opening

/-- OPENING, OPEN and OPEN_FAILED: the states in which the stand is wanted out of the strip (R105). -/
def openGroup (a : ActState) : Prop := a = .opening ∨ a = .open_ ∨ a = .openFailed

/-- A stand's current work belongs to its actuator state (R108), and a stand that a latched record names
is in OPENING, OPEN or OPEN_FAILED (R122). -/
structure StandsSound (s : State) : Prop where
  home : ∀ (i : Stand) (w : Work), s.actuators[i].work = some w →
    s.actuators[i].state = homeState w.cmd
  named : ∀ i : Stand, tripNames s i = true → openGroup s.actuators[i].state

/-- Every configured stand keeps its terms within its limits and its demand within its gap limits, and a
configured stand's gap limits are in order (R89, R10). -/
structure DemandSound (s : State) : Prop where
  order : ∀ i : Stand, s.stands[i].configured = true → s.stands[i].gapMin < s.stands[i].gapMax
  ff : ∀ i : Stand, s.stands[i].configured = true → s.demands[i].ff.natAbs ≤ s.stands[i].ffLimit
  trim : ∀ i : Stand, s.stands[i].configured = true →
    s.demands[i].trim.natAbs ≤ s.stands[i].monLimit
  demand : ∀ (i : Stand) (d : DemandValue), s.stands[i].configured = true →
    s.demands[i].demand = some d → s.stands[i].gapMin ≤ d.value ∧ d.value ≤ s.stands[i].gapMax

/-! ### The strip and its products -/

/-- What the tracking state says of the run (R17, R21, R80, R81), and the law of the tracking queue: at
most 256 cells, whose serials from oldest to newest are consecutive integers that end just below the
next serial (R26). -/
structure RunSound (s : State) : Prop where
  stopped : s.track.mode = .stopped →
    s.track.forming = none ∧ s.track.queue = [] ∧ s.track.poolFull = false ∧
      s.store.threading = none ∧ ∀ i : Stand, s.store.active[i] = none
  running : s.track.mode ≠ .stopped →
    s.track.forming.isSome = true ∧ s.store.threading.isSome = true
  cells : s.track.queue.length ≤ 256
  serials : ∀ j c, s.track.queue[j]? = some c →
    c.serial + (s.track.queue.length - j) = s.track.nextSerial

/-- Cell `x` is at least as far as the newer cell `y` at every stand, and bit each stand no later on its
odometer (R30). -/
def aheadOf (x y : Cell) : Prop :=
  x.e0 ≤ y.e0 ∧ ∀ k b, stampOf y k = some b → ∃ a, stampOf x k = some a ∧ a ≤ b

/-- The law of bites: of any two cells in the queue the older is ahead of the newer, no stamp lies
beyond its odometer, and only the oldest cell is a head end (R30, R21). -/
structure BitesSound (s : State) : Prop where
  ahead : s.track.queue.Pairwise aheadOf
  stamps : ∀ c ∈ s.track.queue, ∀ z : Zone, ∀ e, stampOf c z.val = some e → e ≤ s.track.odo[z]
  short : ∀ c ∈ s.track.queue, c.entries.length ≤ 5
  forming : ∀ f, s.track.forming = some f → f.stamp ≤ s.track.odo[(0 : Fin 6)] ∧
    (∀ c ∈ s.track.queue, c.e0 ≤ f.stamp) ∧ (f.headEnd = true → s.track.queue = []) ∧
    ∀ w, f.pendingWeld = some w → f.stamp ≤ w.stamp ∧ w.stamp ≤ s.track.odo[(0 : Fin 6)]
  headEnd : ∀ c ∈ s.track.queue.drop 1, c.headEnd = false

/-- A product that some holder names is loaded, so that its entry is IN_USE (R70). -/
def ProductsHeld (s : State) : Prop :=
  ∀ p : Product, s.refCount p ≠ 0 → s.store.table[p].loaded = true

/-! ### Requests -/

/-- The frame that a request command stands for: its tag and the request its code and payload spell
(R203; log entry 2). -/
def asFrame : Instr → Option Frame
  | .hostByteReceived _ _ => none
  | .replySent => none
  | .badFrameCode tag code payload =>
    match decide (payload.length ≤ 240), parseRequest code payload with
    | true, .bad c reason => some ⟨tag, .bad c reason⟩
    | _, _ => none
  | .status tag clear => some ⟨tag, .status clear⟩
  | .readEvents tag max => some ⟨tag, .readEvents max⟩
  | .setAttentionLevel tag level => some ⟨tag, .setAttentionLevel level⟩
  | .restart tag => some ⟨tag, .restart⟩
  | .configureMill tag p => some ⟨tag, .configureMill p⟩
  | .configureStand tag p => some ⟨tag, .configureStand p⟩
  | .configureGauge tag p => some ⟨tag, .configureGauge p⟩
  | .startTracking tag product coil => some ⟨tag, .startTracking product coil⟩
  | .stopTracking tag => some ⟨tag, .stopTracking⟩
  | .readCells tag first count selector => some ⟨tag, .readCells first count selector⟩
  | .standardizeGauge tag position => some ⟨tag, .standardizeGauge position⟩
  | .readGauges tag => some ⟨tag, .readGauges⟩
  | .loadProduct tag p => some ⟨tag, .loadProduct p⟩
  | .eraseProduct tag index => some ⟨tag, .eraseProduct index⟩
  | .readProduct tag view index => some ⟨tag, .readProduct view index⟩
  | .appendCoil tag coil product => some ⟨tag, .appendCoil coil product⟩
  | .clearCoilList tag => some ⟨tag, .clearCoilList⟩
  | .setOffset tag stand offset => some ⟨tag, .setOffset stand offset⟩
  | .resetTrim tag selector => some ⟨tag, .resetTrim selector⟩
  | .engageStand tag stand => some ⟨tag, .engageStand stand⟩
  | .openStand tag selector => some ⟨tag, .openStand selector⟩
  | .readStand tag stand => some ⟨tag, .readStand stand⟩
  | .configureTrip tag index cls affected => some ⟨tag, .configureTrip index cls affected⟩
  | .tripRequest tag reason => some ⟨tag, .tripRequest reason⟩
  | .clearTrips tag => some ⟨tag, .clearTrips⟩
  | .readTrips tag view first => some ⟨tag, .readTrips view first⟩
  | .resetStandLink tag => some ⟨tag, .resetStandLink⟩
  | .readNodes tag clear => some ⟨tag, .readNodes clear⟩
  | .resetAsserted => none
  | .resetReleased => none
  | .timeBaseTick => none
  | .estopLineChange _ _ => none
  | .settleTimerExpiry _ => none
  | .moveTimerExpiry _ => none
  | .openTimerExpiry _ => none
  | .stopConfirmExpiry => none
  | .nodeSilence _ => none
  | .responseTimeout _ => none
  | .stuckLinkDetected _ => none
  | .linkResetPulseEnd => none
  | .arbitrationOpportunity => none
  | .arbitrationWon _ => none
  | .nodeWinsArbitration _ _ => none
  | .holdReleased => none
  | .txnFrameSent => none
  | .stopBroadcastSent => none
  | .responseByteReceived _ _ => none
  | .nodeFrameRefused _ => none
  | .standReport _ => none
  | .entryReport _ => none
  | .gaugeSample _ => none
  | .powerLoss => none


/-- The part runs and no request is in hand, so a frame that arrives is taken at once (R186). -/
structure Ready (s : State) : Prop where
  runs : s.power = .running
  noneInHand : s.host.inputQueue = []
  settled : Settled s

/-- `t` with a request of a tag taken from the line and its reply on the line: what the host port shows
of an answered request (R186, R188). -/
def answered (tag : Byte) (r : Request) (res : ResultCode) (payload : List Byte) (t : State) : State :=
  t.onHost fun h =>
    { h with asm := .idle, content := [], inputQueue := [⟨tag, r⟩],
             reply := some ⟨tag, requestCode r, resultByte res, payload⟩ }

/-- The fourteen conditions of R5's table, by number; each other number holds nothing back. "Stays
configured" means configured now and not above the new N. -/
def MillCheck (s : State) (p : MillParams) : Nat → Prop
  | 1 => 2 ≤ p.n.toNat ∧ p.n.toNat ≤ 5
  | 2 => 50000 ≤ p.ql.toNat ∧ p.ql.toNat ≤ 2000000
  | 3 => ∀ k : Zone, k.val < p.n.toNat → 100000 ≤ (millDist p)[k] ∧ (millDist p)[k] ≤ 30000000
  | 4 => p.ql.toNat + 10000 ≤ p.d0.toNat
  | 5 => 1 ≤ p.retire.toNat ∧ p.retire.toNat ≤ 30000000
  | 6 => p.biteAllowance.toNat ≤ 2000000
  | 7 => ∀ k : Zone, k.val < p.n.toNat → p.biteAllowance.toNat < (millDist p)[k]
  | 8 => 2 ≤ p.silenceMs.toNat ∧ p.silenceMs.toNat ≤ 1000
  | 9 => 10 ≤ p.stopConfirm.toNat ∧ p.stopConfirm.toNat ≤ 5000
  | 10 => (20 ≤ p.respUs.toNat ∧ p.respUs.toNat ≤ 2000) ∧
      (200 ≤ p.txnLimitUs.toNat ∧ p.txnLimitUs.toNat ≤ 20000) ∧ p.respUs.toNat < p.txnLimitUs.toNat
  | 11 => p.entryAddr.toNat ≤ 14
  | 12 => ∃ a : Node, a.val = p.entryAddr.toNat ∧
      (s.nodes[a].role = .none ∨ s.nodes[a].role = .entry ∨
        (∃ i : Stand, s.nodes[a].role = .stand i ∧
          ¬ (s.stands[i].configured = true ∧ i.val + 1 ≤ p.n.toNat)) ∨
        ∃ g : Gauge, s.nodes[a].role = .gauge g ∧
          ¬ (s.gauges[g].installed = true ∧ g.val ≤ p.n.toNat))
  | 13 => ∀ i : Stand, s.stands[i].configured = true → i.val + 1 ≤ p.n.toNat →
      s.stands[i].lead ≤ (millDist p)[zoneBefore i]
  | 14 => ∀ k : Gauge, 1 ≤ k.val → s.gauges[k].installed = true → k.val ≤ p.n.toNat →
      (k.val < p.n.toNat → s.gauges[k].g + 1 ≤ (millDist p)[k]) ∧
      (k.val = p.n.toNat → s.gauges[k].g < p.retire.toNat)
  | _ => True

/-- The part runs and no urgent work waits behind normal work on the link. -/
structure Running (s : State) : Prop where
  runs : s.power = .running
  settled : Settled s

/-! ### The link -/

/-- A frame of the node at address `a` is under reception (R169). -/
structure Receiving (s : State) (a : Node) : Prop where
  held : s.link.state = .node
  sender : s.link.sender = some (BitVec.ofNat 4 a.val)

/-- The frame under reception has been given an answer, or none (R169). -/
def judged (ans : Option Answer) (s : State) : State :=
  s.onLink fun l => { l with sender := none, answer := ans }

/-- A transaction of the part to node `a`, its check byte sent, that carries an item (R163, R164). -/
structure Awaiting (s : State) (item : Item) (a : Node) : Prop where
  inFlight : ∃ cls, s.link.inFlight = some ⟨item, cls, some a, true⟩

/-- The part has released the link after a transaction to node `a` that the node answered ACCEPT, REJECT
or BUSY: the failure count of the node is 0 (R164, R159). -/
def released (a : Node) (s : State) : State :=
  (s.onLink fun l => { l with state := .free, inFlight := none, respTimer := none }).onNode a fun n =>
    { n with failures := 0 }

/-- The checks 3 to 13 of R10 on a Configure Stand for stand `i`, by number; each other number holds nothing
back. -/
def StandCheck (s : State) (p : StandParams) (i : Stand) : Nat → Prop
  | 3 => (-200000 ≤ p.gapMin.toInt ∧ p.gapMin.toInt ≤ 600000) ∧
      (-200000 ≤ p.gapMax.toInt ∧ p.gapMax.toInt ≤ 600000)
  | 4 => p.gapMin.toInt < p.gapMax.toInt
  | 5 => p.ffLimit.toNat ≤ 10000 ∧ p.monLimit.toNat ≤ 20000
  | 6 => p.mode.toNat ≤ 1 ∧ p.massFlow.toNat ≤ 1
  | 7 => p.band.toNat ≤ 5000
  | 8 => 10 ≤ p.maxStep.toNat ∧ p.maxStep.toNat ≤ 50000
  | 9 => p.settle.toNat ≤ 2000
  | 10 => (10 ≤ p.moveTimeout.toNat ∧ p.moveTimeout.toNat ≤ 10000) ∧
      (10 ≤ p.openTimeout.toNat ∧ p.openTimeout.toNat ≤ 10000)
  | 11 => p.lead.toNat ≤ s.mill.dist[zoneBefore i]
  | 12 => p.addr.toNat ≤ 14
  | 13 => ∃ a : Node, a.val = p.addr.toNat ∧ (s.nodes[a].role = .none ∨ s.nodes[a].role = .stand i)
  | _ => True

/-- The checks 4 to 8 of R14 on a Configure Gauge that installs position `z`, by number; each other number
holds nothing back. -/
def GaugeCheck (s : State) (p : GaugeParams) (z : Gauge) : Nat → Prop
  | 4 => p.addr.toNat ≤ 14
  | 5 => ∃ a : Node, a.val = p.addr.toNat ∧ (s.nodes[a].role = .none ∨ s.nodes[a].role = .gauge z)
  | 6 => (1 ≤ z.val → z.val < s.mill.n → 1 ≤ p.g.toNat ∧ p.g.toNat + 1 ≤ s.mill.dist[z]) ∧
      (1 ≤ z.val → z.val = s.mill.n → 1 ≤ p.g.toNat ∧ p.g.toNat + 1 ≤ s.mill.retire)
  | 7 => 1 ≤ p.stdLength.toNat ∧ p.stdLength.toNat ≤ 100000
  | 8 => p.weldGuard.toNat ≤ 30000000
  | _ => True

/-- The source of record `k` is active at a Clear Trips (R148's table). -/
def SourceStanding (s : State) (k : Source) : Prop :=
  (∃ x : Fin 8, k.val = x.val ∧ s.trips.pressed[x] = true) ∨
  (k.val = 18 ∧ ∃ a : Node, s.nodes[a].role = .entry ∧ s.nodes[a].state = .lost) ∨
  (∃ i : Stand, k.val = 19 + i.val ∧
    ∃ a : Node, s.nodes[a].role = .stand i ∧ s.nodes[a].state = .lost) ∨
  (k.val = 30 ∧ s.link.stuck = true)

/-- The part runs and some urgent slot is filled: a stop to be sent, or a GAP_OPEN not yet accepted (R161,
R167). -/
def UrgentWaits (s : State) : Prop :=
  stopRank s.trips.stopSent < stopRank s.trips.stopWanted ∨
  ∃ (i : Stand) (w : Work), s.actuators[i].work = some w ∧ w.cmd = .open_ ∧ w.phase ≠ .moving

/-- Some normal slot is filled: a gap command not yet accepted, or a STANDARDIZE (R167). -/
def NormalWaits (s : State) : Prop :=
  (∃ (i : Stand) (w : Work), s.actuators[i].work = some w ∧ w.cmd ≠ .open_ ∧ w.phase ≠ .moving) ∨
  ∃ p : Gauge, s.gauges[p].phase = .placed

/-- The part runs, the Stand Link is FREE and no transaction of the part is in flight. -/
structure LinkFree (s : State) : Prop where
  runs : s.power = .running
  free : s.link.state = .free
  none : s.link.inFlight = none

/-- The frame of a PRESENT node at address `a` has been accepted and its entry refreshed (R157, R169). -/
def heard (a : Node) (s : State) : State :=
  (judged (some .accept) s).onNode a fun n =>
    { n with state := .present, lastFrame := s.now, failures := 0 }

/-- The fields of a stand put into opening (R121). -/
def openingOf (s : State) (i : Stand) : Actuator :=
  let a := s.actuators[i]
  { a with number := a.number + 1, work := some ⟨.open_, a.number + 1, .queued⟩, settleT := none,
           moveT := none, openT := some ⟨s.now, s.stands[i].openTimeout⟩, state := .opening }

/-- The node table after the loss of node `a` with a cause, and NODE_LOST in the event queue (R160,
step 1). -/
def markedLost (a : Node) (cause : BitVec 32) (s : State) : State :=
  (s.onNode a fun n => { n with state := .lost }).onHost fun h =>
    { h with events := h.events ++ [⟨.nodeLost, .node a, none, cause, s.now⟩] }

/-- A gauge's record after its node became LOST: ABSENT, an accepted or running standardisation wanted
again, and work placed and not yet sent withdrawn (R46, R61, R63). -/
def gaugeGone (r : GaugeRecord) : GaugeRecord :=
  { r with
    mode := .absent
    phase := match r.phase with
      | .none => .none
      | .waiting => .waiting
      | .placed => if r.inFlight then .placed else .waiting
      | .accepted => if r.mode = .absent then .accepted else .waiting
      | .running => if r.mode = .absent then .running else .waiting
    inFlight := r.inFlight && decide (r.phase = .placed) }

/-- `t` is `s` after node `a` became LOST with a cause (R160): its owner is told, by the role it holds. -/
structure NodeGone (a : Node) (cause : BitVec 32) (s t : State) : Prop where
  quiet : (s.nodes[a].role = .none ∨ s.track.mode = .stopped ∧
      (s.nodes[a].role = .entry ∨ ∃ i : Stand, s.nodes[a].role = .stand i)) →
    t = markedLost a cause s
  gauge : ∀ p : Gauge, s.nodes[a].role = .gauge p → s.gauges[p].installed = true →
    t = (markedLost a cause s).onGauge p gaugeGone
  trip : ∀ k : Source, s.track.mode ≠ .stopped →
    ((s.nodes[a].role = .entry ∧ k.val = 18) ∨
      ∃ i : Stand, s.nodes[a].role = .stand i ∧ k.val = 19 + i.val) →
    t.nodes = (markedLost a cause s).nodes ∧ t.trips.records[k].latched = true ∧
    (s.trips.records[k].latched = false →
      t.trips.records[k] = { s.trips.records[k] with
        latched := true, rank := latchedCount s + 1, time := s.now, count := 1, reported := false,
        detail := a.val } ∧
      ∀ i : Stand, s.trips.records[k].affected.getLsbD i.val = true →
        s.actuators[i].state ≠ .open_ → s.actuators[i].state ≠ .opening →
        s.actuators[i].state ≠ .openFailed → t.actuators[i] = openingOf s i) ∧
    (s.trips.records[k].latched = true → t.trips.records[k] = { s.trips.records[k] with
      count := min 255 (s.trips.records[k].count + 1) }) ∧
    ∀ j : Source, j ≠ k → t.trips.records[j] = s.trips.records[j]

/-- The part has released the link after a transaction to node `a` that ended with CHECK_ERROR or no
response: the counter of failed transactions and the node's failure count have risen (R159, R164,
R178). -/
def unanswered (a : Node) (s : State) : State :=
  (s.onLink fun l =>
    { l with state := .free, inFlight := none, respTimer := none, counters :=
      { l.counters with failed := min 65535 (l.counters.failed + 1) } }).onNode a fun n =>
    { n with failures := min 3 (n.failures + 1) }

/-- `t` is `s` after the owner of an item has taken its transaction as not delivered (R166): a step or trim
returns to QUEUED with its number, or gives way to the work the target now calls for (R118, R112,
R116); a GAP_OPEN is QUEUED again (R123); a STANDARDIZE stays in its slot (R62); a STOP has not been
sent (R134); and for work no longer current nothing is taken (R109). -/
structure NotDelivered (item : Item) (s t : State) : Prop where
  step : ∀ (i : Stand) (pos tgt : Int) (n : Byte), item = .gap i (.travel pos) n →
    s.actuators[i].work = some ⟨.travel pos, n, .inFlight⟩ → s.actuators[i].state = .travel →
    s.actuators[i].t = some tgt →
    let want := wantedStep s.actuators[i].p tgt s.stands[i].maxStep
    (want = pos → t = s.onActuator i fun a => { a with work := some ⟨.travel pos, n, .queued⟩ }) ∧
    (want ≠ pos → t = s.onActuator i fun a =>
      { a with number := a.number + 1, work := some ⟨.travel want, a.number + 1, .queued⟩ })
  trim : ∀ (i : Stand) (v tgt : Int) (n : Byte), item = .gap i (.trim v) n →
    s.actuators[i].work = some ⟨.trim v, n, .inFlight⟩ → s.actuators[i].state = .hold →
    s.actuators[i].t = some tgt →
    let a := s.actuators[i]
    let banded := s.stands[i].mode = .band ∧ (tgt - a.c).natAbs ≤ s.stands[i].band
    (tgt = a.p → t = s.onActuator i fun a => { a with work := none }) ∧
    (tgt ≠ a.p → banded → tgt - a.c = v →
      t = s.onActuator i fun a => { a with work := some ⟨.trim v, n, .queued⟩ }) ∧
    (tgt ≠ a.p → banded → tgt - a.c ≠ v → t = s.onActuator i fun a =>
      { a with number := a.number + 1, work := some ⟨.trim (tgt - a.c), a.number + 1, .queued⟩ }) ∧
    (tgt ≠ a.p → ¬ banded → t = s.onActuator i fun a =>
      { a with
        state := .travel
        number := a.number + 1
        work := some ⟨.travel (wantedStep a.p tgt s.stands[i].maxStep), a.number + 1, .queued⟩ })
  opening : ∀ (i : Stand) (n : Byte), item = .gapOpen i n →
    s.actuators[i].work = some ⟨.open_, n, .inFlight⟩ →
    t = s.onActuator i fun a => { a with work := some ⟨.open_, n, .queued⟩ }
  standardize : ∀ p : Gauge, item = .standardize p → s.gauges[p].phase = .placed →
    s.gauges[p].inFlight = true → t = s.onGauge p fun r => { r with inFlight := false }
  stop : ∀ (lv : StopLevel) (b : Bool), item = .stop lv b → t = s
  staleGap : ∀ (i : Stand) (n : Byte), (item = .gapOpen i n ∨ ∃ cmd, item = .gap i cmd n) →
    (∀ w, s.actuators[i].work = some w → w.number ≠ n ∨ w.phase ≠ .inFlight) → t = s
  staleStd : ∀ p : Gauge, item = .standardize p →
    (s.gauges[p].phase ≠ .placed ∨ s.gauges[p].inFlight = false) → t = s

/-- Node `a`'s entry after a valid frame, with NODE_PRESENT raised when it was not PRESENT (R157, R169). -/
def entered (a : Node) (s : State) : State :=
  if s.nodes[a].state = .present then heard a s
  else raise .nodePresent (.node a) none (roleCode s.nodes[a].role) (heard a s)

/-- A standardisation of gauge `p` is deferred (R60): a weld lies within the weld guard of the gauge, or in
the zone before it. -/
def WeldNear (s : State) (p : Gauge) : Prop :=
  let guard := s.gauges[p].weldGuard
  let odo := s.track.odo[(0 : Fin 6)]
  (p = 0 ∧ ((∃ c ∈ s.track.queue, c.weld = true ∧ odo - c.e0 < guard) ∨
    ∃ f, s.track.forming = some f ∧ ((f.weld = true ∧ odo - f.stamp < guard) ∨
      ∃ w, f.pendingWeld = some w ∧ odo - w.stamp < guard))) ∨
  ∃ i : Stand, p = i.succ ∧
    ((∃ c ∈ s.track.queue, c.weld = true ∧ ∃ n, c.entries[i.val]? = some n ∧
        s.track.odo[p] - n.stamp < s.gauges[p].g + guard) ∨
      (∃ c ∈ s.track.queue, c.weld = true ∧ c.entries.length = i.val) ∨
      (i = 0 ∧ ∃ f, s.track.forming = some f ∧ (f.weld = true ∨ f.pendingWeld ≠ none)))

/-- A payload shows `v` in the unsigned field of `w` bytes at offset `o`, saturated (R199). -/
def Shows (bs : List Byte) (o w v : Nat) : Prop :=
  field bs o w = min v (256 ^ w - 1)

/-- A payload shows `v` in the signed field of `w` bytes at offset `o`, saturated (R199). -/
def ShowsInt (bs : List Byte) (o w : Nat) (v : Int) : Prop :=
  (BitVec.ofNat (8 * w) (field bs o w)).toInt = clampTo (-(256 ^ w / 2)) (256 ^ w / 2 - 1) v

/-- Bit `k` of the flag byte at an offset. -/
def flagAt (bs : List Byte) (o k : Nat) : Bool :=
  (u8 bs o).getLsbD k

end Sys2Proof.Machine
end

