-- ==== Sys2Proof/Certificates/Slice0/Obligations.lean ====
section
/-! DEFINITION. The statements for the provers. Each is about `step`, `exec` or a named operation of the
model, and its docstring names the rules it rests on. -/

open Sys2Proof Sys2Proof.Machine

/-! ### The step, reset and power -/

/-- The step takes the command at the front of the queue with the queue's rest; on an empty queue the
part idles. The queue is the model's (log entry 1). -/
def Obligations.StepTakesFrontCommand : Prop :=
  (∀ (c : Instr) (q : List Instr) (s : State),
    step (s.withPending (c :: q)) = exec c (s.withPending q)) ∧
  ∀ s : State, step (s.withPending []) = .next (s.withPending [])

/-- RESET_RELEASED completes the reset (R197, with R44, R68, R85, R104, R128, R146, R153, R181, R198): every
unit at its reset values, the levels and straps taken from the lines, POWER_UP latched with rank 1,
then each pressed line in ascending order from rank 2; MSTOP asserted, ATTN high, no event. The note of
R161 is clear (log entry 7) and a HOLD found asserted has no known sender (log entry 14): there the
statement is the model's choice. -/
def Obligations.ResetReleasedLeavesResetValues : Prop :=
  ∀ s : State, s.power = .inReset → ∃ t : State, exec .resetReleased s = .next t ∧
    t.power = .running ∧ t.now = 0 ∧ t.straps = s.straps ∧ t.rateStraps = s.straps ∧
    t.pending = s.pending ∧
    (t.mill.configured = false ∧ t.mill.n = 0 ∧ t.mill = millReset) ∧
    (∀ i : Stand, t.stands[i] = standReset) ∧
    (t.track.mode = .stopped ∧ t.track.queue = [] ∧ t.track.forming = none ∧
      t.track.nextSerial = 1 ∧ t.track = trackReset) ∧
    (∀ p : Gauge, t.gauges[p] = gaugeReset) ∧
    (t.store.coils = [] ∧ t.store.threading = none ∧ (∀ i : Stand, t.store.active[i] = none) ∧
      ∀ p : Product, t.store.table[p] = productReset) ∧
    (∀ i : Stand, t.demands[i] = demandReset) ∧ (∀ i : Stand, t.actuators[i] = actuatorReset) ∧
    (∀ a : Node, t.nodes[a] = nodeReset .none) ∧
    (t.link.state = (if s.link.holdOther then .node else .free) ∧ t.link.ring = 10 ∧
      t.link = linkReset s.link.holdOther) ∧
    (t.host.attention = 4 ∧ t.host = hostReset) ∧
    t.trips.records[(31 : Source)] = powerUpRecord ∧
    (∀ x : Fin 8, t.trips.records[sourceIndex (.estop x)] =
      if s.trips.pressed[x] then
        { latched := true, cls := .emergency, affected := 0b11111,
          rank := 2 + (allLines.filter fun y => decide (y < x) && s.trips.pressed[y]).length,
          time := 0, count := 1, reported := false, detail := x.val }
      else clearRecord .emergency 0b11111) ∧
    (∀ k : Source, 8 ≤ k.val → k.val < 31 → t.trips.records[k] = tripDefaults[k]) ∧
    t.trips.escalation = none ∧ t.trips.stopWanted = .emergency ∧ t.trips.stopSent = .none ∧
    t.trips.confirm = .idle ∧ t.trips.confirmT = none ∧ t.trips.driveEntry = .unknown ∧
    (∀ i : Stand, t.trips.drive[i] = .unknown) ∧ (∀ z : Fin 5, t.trips.low[z] = 0) ∧
    t.trips.pressed = s.trips.pressed ∧ t.mstop = true ∧ t.attn = true

/-- Restart (R196): it is answered OK and changes nothing; at the last byte of its reply the part performs
the reset of the RESET line, except that POWER_UP's detail is 1. -/
def Obligations.RestartResetsAfterItsReply : Prop :=
  (∀ (tag : Byte) (s : State), Ready s →
    exec (.restart tag) s = .next (answered tag .restart .ok [] s)) ∧
  ∀ (s : State) (rep : Reply) (tag : Byte) (rest : List Frame), s.power = .running →
    s.host.reply = some rep → s.host.inputQueue = ⟨tag, .restart⟩ :: rest →
    ∃ u : State, exec .resetReleased { s with power := .inReset } = .next u ∧
      exec .replySent s = .next (u.onTrips fun t =>
        { t with records := upd t.records 31 fun r => { r with detail := 1 } })

/-- RESET_ASSERTED holds the part in reset and POWER_LOSS takes its supply (R197, R139): MSTOP is
asserted, neither the data pair nor HOLD nor LINK-RESET is driven, and the part takes no command but those
of the levels it finds again at the reset (log entry 5). -/
def Obligations.HeldPartAssertsMstopAndIgnores : Prop :=
  (∀ s : State, ∃ t : State, exec .resetAsserted s = .next t ∧
    t = { s with power := .inReset, host := { s.host with reply := none } } ∧
    t.mstop = true ∧ t.attn = false ∧ t.drivesHold = false ∧ t.drivesLinkReset = false ∧
    t.pairBits = []) ∧
  (∀ s : State, ∃ t : State, exec .powerLoss s = .next t ∧
    t = { s with power := .off, host := { s.host with reply := none } } ∧
    t.mstop = true ∧ t.drivesHold = false ∧ t.drivesLinkReset = false ∧ t.pairBits = []) ∧
  ∀ (c : Instr) (s : State), s.power ≠ .running → c ≠ .resetAsserted → c ≠ .resetReleased →
    c ≠ .powerLoss → c ≠ .holdReleased → (∀ x low, c ≠ .estopLineChange x low) →
    (∀ u a, c ≠ .nodeWinsArbitration u a) → exec c s = .next s

/-! ### Laws every step keeps -/

/-- The laws of Safety.lean hold right after reset. -/
def Obligations.LawsHoldAfterReset : Prop :=
  Bounded State.reset ∧ HostSound State.reset ∧ Settled State.reset ∧ LinkSound State.reset ∧
  RolesUnique State.reset ∧ RanksSound State.reset ∧ PressedLatched State.reset ∧
  StopsSound State.reset ∧ StandsSound State.reset ∧ DemandSound State.reset ∧
  RunSound State.reset ∧ BitesSound State.reset ∧ ProductsHeld State.reset

/-- Every step keeps the tables within their capacities and the counters within their ranges (R26, R45,
R75, R129, R142, R156, R178, R185, R186, R190, R193), and the assembler's IDLE empty and a reply on the
line exactly while a request is in hand (R183, R186, R188). -/
def Obligations.StepKeepsBounds : Prop :=
  ∀ s t : State, step s = .next t → (Bounded s → Bounded t) ∧ (HostSound s → HostSound t)

/-- Every step keeps PART exactly while a transaction of the part is in flight, with its response timer
from the check byte on (R154, R163 to R165, R169, R161), and leaves no normal transaction of the part in
flight while urgent work waits (R173). -/
def Obligations.StepKeepsLinkSound : Prop :=
  ∀ s t : State, step s = .next t → (LinkSound s → LinkSound t) ∧ (Settled s → Settled t)

/-- Every step keeps each role at no more than one address (R3). -/
def Obligations.StepKeepsRolesUnique : Prop :=
  ∀ s t : State, RolesUnique s → step s = .next t → RolesUnique t

/-- Every step keeps the ranks of the latched records 1 to n, each once (R131). -/
def Obligations.StepKeepsFirstOutRanks : Prop :=
  ∀ s t : State, RanksSound s → step s = .next t → RanksSound t

/-- Every step keeps a PRESSED line's record LATCHED (R140, R148). -/
def Obligations.StepKeepsPressedLatched : Prop :=
  ∀ s t : State, PressedLatched s → step s = .next t → PressedLatched t

/-- Every step keeps the stop wanted at EMERGENCY while MSTOP has a cause, the stop sent no stronger, and
the confirm timer with WAITING (R133 to R136, R138). -/
def Obligations.StepKeepsStopLevels : Prop :=
  ∀ s t : State, StopsSound s → step s = .next t → StopsSound t

/-- Every step keeps a stand that a latched record names in OPENING, OPEN or OPEN_FAILED, and a stand's
work with its actuator state (R122, R108). -/
def Obligations.StepKeepsTrippedStandsOpen : Prop :=
  ∀ s t : State, StandsSound s → step s = .next t → StandsSound t

/-- Every step keeps each configured stand's terms and demand within its limits (R89). -/
def Obligations.StepKeepsDemandsWithinLimits : Prop :=
  ∀ s t : State, DemandSound s → step s = .next t → DemandSound t

/-- Every step keeps the tracking queue a run of consecutive serials of at most 256 cells, and nothing of a
run while STOPPED (R17, R21, R26, R80, R81). -/
def Obligations.StepKeepsSerialRun : Prop :=
  ∀ s t : State, RunSound s → step s = .next t → RunSound t

/-- Every step keeps the law of bites: of two cells the older has bitten every stand the newer has, and no
later (R30). -/
def Obligations.StepKeepsBiteOrder : Prop :=
  ∀ s t : State, RunSound s → BitesSound s → step s = .next t → BitesSound t

/-- Every step keeps each product that a holder names loaded (R70). -/
def Obligations.StepKeepsNamedProductsLoaded : Prop :=
  ∀ s t : State, ProductsHeld s → step s = .next t → ProductsHeld t

/-! ### Host frames -/

/-- The payload of each request parses back to it, at the length its code fixes (R203): no bit of a request
is dropped. -/
def Obligations.RequestPayloadParsesBack : Prop :=
  ∀ r : Request, (∀ code reason, r ≠ .bad code reason) →
    parseRequest (requestCode r) (requestPayload r) = r ∧
    payloadLength (requestCode r) = some (requestPayload r).length

/-- The bytes of a request's frame, received one after another from any state of the assembler, do what the
request's command does (R182 to R184, R186, R201 to R203; that a command stands for its whole frame is
log entry 2). -/
def Obligations.RequestBytesAreItsCommand : Prop :=
  ∀ (c : Instr) (tag : Byte) (r : Request) (s : State), asFrame c = some ⟨tag, r⟩ →
    (∀ code reason, r ≠ .bad code reason) → Running s →
    (Host.Core.run Sys2Proof.core (requestLine tag r).length
      (s.withPending ((requestLine tag r).map fun b => .hostByteReceived b true)) =
      exec c (s.withPending []))

/-- The frame assembler by its states (R183), with the test of the fourth content byte (R184); and a complete
frame of at most 240 payload bytes whose CRC does not match is dropped and counted, and so is one with
a matching CRC that is no REQUEST, and nothing else changes (R184, R185). -/
def Obligations.AssemblerTransitions : Prop :=
  (∀ (kind tag code : Byte) (payload : List Byte) (crc : BitVec 16) (s : State),
    payload.length ≤ 240 →
    let head := [kind, tag, code, BitVec.ofNat 8 payload.length] ++ payload
    let line := 0xC3 :: (head ++ be 2 crc.toNat).flatMap escapeByte
    (crc ≠ crc16 head → assembleAll line s = s.onHost fun h =>
      { h with asm := .idle, content := [], crcDrops := min 65535 (h.crcDrops + 1) }) ∧
    (crc = crc16 head → kind ≠ 0x01 → assembleAll line s = s.onHost fun h =>
      { h with asm := .idle, content := [], formatDrops := min 65535 (h.formatDrops + 1) })) ∧
  ∀ (b : Byte) (s : State), Running s →
    (exec (.hostByteReceived 0xC3 true) s =
      .next (s.onHost fun h => { h with asm := .receiving, content := [] })) ∧
    (s.host.asm = .idle → b ≠ 0xC3 → exec (.hostByteReceived b true) s = .next s) ∧
    (s.host.asm = .idle → exec (.hostByteReceived b false) s = .next s) ∧
    (s.host.asm = .receiving → exec (.hostByteReceived 0x9D true) s =
      .next (s.onHost fun h => { h with asm := .escaped })) ∧
    (s.host.asm ≠ .idle → exec (.hostByteReceived b false) s = .next (s.onHost fun h =>
      { h with asm := .idle, content := [], formatDrops := min 65535 (h.formatDrops + 1) })) ∧
    (s.host.asm = .escaped → b ≠ 0xC3 → b ≠ 0x99 → b ≠ 0xC7 →
      exec (.hostByteReceived b true) s = .next (s.onHost fun h =>
        { h with asm := .idle, content := [], formatDrops := min 65535 (h.formatDrops + 1) })) ∧
    (s.host.asm = .receiving → b ≠ 0xC3 → b ≠ 0x9D → s.host.content.length = 3 → 240 < b.toNat →
      exec (.hostByteReceived b true) s = .next (s.onHost fun h =>
        { h with asm := .idle, content := [], formatDrops := min 65535 (h.formatDrops + 1) })) ∧
    (s.host.asm = .receiving → b ≠ 0xC3 → b ≠ 0x9D → s.host.content.length < 3 →
      exec (.hostByteReceived b true) s = .next (s.onHost fun h =>
        { h with content := h.content ++ [b] })) ∧
    (s.host.asm = .escaped → s.host.content.length < 3 →
      exec (.hostByteReceived 0x99 true) s = .next (s.onHost fun h =>
        { h with asm := .receiving, content := h.content ++ [0xC3] }) ∧
      exec (.hostByteReceived 0xC7 true) s = .next (s.onHost fun h =>
        { h with asm := .receiving, content := h.content ++ [0x9D] }))

/-! ### Requests in general -/

/-- A request's whole frame arrives: with four frames in the input queue it is dropped and counted; behind a
request in hand it waits at the tail; else it is taken at once and answered by one reply with its tag and
code (R184 test 3, R186, R188), a bad frame with its reason (R187). At the last byte of a reply to any
request but Restart the head leaves the input queue, and the next frame is taken at once and answered
(R186, R188); without a reply on the line nothing happens (log entry 3). -/
def Obligations.RequestQueuedOrAnswered : Prop :=
  (∀ s : State, Running s →
    (s.host.reply = none → exec .replySent s = .next s) ∧
    ∀ (rep : Reply) (f : Frame) (rest : List Frame), s.host.reply = some rep →
      s.host.inputQueue = f :: rest → f.request ≠ .restart →
      (rest = [] → exec .replySent s =
        .next (s.onHost fun h => { h with inputQueue := [], reply := none })) ∧
      ∀ (g : Frame) (more : List Frame), rest = g :: more →
        ∃ (t : State) (rep' : Reply), exec .replySent s = .next t ∧ t.host.inputQueue = rest ∧
          t.host.reply = some rep' ∧ rep'.tag = g.tag ∧ rep'.code = requestCode g.request) ∧
  ∀ (c : Instr) (f : Frame) (s : State), asFrame c = some f →
    (Running s → 4 ≤ s.host.inputQueue.length → exec c s = .next (s.onHost fun h =>
      { h with asm := .idle, content := [], queueDrops := min 65535 (h.queueDrops + 1) })) ∧
    (Running s → 1 ≤ s.host.inputQueue.length → s.host.inputQueue.length ≤ 3 →
      exec c s = .next (s.onHost fun h =>
        { h with asm := .idle, content := [], inputQueue := h.inputQueue ++ [f] })) ∧
    (Ready s → ∃ (t : State) (rep : Reply), exec c s = .next t ∧ t.host.inputQueue = [f] ∧
      t.host.reply = some rep ∧ rep.tag = f.tag ∧ rep.code = requestCode f.request ∧
      t.host.asm = .idle ∧ t.host.content = [] ∧ t.host.crcDrops ≤ s.host.crcDrops ∧
      ∀ code reason, f.request = .bad code reason →
        t = answered f.tag f.request .badFrameCode [reason] s)

/-- A refused request leaves the state as it found it, but for its own reply (R189). -/
def Obligations.RefusedRequestChangesNothing : Prop :=
  ∀ (c : Instr) (f : Frame) (s t : State) (rep : Reply), asFrame c = some f → Ready s →
    exec c s = .next t → t.host.reply = some rep → rep.result ≠ 0 →
    ∃ (res : ResultCode) (payload : List Byte),
      t = answered f.tag f.request res payload s

/-- Every reply fits in a payload of 240 bytes, its result byte with it (R188, R201). -/
def Obligations.EveryReplyFits : Prop :=
  ∀ (c : Instr) (f : Frame) (s t : State) (rep : Reply), asFrame c = some f → Ready s → Bounded s →
    exec c s = .next t → t.host.reply = some rep → rep.payload.length + 1 ≤ 240

/-- The read requests change nothing, but for the counts that Status and Read Nodes are asked to clear, and
are refused for a bad parameter; they answer with the read-outs whose fields ReadoutFields gives (R42,
R66, R74, R126, R179, R195). -/
def Obligations.ReadRequestsChangeNothing : Prop :=
  ∀ (tag : Byte) (s : State), Ready s →
    (exec (.status tag 0) s = .next (answered tag (.status 0) .ok
      ([BitVec.ofNat 8 (bit s.mill.configured 1), BitVec.ofNat 8 s.mill.n,
        BitVec.ofNat 8 (trackCode s.track.mode)] ++ be 2 s.track.queue.length ++
        [BitVec.ofNat 8 (bit (pendingWeldOf s).isSome 1 + bit s.trips.escalation.isSome 2 +
          bit (emergencyStanding s) 4 + bit s.host.overrun 8 + bit s.attn 16 + bit s.link.stuck 32),
         BitVec.ofNat 8 (latchedCount s), BitVec.ofNat 8 s.host.events.length,
         BitVec.ofNat 8 (highestLevel s), BitVec.ofNat 8 s.host.attention,
         BitVec.ofNat 8 (linkStateCode s.link.state)] ++
        beSat 2 s.host.crcDrops ++ beSat 2 s.host.formatDrops ++ beSat 2 s.host.queueDrops ++
        be 4 s.now.toNat) s)) ∧
    (exec (.status tag 1) s = .next (answered tag (.status 1) .ok (statusReply s)
      (s.onHost fun h => { h with crcDrops := 0, formatDrops := 0, queueDrops := 0 }))) ∧
    (∀ c : Byte, 1 < c.toNat →
      exec (.status tag c) s = .next (answered tag (.status c) .badParam [0] s) ∧
      exec (.readNodes tag c) s = .next (answered tag (.readNodes c) .badParam [0] s)) ∧
    (exec (.readNodes tag 0) s = .next (answered tag (.readNodes 0) .ok (nodesReply s) s)) ∧
    (exec (.readNodes tag 1) s = .next (answered tag (.readNodes 1) .ok (nodesReply s)
      (s.onLink fun l => { l with counters := ⟨0, 0, 0, 0, 0⟩ }))) ∧
    (nodesReply s).length = 132 ∧ (statusReply s).length = 21 ∧
    (exec (.readGauges tag) s = .next (answered tag .readGauges .ok (gaugesReply s) s) ∧
      (gaugesReply s).length = 150) ∧
    (∀ (b : Byte) (i : Stand), b.toNat = i.val + 1 →
      exec (.readStand tag b) s = .next (answered tag (.readStand b) .ok (standReadout s i) s) ∧
      (standReadout s i).length = 57) ∧
    (∀ b : Byte, (b.toNat = 0 ∨ 5 < b.toNat) →
      exec (.readStand tag b) s = .next (answered tag (.readStand b) .badParam [0] s)) ∧
    (∀ (b : Byte) (p : Product), b.toNat = p.val →
      exec (.readProduct tag 0 b) s =
        .next (answered tag (.readProduct 0 b) .ok (productEntryReply s p) s) ∧
      (productEntryReply s p).length = 66) ∧
    (∀ b : Byte, exec (.readProduct tag 1 b) s =
      .next (answered tag (.readProduct 1 b) .ok (productTableReply s) s)) ∧
    (∀ v b : Byte, (1 < v.toNat ∨ (v = 0 ∧ 15 < b.toNat)) →
      exec (.readProduct tag v b) s = .next (answered tag (.readProduct v b) .badParam [0] s)) ∧
    ∀ (f : BitVec 48) (n k : Byte),
      let top := if s.mill.configured then s.mill.n else 0
      ((8 < n.toNat ∨ top < k.toNat) → exec (.readCells tag f n k) s =
        .next (answered tag (.readCells f n k) .badParam [0] s)) ∧
      (n.toNat ≤ 8 → k.toNat ≤ top → exec (.readCells tag f n k) s =
        .next (answered tag (.readCells f n k) .ok (cellsReply s f.toNat n.toNat k.toNat) s))

/-- The fields of the read-outs, each at its offset, saturated, with the absent forms of R199 and the
codes of R200: Read Stand (R207), Read Cells with the odometer block or with the cells from a first serial
on (R42, R205), Read Trips (R206), and Read Gauges, both views of Read Product and Read Nodes (R66, R74,
R179, R208); so too the event entries of Read Events with their codes and subjects (R190, R208, R209), and
the stand demand block of Set Offset and Reset Trim (R204). An absent product index that also has a
presence bit shows 0xFF: the model's choice (log entry 27). -/
def Obligations.ReadoutFields : Prop :=
  ([trackCode .stopped, trackCode .threading, trackCode .running] = [0, 1, 2] ∧
    [gaugeModeCode .absent, gaugeModeCode .measuring, gaugeModeCode .standardizing,
      gaugeModeCode .fault] = [0, 1, 2, 3] ∧
    [phaseCode .none, phaseCode .waiting, phaseCode .placed, phaseCode .accepted,
      phaseCode .running] = [0, 1, 2, 3, 4] ∧
    [sourceCode .none, sourceCode .length, sourceCode .host] = [0, 1, 2] ∧
    [actCode .open_, actCode .travel, actCode .settle, actCode .hold, actCode .opening,
      actCode .openFailed, actCode .released] = [0, 1, 2, 3, 4, 5, 6] ∧
    [nodeStateCode .absent, nodeStateCode .present, nodeStateCode .lost] = [0, 1, 2] ∧
    [linkStateCode .free, linkStateCode .part, linkStateCode .node, linkStateCode .resetting] =
      [0, 1, 2, 3] ∧
    [classCode .fastStop, classCode .emergency] = [0, 1] ∧
    [stopRank .none, stopRank .fast, stopRank .emergency] = [0, 1, 2] ∧
    [confirmCode .idle, confirmCode .waiting, confirmCode .confirmed, confirmCode .expired] =
      [0, 1, 2, 3] ∧
    [driveCode .unknown, driveCode .running, driveCode .stopping, driveCode .stopped] =
      [0, 1, 2, 3] ∧
    (roleCode .none = 0xFF ∧ roleCode .entry = 0 ∧
      (∀ i : Stand, roleCode (.stand i) = 1 + i.val) ∧
      ∀ p : Gauge, roleCode (.gauge p) = 6 + p.val) ∧
    [eventNumber .gaugeStandardized, eventNumber .threadingDone, eventNumber .weldEntered,
      eventNumber .weldAtStand, eventNumber .standOpened, eventNumber .stopConfirmed,
      eventNumber .tripsCleared, eventNumber .nodePresent, eventNumber .gaugeStdRefused,
      eventNumber .trimRejected, eventNumber .weldIgnored, eventNumber .gaugeOverdue,
      eventNumber .coilListEmpty, eventNumber .standLimited, eventNumber .standReleased,
      eventNumber .linkReset, eventNumber .trackingPoolFull, eventNumber .gaugeFault,
      eventNumber .nodeLost, eventNumber .standOpenFailed, eventNumber .escalated] =
      [1, 2, 3, 4, 5, 6, 7, 8, 9, 10, 11, 12, 13, 14, 15, 16, 17, 18, 19, 20, 21]) ∧
  (∀ e : Event,
    let bs := eventBytes e
    bs.length = 18 ∧ Shows bs 0 1 (eventNumber e.code) ∧ Shows bs 1 1 (eventLevel e.code) ∧
    (e.subject = .none → Shows bs 2 1 0 ∧ Shows bs 3 1 0) ∧
    (∀ i : Stand, e.subject = .stand i → Shows bs 2 1 1 ∧ Shows bs 3 1 (i.val + 1)) ∧
    (∀ z : Zone, e.subject = .zone z → Shows bs 2 1 2 ∧ Shows bs 3 1 z.val) ∧
    (∀ p : Gauge, e.subject = .gauge p → Shows bs 2 1 3 ∧ Shows bs 3 1 p.val) ∧
    (∀ a : Node, e.subject = .node a → Shows bs 2 1 4 ∧ Shows bs 3 1 a.val) ∧
    Shows bs 4 6 (e.serial.getD 0) ∧ Shows bs 10 4 e.value.toNat ∧ Shows bs 14 4 e.time.toNat) ∧
  (∀ (s : State) (i : Stand),
    let bs := demandBlock s i
    let d := s.demands[i]
    bs.length = 11 ∧ ShowsInt bs 0 2 d.ff ∧ ShowsInt bs 2 2 d.trim ∧ ShowsInt bs 4 2 d.offset ∧
    ShowsInt bs 6 4 ((d.demand.map (·.value)).getD 0) ∧ flagAt bs 10 0 = d.demand.isSome ∧
    flagAt bs 10 1 = d.limited ∧ flagAt bs 10 2 = d.freeze.isSome ∧ field bs 10 1 < 8) ∧
  ∀ s : State, Bounded s → RunSound s → RanksSound s →
    (∀ i : Stand,
      let bs := standReadout s i
      let r := s.stands[i]
      let a := s.actuators[i]
      let d := s.demands[i]
      Shows bs 0 1 (i.val + 1) ∧
      (flagAt bs 1 0 = r.configured ∧ flagAt bs 1 1 = decide (r.mode = .band) ∧
        flagAt bs 1 2 = a.t.isSome ∧ flagAt bs 1 3 = a.reported.isSome ∧
        flagAt bs 1 4 = s.store.active[i].isSome ∧ flagAt bs 1 5 = d.demand.isSome ∧
        flagAt bs 1 6 = d.limited ∧ flagAt bs 1 7 = d.freeze.isSome) ∧
      (r.addr = none → field bs 2 1 = 0xFF ∧ field bs 3 1 = 0 ∧ field bs 4 1 = 0) ∧
      (∀ n : Node, r.addr = some n → Shows bs 2 1 n.val ∧
        Shows bs 3 1 (nodeStateCode s.nodes[n].state) ∧ flagAt bs 4 0 = s.nodes[n].remote ∧
        field bs 4 1 < 2) ∧
      Shows bs 5 1 (actCode a.state) ∧ ShowsInt bs 6 4 a.c ∧ ShowsInt bs 10 4 a.p ∧
      ShowsInt bs 14 4 (a.t.getD 0) ∧ ShowsInt bs 18 4 (a.reported.getD 0) ∧
      Shows bs 22 1 a.number.toNat ∧
      (a.work = none → Shows bs 23 1 0 ∧ Shows bs 24 1 0 ∧ ShowsInt bs 25 4 0 ∧ Shows bs 29 1 0) ∧
      (∀ w : Work, a.work = some w → Shows bs 24 1 w.number.toNat ∧
        (w.phase = .queued → Shows bs 29 1 0) ∧ (w.phase = .inFlight → Shows bs 29 1 1) ∧
        (w.phase = .moving → Shows bs 29 1 2) ∧
        (∀ v : Int, w.cmd = .travel v → Shows bs 23 1 1 ∧ ShowsInt bs 25 4 v) ∧
        (∀ v : Int, w.cmd = .trim v → Shows bs 23 1 2 ∧ ShowsInt bs 25 4 v) ∧
        (w.cmd = .open_ → Shows bs 23 1 3 ∧ ShowsInt bs 25 4 0)) ∧
      (∀ x ∈ [(30, a.settleT), (32, a.moveT), (34, a.openT)],
        (x.2 = none → field bs x.1 2 = 0xFFFF) ∧
        ∀ t : Timer, x.2 = some t → Shows bs x.1 2 (t.load - (s.now - t.start).toNat)) ∧
      (s.store.active[i] = none → field bs 36 1 = 0xFF) ∧
      (∀ p : Product, s.store.active[i] = some p → Shows bs 36 1 p.val) ∧
      ShowsInt bs 37 2 d.ff ∧ ShowsInt bs 39 2 d.trim ∧ ShowsInt bs 41 2 d.offset ∧
      ShowsInt bs 43 4 ((d.demand.map (·.value)).getD 0) ∧
      ShowsInt bs 47 4 ((d.demand.map (·.sum)).getD 0) ∧ Shows bs 51 6 (d.freeze.getD 0)) ∧
    (∀ first n k : Nat,
      let bs := cellsReply s first n k
      Shows bs 0 1 (trackCode s.track.mode) ∧ Shows bs 1 2 s.track.queue.length ∧
      (s.track.queue = [] → Shows bs 3 6 0 ∧ Shows bs 9 6 0) ∧
      (∀ (c : Cell) (rest : List Cell), s.track.queue = c :: rest → Shows bs 3 6 c.serial) ∧
      (∀ (c : Cell) (rest : List Cell), s.track.queue = rest ++ [c] → Shows bs 9 6 c.serial) ∧
      (n = 0 → bs.length = 83 ∧
        (∀ z : Zone, Shows bs (15 + 6 * z.val) 6 s.track.odo[z]) ∧
        (s.track.cobble = none → Shows bs 51 1 0) ∧
        (∀ i : Stand, s.track.cobble = some i → Shows bs 51 1 (i.val + 1)) ∧
        (s.track.forming = none → field bs 52 1 = 0 ∧ field bs 53 14 = 0 ∧ field bs 67 1 = 0xFF ∧
          field bs 68 12 = 0 ∧ field bs 80 1 = 0xFF ∧ field bs 81 2 = 0) ∧
        ∀ f : FormingCell, s.track.forming = some f →
          flagAt bs 52 0 = true ∧ flagAt bs 52 1 = f.headEnd ∧ flagAt bs 52 2 = f.weld ∧
          flagAt bs 52 3 = f.extended ∧ flagAt bs 52 4 = f.pendingWeld.isSome ∧
          field bs 52 1 < 32 ∧ Shows bs 53 6 f.stamp ∧
          Shows bs 59 4 (s.track.odo[(0 : Fin 6)] - f.stamp) ∧ Shows bs 63 4 f.coil.toNat ∧
          Shows bs 67 1 f.product.val ∧ Shows bs 68 2 f.count ∧
          (f.pendingWeld = none →
            field bs 70 10 = 0 ∧ field bs 80 1 = 0xFF ∧ field bs 81 2 = 0) ∧
          ∀ w : PendingWeld, f.pendingWeld = some w → Shows bs 70 6 w.stamp ∧
            Shows bs 76 4 w.coil.toNat ∧ Shows bs 80 1 w.product.val ∧ Shows bs 81 2 w.count) ∧
      (1 ≤ n → n ≤ 8 →
        let cs := (s.track.queue.filter fun c => decide (first ≤ c.serial)).take n
        let size := if k = 0 then 24 else 27
        bs.length = 16 + size * cs.length ∧ Shows bs 15 1 cs.length ∧
        ∀ (j : Nat) (c : Cell), cs[j]? = some c → c.approach ≤ 5 →
          let r := bs.drop (16 + size * j)
          Shows r 0 6 c.serial ∧ Shows r 6 4 c.coil.toNat ∧ Shows r 10 1 c.product.val ∧
          flagAt r 11 0 = c.headEnd ∧ flagAt r 11 1 = c.weld ∧ flagAt r 11 2 = c.measured.isSome ∧
          flagAt r 11 3 = c.extended ∧ field r 11 1 / 16 = c.approach ∧
          (k = 0 → Shows r 12 6 c.e0 ∧ Shows r 18 4 c.l0 ∧
            Shows r 22 2 ((c.measured.map (·.h0)).getD 0)) ∧
          ∀ i : Nat, k = i + 1 → (c.entries[i]? = none → field r 12 15 = 0) ∧
            ∀ e : StandEntry, c.entries[i]? = some e →
              flagAt r 12 0 = true ∧ flagAt r 12 1 = e.hm.isSome ∧ flagAt r 12 2 = e.hf.isSome ∧
              flagAt r 12 3 = (e.hf.map (·.saturated)).getD false ∧ flagAt r 12 4 = e.monUsed ∧
              field r 12 1 < 32 ∧ Shows r 13 6 e.stamp ∧ ShowsInt r 19 2 e.ff ∧
              Shows r 21 2 e.count ∧ Shows r 23 2 (e.hm.getD 0) ∧
              Shows r 25 2 ((e.hf.map (·.value)).getD 0))) ∧
    (∀ p : Gauge,
      let r := (gaugesReply s).drop (25 * p.val)
      let g := s.gauges[p]
      flagAt r 0 0 = g.installed ∧ flagAt r 0 1 = g.holdOff ∧ flagAt r 0 2 = g.overdue ∧
      field r 0 1 < 8 ∧ (g.addr = none → field r 1 1 = 0xFF) ∧
      (∀ a : Node, g.addr = some a → Shows r 1 1 a.val) ∧ Shows r 2 4 g.g ∧
      Shows r 6 4 g.stdLength ∧ Shows r 10 4 g.weldGuard ∧ Shows r 14 1 (gaugeModeCode g.mode) ∧
      Shows r 15 6 g.length ∧ Shows r 21 1 (phaseCode g.phase) ∧
      Shows r 22 1 (sourceCode g.source) ∧ Shows r 23 2 g.discarded) ∧
    (∀ p : Product,
      let bs := productEntryReply s p
      let e := s.store.table[p]
      let names (q : Option Product) := decide (q = some p)
      let formed := names (s.track.forming.map (·.product))
      let waits := names ((s.track.forming.bind (·.pendingWeld)).map (·.product))
      let cells := s.track.queue.countP fun c => decide (c.product = p)
      let listed := s.store.coils.countP fun c => decide (c.product = p)
      let count := cells + bit formed 1 + bit waits 1 + s.store.active.toList.countP names +
        listed + bit (names s.store.threading) 1
      let state := if e.loaded = false then 0 else if count = 0 then 1 else 2
      (Shows bs 0 1 p.val ∧ Shows bs 1 1 state ∧ Shows bs 2 2 count ∧ Shows bs 4 2 cells ∧
        flagAt bs 6 0 = formed ∧ flagAt bs 6 1 = waits ∧ flagAt bs 6 2 = names s.store.threading ∧
        field bs 6 1 < 8 ∧ (∀ i : Stand, flagAt bs 7 i.val = names s.store.active[i]) ∧
        field bs 7 1 < 32 ∧ Shows bs 8 1 listed ∧ Shows bs 9 4 e.code.toNat ∧
        Shows bs 13 1 (bit e.carryTrim 1) ∧ Shows bs 14 2 e.hRef ∧
        ∀ i : Stand, Shows bs (16 + 10 * i.val) 2 e.hExit[i] ∧
          ShowsInt bs (18 + 10 * i.val) 4 e.sSet[i] ∧ Shows bs (22 + 10 * i.val) 2 e.kFf[i] ∧
          Shows bs (24 + 10 * i.val) 2 e.kMon[i]) ∧
      (let t := productTableReply s
       Shows t (7 * p.val) 1 state ∧ Shows t (7 * p.val + 1) 2 count ∧
        Shows t (7 * p.val + 3) 4 e.code.toNat)) ∧
    (let t := productTableReply s
     let index (o : Nat) (q : Option Product) :=
      (q = none → field t o 1 = 0xFF) ∧ ∀ p : Product, q = some p → Shows t o 1 p.val
     t.length = 119 + 5 * s.store.coils.length ∧ index 112 s.store.threading ∧
      (∀ i : Stand, index (113 + i.val) s.store.active[i]) ∧ Shows t 118 1 s.store.coils.length ∧
      ∀ (j : Nat) (c : Coil), s.store.coils[j]? = some c →
        Shows t (119 + 5 * j) 4 c.id.toNat ∧ Shows t (123 + 5 * j) 1 c.product.val) ∧
    (let bs := nodesReply s
     let l := s.link
     let own (v rest : Nat) := if s.mill.configured = true then v else rest
     Shows bs 0 1 (linkStateCode l.state) ∧ flagAt bs 1 0 = l.stuck ∧ flagAt bs 1 1 = l.yield ∧
      flagAt bs 1 2 = l.lastReset.isSome ∧ field bs 1 1 < 8 ∧
      (l.lastReset = none → Shows bs 2 4 0) ∧
      (∀ t : Time, l.lastReset = some t → Shows bs 2 4 (s.now - t).toNat) ∧
      Shows bs 6 2 (own s.mill.respUs 2000) ∧ Shows bs 8 2 (own s.mill.txnLimitUs 20000) ∧
      Shows bs 10 2 (own s.mill.silenceMs 1000) ∧ Shows bs 12 1 l.ring.val ∧
      field bs 13 3 < 2 ^ 17 ∧
      (field bs 13 3).testBit 0 = stopFilled s ∧
      (∀ i : Stand, (field bs 13 3).testBit (1 + i.val) = openFilled s i ∧
        (field bs 13 3).testBit (6 + i.val) = gapFilled s i) ∧
      (∀ p : Gauge, (field bs 13 3).testBit (11 + p.val) = decide (s.gauges[p].phase = .placed)) ∧
      (l.inFlight = none → field bs 16 1 = 0xFF) ∧
      (∀ f : InFlight, l.inFlight = some f →
        (∀ lv b, f.item = .stop lv b → Shows bs 16 1 0) ∧
        (∀ i n, f.item = .gapOpen i n → Shows bs 16 1 (1 + i.val)) ∧
        (∀ i cmd n, f.item = .gap i cmd n → Shows bs 16 1 (6 + i.val)) ∧
        ∀ p, f.item = .standardize p → Shows bs 16 1 (11 + p.val)) ∧
      Shows bs 17 2 l.counters.checkErrors ∧ Shows bs 19 2 l.counters.rejected ∧
      Shows bs 21 2 l.counters.failed ∧ Shows bs 23 2 l.counters.abandoned ∧
      Shows bs 25 2 l.counters.resets ∧
      ∀ a : Node,
        let r := bs.drop (27 + 7 * a.val)
        let n := s.nodes[a]
        Shows r 0 1 (roleCode n.role) ∧ Shows r 1 1 (nodeStateCode n.state) ∧
        flagAt r 2 0 = n.remote ∧ flagAt r 2 1 = decide (n.state ≠ .absent) ∧ field r 2 1 < 4 ∧
        (n.state = .absent → Shows r 3 2 0) ∧
        (n.state ≠ .absent → Shows r 3 2 (s.now - n.lastFrame).toNat) ∧
        Shows r 5 1 n.failures ∧ Shows r 6 1 n.echo.toNat) ∧
    ∀ ks : List Source, ks.length ≤ 12 →
      let ls := latchedReply s ks
      let cs := configReply s
      ls.length = 21 + 15 * ks.length ∧ Shows ls 20 1 ks.length ∧
      (∀ (j : Nat) (k : Source), ks[j]? = some k →
        let r := ls.drop (21 + 15 * j)
        let e := s.trips.records[k]
        Shows r 0 1 k.val ∧ Shows r 1 1 (classCode e.cls) ∧ Shows r 2 1 e.affected.toNat ∧
        (e.latched = true → Shows r 3 1 e.rank) ∧ Shows r 4 4 e.time.toNat ∧ Shows r 8 1 e.count ∧
        Shows r 9 6 e.detail) ∧
      (∀ k : Source, Shows cs (20 + 2 * k.val) 1 (classCode s.trips.records[k].cls) ∧
        Shows cs (21 + 2 * k.val) 1 s.trips.records[k].affected.toNat) ∧
      ∀ bs ∈ [ls, cs],
        Shows bs 0 1 (latchedCount s) ∧ flagAt bs 1 0 = s.trips.escalation.isSome ∧
        flagAt bs 1 1 = s.mstop ∧ field bs 1 1 < 4 ∧
        (s.trips.escalation = none → Shows bs 2 1 0) ∧
        (s.trips.escalation = some .stopUnconfirmed → Shows bs 2 1 1) ∧
        (s.trips.escalation = some .openFailed → Shows bs 2 1 2) ∧
        Shows bs 3 1 (stopRank s.trips.stopWanted) ∧ Shows bs 4 1 (stopRank s.trips.stopSent) ∧
        Shows bs 5 1 (confirmCode s.trips.confirm) ∧
        (s.trips.confirmT = none → field bs 6 2 = 0xFFFF) ∧
        (∀ t : Timer, s.trips.confirmT = some t →
          Shows bs 6 2 (t.load - (s.now - t.start).toNat)) ∧
        (∀ x : Fin 8, flagAt bs 8 x.val = s.trips.pressed[x]) ∧
        Shows bs 9 1 (driveCode s.trips.driveEntry) ∧
        (∀ i : Stand, Shows bs (10 + i.val) 1 (driveCode s.trips.drive[i])) ∧
        ∀ z : Fin 5, Shows bs (15 + z.val) 1 s.trips.low[z]

/-- A raised event joins the tail of the queue; while the queue holds 48 it is discarded, the overrun flag is
set, and the entries and ATTN stay as they were (R190, R191). Each event code has its level, and ATTN of a
part that runs is high exactly while a queued event's level is at or above the attention level or a
LATCHED record is unreported (R190, R194). Read Events returns and removes the oldest entries up to its
count and clears the overrun flag, and Set Attention Level sets the level and returns the one before
(R192, R193). -/
def Obligations.EventRequestsServe : Prop :=
  ([eventLevel .gaugeStandardized] = [1] ∧
    [eventLevel .threadingDone, eventLevel .weldEntered, eventLevel .weldAtStand,
      eventLevel .standOpened, eventLevel .stopConfirmed, eventLevel .tripsCleared,
      eventLevel .nodePresent] = [2, 2, 2, 2, 2, 2, 2] ∧
    [eventLevel .gaugeStdRefused, eventLevel .trimRejected] = [3, 3] ∧
    [eventLevel .weldIgnored, eventLevel .gaugeOverdue, eventLevel .coilListEmpty,
      eventLevel .standLimited, eventLevel .standReleased, eventLevel .linkReset] =
      [4, 4, 4, 4, 4, 4] ∧
    [eventLevel .trackingPoolFull, eventLevel .gaugeFault, eventLevel .nodeLost] = [5, 5, 5] ∧
    [eventLevel .standOpenFailed, eventLevel .escalated] = [6, 6]) ∧
  (∀ s : State, s.power = .running →
    (s.attn = true ↔ (∃ e ∈ s.host.events, s.host.attention ≤ eventLevel e.code) ∨
      ∃ k : Source, s.trips.records[k].latched = true ∧ s.trips.records[k].reported = false)) ∧
  (∀ (code : EventCode) (subject : Subject) (serial : Option Nat) (value : Int) (s : State),
    (s.host.events.length < 48 → raise code subject serial value s = s.onHost fun h =>
      { h with events := h.events ++ [⟨code, subject, serial, BitVec.ofInt 32 value, s.now⟩] }) ∧
    (48 ≤ s.host.events.length →
      raise code subject serial value s = (s.onHost fun h => { h with overrun := true }) ∧
      (raise code subject serial value s).attn = s.attn)) ∧
  ∀ (tag b : Byte) (s : State), Ready s →
    (1 ≤ b.toNat → b.toNat ≤ 10 → exec (.readEvents tag b) s = .next (answered tag (.readEvents b) .ok
      ([BitVec.ofNat 8 (min b.toNat s.host.events.length),
        BitVec.ofNat 8 (s.host.events.length - min b.toNat s.host.events.length),
        BitVec.ofNat 8 (bit s.host.overrun 1)] ++
        (s.host.events.take b.toNat).flatMap eventBytes)
      (s.onHost fun h => { h with events := h.events.drop b.toNat, overrun := false }))) ∧
    ((b.toNat = 0 ∨ 10 < b.toNat) →
      exec (.readEvents tag b) s = .next (answered tag (.readEvents b) .badParam [0] s)) ∧
    (1 ≤ b.toNat → b.toNat ≤ 7 → exec (.setAttentionLevel tag b) s =
      .next (answered tag (.setAttentionLevel b) .ok [BitVec.ofNat 8 s.host.attention]
        (s.onHost fun h => { h with attention := b.toNat }))) ∧
    ((b.toNat = 0 ∨ 7 < b.toNat) → exec (.setAttentionLevel tag b) s =
      .next (answered tag (.setAttentionLevel b) .badParam [1] s))

/-! ### Configuration requests -/

/-- Configure Mill is refused with STATE unless tracking is STOPPED and every configured stand is OPEN; then
with the number of the first of the fourteen checks that fails; and accepted when none fails (R5). -/
def Obligations.ConfigureMillChecks : Prop :=
  ∀ (tag : Byte) (p : MillParams) (s : State), Ready s →
    ((s.track.mode ≠ .stopped ∨
        ∃ i : Stand, s.stands[i].configured = true ∧ s.actuators[i].state ≠ .open_) →
      exec (.configureMill tag p) s = .next (answered tag (.configureMill p) .state [] s)) ∧
    (s.track.mode = .stopped →
      (∀ i : Stand, s.stands[i].configured = true → s.actuators[i].state = .open_) →
      (∀ n : Nat, ¬ MillCheck s p n → (∀ m : Nat, m < n → MillCheck s p m) →
        exec (.configureMill tag p) s =
          .next (answered tag (.configureMill p) .badParam [BitVec.ofNat 8 n] s)) ∧
      ((∀ n : Nat, MillCheck s p n) →
        ∃ t : State, exec (.configureMill tag p) s = .next t ∧
          t.host.reply = some ⟨tag, 0x20, 0x00, []⟩))

/-- An accepted Configure Mill writes the mill record, gives the entry address its role, removes the stands
and gauges above the new N with their roles, and keeps every other unit's state (R7, R3, R4). Then each
PRESENT node silent for longer than the new SILENCE_MS becomes LOST, with its gauge ABSENT and no trip
(R16, R158, R160), in ascending address, which is the model's choice (log entry 12); and a WAITING stop
is confirmed where every counted node confirms (R135). Nothing else raises an event. -/
def Obligations.ConfigureMillEffect : Prop :=
  ∀ (tag : Byte) (p : MillParams) (s : State) (e : Node), Ready s → RolesUnique s →
    s.track.mode = .stopped →
    (∀ i : Stand, s.stands[i].configured = true → s.actuators[i].state = .open_) →
    (∀ n : Nat, MillCheck s p n) → p.entryAddr.toNat = e.val →
    let removed (r : Role) :=
      (∃ i : Stand, r = .stand i ∧ s.stands[i].configured = true ∧ p.n.toNat < i.val + 1) ∨
      ∃ g : Gauge, r = .gauge g ∧ s.gauges[g].installed = true ∧ p.n.toNat < g.val
    let kept (a : Node) := if a = e then s.nodes[a].role = .entry
      else s.nodes[a].role ≠ .entry ∧ ¬ removed s.nodes[a].role
    let silent (a : Node) := kept a ∧ s.nodes[a].state = .present ∧
      p.silenceMs.toNat < (s.now - s.nodes[a].lastFrame).toNat
    ∃ t : State, exec (.configureMill tag p) s = .next t ∧
      t.mill =
        { configured := true, n := p.n.toNat, ql := p.ql.toNat,
          dist := #v[p.d0.toNat, p.d1.toNat, if 2 < p.n.toNat then p.d2.toNat else 0,
            if 3 < p.n.toNat then p.d3.toNat else 0, if 4 < p.n.toNat then p.d4.toNat else 0, 0],
          retire := p.retire.toNat, biteAllowance := p.biteAllowance.toNat,
          breakTension0 := p.breakTension0.toNat, entryAddr := some e,
          silenceMs := p.silenceMs.toNat, stopConfirm := p.stopConfirm.toNat,
          respUs := p.respUs.toNat, txnLimitUs := p.txnLimitUs.toNat } ∧
      (t.nodes[e].role = .entry ∧ ∀ a : Node, a ≠ e → t.nodes[a].role ≠ .entry) ∧
      (s.nodes[e].role = .entry → t.trips.driveEntry = s.trips.driveEntry) ∧
      (s.nodes[e].role ≠ .entry → t.trips.driveEntry = .unknown ∧ t.nodes[e] = nodeReset .entry) ∧
      (∀ i : Stand, s.stands[i].configured = true → p.n.toNat < i.val + 1 →
        t.stands[i] = standReset ∧ t.demands[i] = demandReset ∧ t.actuators[i] = actuatorReset ∧
          ∀ a : Node, t.nodes[a].role ≠ .stand i) ∧
      (∀ i : Stand, (s.stands[i].configured = false ∨ i.val + 1 ≤ p.n.toNat) →
        t.stands[i] = s.stands[i] ∧ t.demands[i] = s.demands[i] ∧
          t.actuators[i] = s.actuators[i]) ∧
      (∀ g : Gauge, s.gauges[g].installed = true → p.n.toNat < g.val →
        t.gauges[g] = gaugeReset ∧ ∀ a : Node, t.nodes[a].role ≠ .gauge g) ∧
      (∀ g : Gauge, (s.gauges[g].installed = false ∨ g.val ≤ p.n.toNat) →
        t.gauges[g].installed = s.gauges[g].installed ∧ t.gauges[g].addr = s.gauges[g].addr ∧
          t.gauges[g].g = s.gauges[g].g ∧ t.gauges[g].stdLength = s.gauges[g].stdLength ∧
          t.gauges[g].weldGuard = s.gauges[g].weldGuard ∧
          t.gauges[g].length = s.gauges[g].length) ∧
      (∀ a : Node, (silent a → t.nodes[a] = { s.nodes[a] with state := .lost }) ∧
        (kept a → ¬ silent a → t.nodes[a] = s.nodes[a]) ∧
        (a ≠ e → ¬ kept a → t.nodes[a] = nodeReset .none)) ∧
      (∀ g : Gauge, (s.gauges[g].installed = false ∨ g.val ≤ p.n.toNat) →
        (∀ a : Node, silent a → s.nodes[a].role ≠ .gauge g) → t.gauges[g] = s.gauges[g]) ∧
      (∀ (g : Gauge) (a : Node), s.gauges[g].installed = true → silent a →
        s.nodes[a].role = .gauge g → t.gauges[g] = gaugeGone s.gauges[g]) ∧
      t.track = s.track ∧ t.store = s.store ∧ t.trips.records = s.trips.records ∧
      t.trips.escalation = s.trips.escalation ∧ t.trips.stopWanted = s.trips.stopWanted ∧
      t.trips.stopSent = s.trips.stopSent ∧ t.trips.drive = s.trips.drive ∧
      t.trips.low = s.trips.low ∧ t.trips.pressed = s.trips.pressed ∧ t.now = s.now ∧
      t.link = s.link ∧ t.power = s.power ∧ t.straps = s.straps ∧ t.rateStraps = s.rateStraps ∧
      t.pending = s.pending ∧
      let confirms (a : Node) (d : DriveState) := t.nodes[a].state = .present ∧
        (d = .stopping ∨ d = .stopped)
      let confirmed := s.trips.confirm = .waiting ∧ confirms e t.trips.driveEntry ∧
        ∀ i : Stand, t.stands[i].configured = true → i.val + 1 ≤ p.n.toNat →
          ∃ a : Node, t.nodes[a].role = .stand i ∧ confirms a t.trips.drive[i]
      (confirmed → t.trips.confirm = .confirmed ∧ t.trips.confirmT = none) ∧
      (¬ confirmed → t.trips.confirm = s.trips.confirm ∧ t.trips.confirmT = s.trips.confirmT) ∧
      (s.host.events.length ≤ 32 →
        t.host =
          { s.host with
            asm := .idle, content := [], inputQueue := [⟨tag, .configureMill p⟩],
            reply := some ⟨tag, 0x20, 0x00, []⟩, events := t.host.events } ∧
        ∃ gone : List Node, gone.Pairwise (· < ·) ∧ (∀ a : Node, a ∈ gone ↔ silent a) ∧
          let events := s.host.events ++
            gone.map fun a => ⟨.nodeLost, .node a, none, 0, s.now⟩
          (¬ confirmed → t.host.events = events) ∧
          (confirmed → ∀ tm : Timer, s.trips.confirmT = some tm → t.host.events =
            events ++ [⟨.stopConfirmed, .none, none, s.now - tm.start, s.now⟩]))

/-- Configure Stand's refusals in order, and its acceptance with the record it writes (R9, R10). -/
def Obligations.ConfigureStandChecks : Prop :=
  ∀ (tag : Byte) (p : StandParams) (s : State), Ready s →
    ((p.stand.toNat = 0 ∨ 5 < p.stand.toNat) → exec (.configureStand tag p) s =
      .next (answered tag (.configureStand p) .badParam [1] s)) ∧
    ∀ i : Stand, p.stand.toNat = i.val + 1 →
      (s.mill.configured = false → exec (.configureStand tag p) s =
        .next (answered tag (.configureStand p) .notConfigured [] s)) ∧
      (s.mill.configured = true → s.mill.n < i.val + 1 → exec (.configureStand tag p) s =
        .next (answered tag (.configureStand p) .badParam [2] s)) ∧
      (s.mill.configured = true → i.val + 1 ≤ s.mill.n →
        (s.stands[i].configured = true → s.actuators[i].state ≠ .open_ →
          s.actuators[i].state ≠ .released → exec (.configureStand tag p) s =
            .next (answered tag (.configureStand p) .state [] s)) ∧
        ((s.stands[i].configured = false ∨ s.actuators[i].state = .open_ ∨
            s.actuators[i].state = .released) →
          (∀ n : Nat, ¬ StandCheck s p i n → (∀ m : Nat, m < n → StandCheck s p i m) →
            exec (.configureStand tag p) s =
              .next (answered tag (.configureStand p) .badParam [BitVec.ofNat 8 n] s)) ∧
          ((∀ n : Nat, StandCheck s p i n) →
            ∃ (t : State) (a : Node), exec (.configureStand tag p) s = .next t ∧
              t.host.reply = some ⟨tag, 0x21, 0x00, []⟩ ∧ a.val = p.addr.toNat ∧
              t.stands[i] =
                { configured := true, addr := some a, gapMin := p.gapMin.toInt,
                  gapMax := p.gapMax.toInt, ffLimit := p.ffLimit.toNat,
                  monLimit := p.monLimit.toNat, massFlow := decide (p.massFlow = 1),
                  mode := if p.mode = 1 then .band else .direct, band := p.band.toNat,
                  maxStep := p.maxStep.toNat, settle := p.settle.toNat,
                  moveTimeout := p.moveTimeout.toNat, openTimeout := p.openTimeout.toNat,
                  lead := p.lead.toNat, biteForce := p.biteForce.toNat,
                  breakTension := p.breakTension.toNat })))

/-- An accepted Configure Stand at an OPEN or RELEASED stand gives the address its role, clamps the stand's
terms to the new limits, composes its demand where it has an active product, records a changed demand
as the target, and leaves the rest of the stand and every other stand as they were (R11, R89). The drive
state becomes UNKNOWN whenever the address does not hold the role at that moment, so also for a removed
stand configured again at its old address: the model's reading of R137 (log entry 16). -/
def Obligations.ConfigureStandEffect : Prop :=
  ∀ (tag : Byte) (p : StandParams) (s : State) (i : Stand), Ready s → RolesUnique s →
    p.stand.toNat = i.val + 1 → s.mill.configured = true → i.val + 1 ≤ s.mill.n →
    (s.actuators[i].state = .open_ ∨ s.actuators[i].state = .released) →
    (∀ n : Nat, StandCheck s p i n) →
    let ff := clampSym p.ffLimit.toNat s.demands[i].ff
    let trim := clampSym p.monLimit.toNat s.demands[i].trim
    ∃ t : State, exec (.configureStand tag p) s = .next t ∧
      (∀ a : Node, t.nodes[a].role = .stand i ↔ a.val = p.addr.toNat) ∧
      (∀ a : Node, a.val = p.addr.toNat →
        (s.nodes[a].role = .stand i → t.nodes = s.nodes ∧ t.trips.drive = s.trips.drive) ∧
        (s.nodes[a].role ≠ .stand i →
          t.nodes[a] = nodeReset (.stand i) ∧ t.trips.drive[i] = .unknown)) ∧
      (s.store.active[i] = none → t.demands[i] =
        { s.demands[i] with ff := ff, trim := trim, demand := none, limited := false }) ∧
      (∀ q : Product, s.store.active[i] = some q →
        let sum := s.store.table[q].sSet[i] + ff + trim + s.demands[i].offset
        t.demands[i] = { s.demands[i] with
          ff := ff
          trim := trim
          demand := some ⟨clampTo p.gapMin.toInt p.gapMax.toInt sum, sum⟩
          limited := decide (sum < p.gapMin.toInt ∨ p.gapMax.toInt < sum) }) ∧
      t.actuators[i] = { s.actuators[i] with
        t := if t.demands[i].demand.map (·.value) = s.demands[i].demand.map (·.value)
          then s.actuators[i].t else t.demands[i].demand.map (·.value) } ∧
      (∀ j : Stand, j ≠ i → t.stands[j] = s.stands[j] ∧ t.demands[j] = s.demands[j] ∧
        t.actuators[j] = s.actuators[j]) ∧
      t.mill = s.mill ∧ t.track = s.track ∧ t.gauges = s.gauges ∧ t.store = s.store ∧
      t.trips.records = s.trips.records ∧ t.link = s.link ∧
      (s.trips.confirm ≠ .waiting → s.host.events.length < 48 →
        t.host.events = s.host.events ++
          (if t.demands[i].limited = true ∧ s.demands[i].limited = false then
            [⟨.standLimited, .stand i, none,
              BitVec.ofInt 32 ((t.demands[i].demand.map (·.sum)).getD 0), s.now⟩] else []))

/-- Configure Gauge: its refusals in order, its removal and its installation (R13 to R15). -/
def Obligations.ConfigureGaugeRequest : Prop :=
  ∀ (tag : Byte) (p : GaugeParams) (s : State), Ready s → RolesUnique s →
    (5 < p.position.toNat → exec (.configureGauge tag p) s =
      .next (answered tag (.configureGauge p) .badParam [1] s)) ∧
    ∀ z : Gauge, p.position.toNat = z.val →
      (s.mill.configured = false → exec (.configureGauge tag p) s =
        .next (answered tag (.configureGauge p) .notConfigured [] s)) ∧
      (s.mill.configured = true →
        (s.mill.n < z.val → exec (.configureGauge tag p) s =
          .next (answered tag (.configureGauge p) .badParam [2] s)) ∧
        (z.val ≤ s.mill.n → s.track.mode ≠ .stopped → exec (.configureGauge tag p) s =
          .next (answered tag (.configureGauge p) .state [] s)) ∧
        (z.val ≤ s.mill.n → s.track.mode = .stopped →
          (p.action ≠ 1 → p.action ≠ 2 → exec (.configureGauge tag p) s =
            .next (answered tag (.configureGauge p) .badParam [3] s)) ∧
          (p.action = 2 → s.gauges[z].installed = false → exec (.configureGauge tag p) s =
            .next (answered tag (.configureGauge p) .ok [] s)) ∧
          (p.action = 2 → s.gauges[z].installed = true →
            ∃ t : State, exec (.configureGauge tag p) s =
                .next (answered tag (.configureGauge p) .ok [] t) ∧
              t = { s with nodes := t.nodes, gauges := s.gauges.set z.val gaugeReset } ∧
              (∀ a : Node, t.nodes[a] =
                if s.nodes[a].role = .gauge z then nodeReset .none else s.nodes[a])) ∧
          (p.action = 1 →
            (∀ n : Nat, ¬ GaugeCheck s p z n → (∀ m : Nat, m < n → GaugeCheck s p z m) →
              exec (.configureGauge tag p) s =
                .next (answered tag (.configureGauge p) .badParam [BitVec.ofNat 8 n] s)) ∧
            ((∀ n : Nat, GaugeCheck s p z n) → ∀ a : Node, a.val = p.addr.toNat →
              ∃ t : State, exec (.configureGauge tag p) s =
                  .next (answered tag (.configureGauge p) .ok [] t) ∧
                t = { s with
                  nodes := t.nodes
                  gauges := s.gauges.set z.val
                    { installed := true, addr := some a, g := if z.val = 0 then 0 else p.g.toNat,
                      stdLength := p.stdLength.toNat, weldGuard := p.weldGuard.toNat,
                      mode := .absent, length := 0, phase := .none, source := .none,
                      holdOff := false, overdue := false, discarded := 0, inFlight := false } } ∧
                ∀ b : Node, t.nodes[b] =
                  if s.nodes[b].role = .gauge z then
                    (if b = a then s.nodes[b] else nodeReset .none)
                  else if b = a then nodeReset (.gauge z) else s.nodes[b]))))

/-! ### Tracking -/

/-- Start Tracking: its refusals in order, and what an accepted one opens (R40, R21, R80, R81, R100, R50). -/
def Obligations.StartTrackingOpensRun : Prop :=
  ∀ (tag b : Byte) (coil : BitVec 32) (s : State), Ready s →
    (s.mill.configured = false → exec (.startTracking tag b coil) s =
      .next (answered tag (.startTracking b coil) .notConfigured [] s)) ∧
    (s.mill.configured = true → s.track.mode ≠ .stopped → exec (.startTracking tag b coil) s =
      .next (answered tag (.startTracking b coil) .state [] s)) ∧
    (s.mill.configured = true → s.track.mode = .stopped →
      (15 < b.toNat → exec (.startTracking tag b coil) s =
        .next (answered tag (.startTracking b coil) .badParam [0] s)) ∧
      ∀ p : Product, b.toNat = p.val →
        (s.store.table[p].loaded = false → exec (.startTracking tag b coil) s =
          .next (answered tag (.startTracking b coil) .badProduct [] s)) ∧
        (s.store.table[p].loaded = true → RunSound s →
          ∃ t : State, exec (.startTracking tag b coil) s = .next t ∧
            t.host.reply = some ⟨tag, 0x30, 0x00, []⟩ ∧
            t.track =
              { mode := .threading, odo := Vector.replicate 6 0,
                forming := some
                  { stamp := 0, coil := coil, product := p, headEnd := true, weld := false,
                    extended := false, sum := 0, count := 0, pendingWeld := none },
                queue := [], nextSerial := 1, cobble := none, poolFull := false } ∧
            t.store.threading = some p ∧ t.store.coils = s.store.coils ∧
            t.store.table = s.store.table ∧
            (∀ i : Stand, t.store.active[i] = if i.val + 1 ≤ s.mill.n then some p else none) ∧
            (∀ i : Stand, t.demands[i].ff = 0 ∧ t.demands[i].trim = 0 ∧
              t.demands[i].freeze = none ∧ t.demands[i].offset = s.demands[i].offset ∧
              let sum := s.store.table[p].sSet[i] + s.demands[i].offset
              t.demands[i].demand =
                if s.stands[i].configured = true ∧ i.val + 1 ≤ s.mill.n then
                  some ⟨clampTo s.stands[i].gapMin s.stands[i].gapMax sum, sum⟩ else none) ∧
            (∀ i : Stand, s.actuators[i].state ≠ .travel → s.actuators[i].state ≠ .hold →
              t.actuators[i] = { s.actuators[i] with t := t.actuators[i].t } ∧
              ∀ d : DemandValue, s.demands[i].demand = none → t.demands[i].demand = some d →
                t.actuators[i].t = some d.value) ∧
            (∀ g : Gauge, t.gauges[g].discarded = 0 ∧ t.gauges[g].length = s.gauges[g].length ∧
              t.gauges[g].mode = s.gauges[g].mode) ∧
            t.mill = s.mill ∧ t.stands = s.stands ∧ t.trips = s.trips ∧ t.nodes = s.nodes))

/-- Stop Tracking: refused while a configured stand is engaged, nothing while STOPPED, else the run is
discarded, each demand ends, and the odometers, serial, cobble record, terms and coil list are kept
(R41, R100). -/
def Obligations.StopTrackingEndsRun : Prop :=
  ∀ (tag : Byte) (s : State), Ready s →
    let busy := ∃ i : Stand, s.stands[i].configured = true ∧
      (s.actuators[i].state = .hold ∨ s.actuators[i].state = .travel ∨
        s.actuators[i].state = .settle)
    (busy → exec (.stopTracking tag) s = .next (answered tag .stopTracking .state [] s)) ∧
    (¬ busy → s.track.mode = .stopped →
      exec (.stopTracking tag) s = .next (answered tag .stopTracking .ok [] s)) ∧
    (¬ busy → s.track.mode ≠ .stopped →
      ∃ t : State, exec (.stopTracking tag) s = .next t ∧
        t.host.reply = some ⟨tag, 0x31, 0x00, []⟩ ∧
        t.track = { s.track with
          mode := .stopped, queue := [], forming := none, poolFull := false } ∧
        t.store = { s.store with threading := none, active := Vector.replicate 5 none } ∧
        (∀ i : Stand, t.demands[i] =
          { s.demands[i] with demand := none, limited := false, freeze := none }) ∧
        (∀ i : Stand, s.actuators[i].state ≠ .hold → s.actuators[i].state ≠ .travel →
          t.actuators[i] = { s.actuators[i] with
            t := if s.demands[i].demand.isSome then none else s.actuators[i].t }) ∧
        (∀ g : Gauge, t.gauges[g].length = s.gauges[g].length ∧
          t.gauges[g].mode = s.gauges[g].mode) ∧
        t.mill = s.mill ∧ t.stands = s.stands ∧ t.trips = s.trips ∧ t.nodes = s.nodes ∧
        t.link = s.link ∧ t.host.events = s.host.events)

/-- A valid report is answered ACCEPT and refreshes its node's entry; while tracking is not STOPPED a stand
report advances only its own zone's odometer and an entry report only zone 0's, saturating, and while
STOPPED neither; the drive state and the reported position are taken in every tracking state (R18, R157,
R137, R170 to R172, R106). A stand report goes to the Tracking Unit, its force as a confirmation before
its length (R20), then to the Trip Controller and the sequencer (R171); an entry report's weld flag is
taken as a weld after its length (R20, R172): the units' shares are those of AdvanceClosesAndRetires,
BiteIsHandedOn, WeldTakesNextCoil and ReportIndicationsAct. -/
def Obligations.ReportsReachTheirUnits : Prop :=
  ∀ (s : State) (a : Node), Running s → s.link.inFlight = none → Receiving s a →
    let grown (z : Zone) (n : Nat) := if s.track.mode = .stopped then s.track.odo
      else s.track.odo.set z.val (min (2 ^ 48 - 1) (s.track.odo[z] + n))
    (∀ (i : Stand) (r : StandReport), s.nodes[a].role = .stand i →
      ∃ t : State, exec (.standReport r) s = .next t ∧
        t = takeReport i r (protectStand i r (advance i.succ r.increment.toNat
          (confirmHead i r.force.toNat ((entered a s).onNode a fun n =>
            { n with remote := !r.flags.getLsbD 2, echo := r.echo })))) ∧
        t.link.answer = some .accept ∧
        t.link.sender = none ∧ t.link.state = .node ∧
        t.track.odo = grown i.succ r.increment.toNat ∧
        t.trips.drive[i] = (if r.drive = 2 then .stopping else if r.drive = 3 then .stopped
          else .running) ∧
        t.trips.driveEntry = s.trips.driveEntry ∧
        t.actuators[i].reported = some r.position.toInt ∧
        (∀ j : Stand, j ≠ i → t.actuators[j].reported = s.actuators[j].reported ∧
          t.trips.drive[j] = s.trips.drive[j]) ∧
        t.nodes = s.nodes.set a.val
          { role := .stand i, state := .present, remote := !r.flags.getLsbD 2, lastFrame := s.now,
            failures := 0, echo := r.echo } ∧
        t.mill = s.mill ∧ t.stands = s.stands ∧ t.now = s.now) ∧
    (∀ r : EntryReport, s.nodes[a].role = .entry →
      ∃ t : State, exec (.entryReport r) s = .next t ∧
        t = protectEntry r (let u := advance 0 r.increment.toNat (entered a s)
          if r.flags.getLsbD 0 then takeWeld u else u) ∧
        t.link.answer = some .accept ∧
        t.link.sender = none ∧ t.link.state = .node ∧
        t.track.odo = grown 0 r.increment.toNat ∧
        t.trips.driveEntry = (if r.drive = 2 then .stopping else if r.drive = 3 then .stopped
          else .running) ∧
        t.trips.drive = s.trips.drive ∧
        (∀ j : Stand, t.actuators[j].reported = s.actuators[j].reported) ∧
        t.nodes = s.nodes.set a.val { s.nodes[a] with
          state := .present, lastFrame := s.now, failures := 0 } ∧
        t.mill = s.mill ∧ t.stands = s.stands ∧ t.now = s.now) ∧
    ∀ (p : Gauge) (r : GaugeSample), s.nodes[a].role = .gauge p →
      ∃ t : State, exec (.gaugeSample r) s = .next t ∧ t = takeSample p r (entered a s) ∧
        t.link.answer = some .accept ∧
        t.link.sender = none ∧ t.link.state = .node ∧
        t.gauges[p].mode = (if r.status = 1 then .measuring else if r.status = 2 then .standardizing
          else .fault) ∧
        (∀ q : Gauge, q ≠ p → t.gauges[q] = s.gauges[q]) ∧
        t.nodes = s.nodes.set a.val { s.nodes[a] with
          state := .present, lastFrame := s.now, failures := 0 } ∧
        t.track.odo = s.track.odo ∧ t.store = s.store ∧ t.demands = s.demands ∧
        t.actuators = s.actuators ∧ t.trips = s.trips

/-- A MEASURING sample of a measuring gauge that wants no standardisation changes one accumulator: the
forming cell's, its pending weld's, or that of the newest cell past the gauge; past the cap or without
such a cell only the discarded count rises, and while STOPPED nothing is attributed (R47 to R50). -/
def Obligations.SampleGoesToItsCell : Prop :=
  ∀ (s : State) (a : Node) (p : Gauge) (h : BitVec 16), Running s → s.link.inFlight = none →
    Receiving s a → s.nodes[a].role = .gauge p → s.nodes[a].state = .present →
    s.gauges[p].mode = .measuring → s.gauges[p].phase = .none → s.gauges[p].holdOff = false →
    s.gauges[p].inFlight = false → RunSound s →
    let discarded := exec (.gaugeSample ⟨1, h⟩) s = .next ((heard a s).onGauge p fun r =>
      { r with discarded := min 65535 (r.discarded + 1) })
    (s.track.mode = .stopped → exec (.gaugeSample ⟨1, h⟩) s = .next (heard a s)) ∧
    (s.track.mode ≠ .stopped →
      (p = 0 → ∀ f : FormingCell, s.track.forming = some f →
        (f.pendingWeld = none →
          (f.count < 65535 → exec (.gaugeSample ⟨1, h⟩) s = .next ((heard a s).onTrack fun t =>
            { t with forming := some { f with sum := f.sum + h.toNat, count := f.count + 1 } })) ∧
          (65535 ≤ f.count → discarded)) ∧
        ∀ w : PendingWeld, f.pendingWeld = some w →
          (w.count < 65535 → exec (.gaugeSample ⟨1, h⟩) s = .next ((heard a s).onTrack fun t =>
            { t with forming := some { f with
                pendingWeld := some { w with sum := w.sum + h.toNat, count := w.count + 1 } } })) ∧
          (65535 ≤ w.count → discarded)) ∧
      ∀ i : Stand, p = i.succ →
        let past (c : Cell) : Prop := ∃ n : StandEntry, c.entries[i.val]? = some n ∧
          s.gauges[p].g ≤ s.track.odo[p] - n.stamp
        ((∀ c ∈ s.track.queue, ¬ past c) → discarded) ∧
        ∀ (older newer : List Cell) (c : Cell) (n : StandEntry),
          s.track.queue = older ++ c :: newer → past c → (∀ y ∈ newer, ¬ past y) →
          c.entries[i.val]? = some n →
          (n.count < 65535 → exec (.gaugeSample ⟨1, h⟩) s = .next ((heard a s).onTrack fun t =>
            { t with queue := older ++
              { c with
                entries := c.entries.set i.val
                  { n with sum := n.sum + h.toNat, count := n.count + 1 } } :: newer })) ∧
          (65535 ≤ n.count → discarded))

/-- A weld indication by the five cases of R23, with the closure of R22, the pending weld of R24 and the
coil that the Product Store gives (R78, R79). A weld cell so closed is not signalled to stand 1 here
(log entry 26, the model's choice): the monitors stay as they were. -/
def Obligations.WeldTakesNextCoil : Prop :=
  ∀ (s : State) (f : FormingCell),
    let odo := s.track.odo[(0 : Fin 6)]
    let coil : Coil := match s.store.coils with
      | c :: _ => c
      | [] => ⟨0, f.product⟩
    let noticed : State := match s.store.coils with
      | c :: _ => raise .weldEntered (.zone 0) none c.id.toNat s
      | [] => raise .weldEntered (.zone 0) none 0
          (raise .coilListEmpty (.zone 0) none f.product.val s)
    let taken (t : Track) := (takeWeld s).track = t ∧
      (takeWeld s).store = { s.store with coils := s.store.coils.drop 1 } ∧
      (takeWeld s).host = noticed.host ∧ (takeWeld s).trips = s.trips ∧
      (takeWeld s).demands = s.demands ∧ (takeWeld s).actuators = s.actuators
    (s.track.mode = .stopped → takeWeld s = s) ∧
    (s.track.mode ≠ .stopped → s.track.forming = some f →
      (∀ w : PendingWeld, f.pendingWeld = some w → takeWeld s =
        raise .weldIgnored (.zone 0) none ((min (odo - w.stamp) 4294967295 : Nat) : Int) s) ∧
      (f.pendingWeld = none →
        (odo - f.stamp = 0 → taken { s.track with
          forming := some { f with weld := true, coil := coil.id, product := coil.product } }) ∧
        (0 < odo - f.stamp → s.track.queue.length < 256 → taken { s.track with
          queue := s.track.queue ++ [
            { serial := s.track.nextSerial, coil := f.coil, product := f.product,
              headEnd := f.headEnd, weld := f.weld,
              measured := if f.count = 0 then none else
                some ⟨roundHalfUp f.sum f.count, roundHalfUp f.sum f.count * (odo - f.stamp)⟩,
              extended := f.extended, e0 := f.stamp, l0 := odo - f.stamp, approach := 0,
              entries := [] }]
          nextSerial := s.track.nextSerial + 1
          forming := some
            { stamp := odo, coil := coil.id, product := coil.product, headEnd := false,
              weld := true, extended := false, sum := 0, count := 0, pendingWeld := none }
          poolFull := false }) ∧
        (0 < odo - f.stamp → 256 ≤ s.track.queue.length → taken { s.track with
          forming := some { f with
            pendingWeld := some ⟨odo, coil.id, coil.product, 0, 0⟩ } })))

/-- An advance of an odometer is nothing while STOPPED, and else takes the steps of R19 in order, then the
gauge's length (R56, R57) and the standardisation tests (R61). The forming cell closes at Q_L with a
record free, or is flagged extended with one TRACKING_POOL_FULL an episode (R21, R22, R25); a freed
record splits it at a pending weld or closes it, with steps 2 and 4 of zone 0 at once (R25); and the
oldest of two cells is retired while the second lies R_N into zone N (R39). -/
def Obligations.AdvanceClosesAndRetires : Prop :=
  (∀ (z : Zone) (d : Nat) (s : State), s.track.mode = .stopped → advance z d s = s) ∧
  (∀ (z : Zone) (d : Nat) (s : State), s.track.mode ≠ .stopped → 1 ≤ s.mill.n →
    let after := min (2 ^ 48 - 1) (s.track.odo[z] + d)
    let u := s.onTrack fun t => { t with odo := t.odo.set z.val after }
    let finished (v : State) := testsAfter z (growLength z (after - s.track.odo[z]) v)
    let passed (i : Stand) (v : State) :=
      if v.gauges[z].installed then passageStep i s.track.odo[z] v else v
    (z.val = 0 → advance z d s = finished (approachStep 0 (biteStep 0 (closeStep u)))) ∧
    (∀ i j : Stand, z = i.succ → j.val = z.val → z.val < s.mill.n →
      advance z d s = finished (approachStep j (passed i (biteStep j u)))) ∧
    (∀ i : Stand, z = i.succ → z.val = s.mill.n → advance z d s =
      finished (retireLoop z (passed i u).track.queue.length (passed i u)))) ∧
  (∀ (s : State) (f : FormingCell), s.track.forming = some f →
    let odo := s.track.odo[(0 : Fin 6)]
    let closed (l0 : Nat) (new : FormingCell) := s.onTrack fun t => { t with
      queue := t.queue ++ [
        { serial := t.nextSerial, coil := f.coil, product := f.product, headEnd := f.headEnd,
          weld := f.weld,
          measured := if f.count = 0 then none else
            some ⟨roundHalfUp f.sum f.count, roundHalfUp f.sum f.count * l0⟩,
          extended := f.extended, e0 := f.stamp, l0 := l0, approach := 0, entries := [] }]
      nextSerial := t.nextSerial + 1
      forming := some new
      poolFull := false }
    let next : FormingCell :=
      { stamp := odo, coil := f.coil, product := f.product, headEnd := false, weld := false,
        extended := false, sum := 0, count := 0, pendingWeld := none }
    let extended := s.onTrack fun t => { t with forming := some { f with extended := true } }
    (odo - f.stamp < s.mill.ql → closeStep s = s) ∧
    (s.mill.ql ≤ odo - f.stamp → s.track.queue.length < 256 →
      closeStep s = closed (odo - f.stamp) next) ∧
    (s.mill.ql ≤ odo - f.stamp → 256 ≤ s.track.queue.length → s.track.poolFull = true →
      closeStep s = extended) ∧
    (s.mill.ql ≤ odo - f.stamp → 256 ≤ s.track.queue.length → s.track.poolFull = false →
      closeStep s = raise .trackingPoolFull (.zone 0) none
        ((min (odo - f.stamp) 4294967295 : Nat) : Int)
        (extended.onTrack fun t => { t with poolFull := true })) ∧
    (∀ w : PendingWeld, f.pendingWeld = some w → offerRecord s =
      approachStep 0 (biteStep 0 (closed (w.stamp - f.stamp)
        { stamp := w.stamp, coil := w.coil, product := w.product, headEnd := false, weld := true,
          extended := false, sum := w.sum, count := w.count, pendingWeld := none }))) ∧
    (f.pendingWeld = none → s.mill.ql ≤ odo - f.stamp →
      offerRecord s = approachStep 0 (biteStep 0 (closed (odo - f.stamp) next))) ∧
    (f.pendingWeld = none → odo - f.stamp < s.mill.ql → offerRecord s = s)) ∧
  ∀ (z : Zone) (s : State), 2 ≤ z.val →
    let far (u : State) (y : Cell) := ∃ n, y.entries[z.val - 1]? = some n ∧
      u.mill.retire ≤ u.track.odo[z] - n.stamp
    let t := retireLoop z s.track.queue.length s
    (RunSound s → ∀ (x y : Cell) (rest : List Cell), t.track.queue = x :: y :: rest → ¬ far t y) ∧
    ((∀ (x y : Cell) (rest : List Cell), s.track.queue = x :: y :: rest → ¬ far s y) → t = s) ∧
    ∀ (x y : Cell) (rest : List Cell), s.track.queue = x :: y :: rest → far s y →
      ∀ k : Nat, retireLoop z (k + 1) s =
        retireLoop z k (offerRecord (s.onTrack fun u => { u with queue := y :: rest }))

/-- A bite adds the stand's entry with the present ODO[i] and is handed on in the order of R31: the weld
approach not yet signalled, the product and its switch, the feedforward term, the older neighbour's
mass-flow thickness and its monitor, and THREADING_DONE at stand N (R30, R34, R54, R82, R93, R97 to
R99). Cells bite oldest first at D_k, but not the head end while THREADING (R30), which bites at a
confirmation in its window (R33), or meets COBBLE beyond it (R35). -/
def Obligations.BiteIsHandedOn : Prop :=
  (∀ (i : Stand) (s : State) (older newer : List Cell) (y : Cell), RunSound s →
    s.track.queue = older ++ y :: newer → y.entries.length = i.val →
    let t := bite i y s
    let stamp := s.track.odo[i.succ]
    let signalled := y.weld = true ∧ y.approach < i.val + 1
    let frozen : Option Nat := if signalled then none else match s.demands[i].freeze with
      | none => none
      | some n => if y.weld = true ∧ n ≤ y.serial then none else some n
    let carried := if s.store.active[i] = some y.product ∨
        s.store.table[y.product].carryTrim = true then s.demands[i].trim else 0
    let monitors (x : Cell) (m : MassFlow) := s.gauges[i.succ].installed = false ∧
      s.stands[i].massFlow = true ∧ m.saturated = false ∧ s.stands[i].configured = true ∧
      frozen = none ∧ x.product = y.product
    (older = [] → t.demands[i].trim = carried) ∧
    (∃ head : List Cell, head.length = older.length ∧
      t.track.queue = head ++
        { y with
          approach := if signalled then i.val + 1 else y.approach
          entries := y.entries ++ [⟨stamp, feedforward s i y, 0, 0, none, none, false⟩] } ::
          newer ∧
      ∀ (es : List Cell) (x : Cell), older = es ++ [x] → ∃ x' : Cell, head = es ++ [x'] ∧
        (x.entries[i.val]? = none → x' = x ∧ t.demands[i].trim = carried) ∧
        ∀ n : StandEntry, x.entries[i.val]? = some n →
          (massFlowOf x (stamp - n.stamp) = none → x' = x ∧ t.demands[i].trim = carried) ∧
          ∀ m : MassFlow, massFlowOf x (stamp - n.stamp) = some m →
            (monitors x m →
              x' = { x with
                entries := x.entries.set i.val { n with hf := some m, monUsed := true } } ∧
              t.demands[i].trim = clampSym s.stands[i].monLimit (carried -
                scaleQ12 (((m.value : Int) - s.store.table[y.product].hExit[i]) *
                  s.store.table[y.product].kMon[i]))) ∧
            (¬ monitors x m →
              x' = { x with entries := x.entries.set i.val { n with hf := some m } } ∧
              t.demands[i].trim = carried)) ∧
    t.store = { s.store with active := s.store.active.set i.val (some y.product) } ∧
    t.demands[i].ff = feedforward s i y ∧ t.demands[i].offset = s.demands[i].offset ∧
    t.demands[i].freeze = frozen ∧
    t.demands[i].demand = (if s.stands[i].configured = true then
      let sum := s.store.table[y.product].sSet[i] + t.demands[i].ff + t.demands[i].trim +
        t.demands[i].offset
      some ⟨clampTo s.stands[i].gapMin s.stands[i].gapMax sum, sum⟩ else none) ∧
    (let threaded := s.track.mode = .threading ∧ y.headEnd = true ∧ i.val + 1 = s.mill.n
     t.track.mode = (if threaded then .running else s.track.mode) ∧
      (s.host.events.length ≤ 43 →
        (s.store.active[i] ≠ some y.product → ⟨.weldAtStand, .stand i, some y.serial,
          BitVec.ofNat 32 y.product.val, s.now⟩ ∈ t.host.events) ∧
        (threaded → t.host.events.getLast? = some ⟨.threadingDone, .stand i, some y.serial,
          BitVec.ofNat 32 s.track.queue.length, s.now⟩))) ∧
    (∀ j : Stand, j ≠ i → t.demands[j] = s.demands[j] ∧ t.actuators[j] = s.actuators[j]) ∧
    t.track.odo = s.track.odo ∧ t.track.forming = s.track.forming ∧
    t.track.nextSerial = s.track.nextSerial ∧ t.track.cobble = s.track.cobble ∧
    t.gauges = s.gauges ∧ t.trips = s.trips) ∧
  (∀ (i : Stand) (s : State), RunSound s →
    let z : Zone := zoneBefore i
    let t := biteLoop i s.track.queue.length s
    let first (u : State) (y : Cell) := ∃ older newer : List Cell,
      u.track.queue = older ++ y :: newer ∧ y.entries.length = i.val ∧
      ∀ c ∈ older, c.entries.length ≠ i.val
    let stays (u : State) (y : Cell) := (y.headEnd = true ∧ u.track.mode = .threading) ∨
      ∃ e, stampOf y i.val = some e ∧ u.track.odo[z] - e < u.mill.dist[z]
    (∀ y : Cell, first t y → stays t y) ∧
    ((∀ y : Cell, first s y → stays s y) → t = s) ∧
    ∀ y : Cell, first s y → ¬ stays s y →
      ∀ k : Nat, biteLoop i (k + 1) s = biteLoop i k (bite i y s)) ∧
  (∀ (i : Stand) (s : State) (force : Nat) (older newer : List Cell) (y : Cell) (e : Nat),
    s.track.queue = older ++ y :: newer → y.headEnd = true → (∀ c ∈ older, c.headEnd = false) →
    let z : Zone := zoneBefore i
    let inWindow := s.track.mode = .threading ∧ s.stands[i].biteForce ≤ force ∧
      y.entries.length = i.val ∧
      s.mill.dist[z] ≤ s.track.odo[z] - e + s.mill.biteAllowance ∧ s.track.cobble ≠ some i
    let beyond := s.track.mode = .threading ∧ y.entries.length = i.val ∧ s.track.cobble = none ∧
      s.mill.dist[z] + s.mill.biteAllowance < s.track.odo[z] - e
    stampOf y i.val = some e →
      (inWindow → confirmHead i force s = bite i y s) ∧
      (¬ inWindow → confirmHead i force s = s) ∧
      (beyond → cobbleCheck i s = raiseTrip (.cobble i) y.serial
        (s.onTrack fun t => { t with cobble := some i })) ∧
      (¬ beyond → cobbleCheck i s = s)) ∧
  ∀ (i : Stand) (s : State) (force : Nat),
    biteStep i s = cobbleCheck i (biteLoop i s.track.queue.length s) ∧
    ((∀ c ∈ s.track.queue, c.headEnd = false) → confirmHead i force s = s ∧ cobbleCheck i s = s)

/-- The passages of an advance finalise the older neighbour of each cell that crossed the gauge, with the
mean of its samples, which the monitor uses unless it is passed over (R36, R52, R95, R96); and weld
approach is signalled to each weld cell whose remaining distance is at most LEAD, which freezes the
monitor for the newest of them (R38, R97). -/
def Obligations.PassageAndApproach : Prop :=
  (∀ (i : Stand) (before : Nat) (s : State), RunSound s → s.gauges[i.succ].installed = true →
    let g := s.gauges[i.succ].g
    let crossed (c : Cell) := ∃ n, c.entries[i.val]? = some n ∧ before - n.stamp < g ∧
      g ≤ s.track.odo[i.succ] - n.stamp
    let t := passageStep i before s
    let follows (k : Nat) := ∃ y, s.track.queue[k + 1]? = some y ∧ crossed y
    let used (c : Cell) := s.stands[i].configured = true ∧ s.demands[i].freeze = none ∧
      s.store.active[i] = some c.product
    t.track.queue.length = s.track.queue.length ∧
    (∀ (k : Nat) (c d : Cell), s.track.queue[k]? = some c → t.track.queue[k]? = some d →
      (¬ follows k → d = c) ∧ (c.entries[i.val]? = none → d = c) ∧
      ∀ n : StandEntry, follows k → c.entries[i.val]? = some n →
        (n.count = 0 → d = c) ∧
        (1 ≤ n.count → used c → d =
          { c with
            entries := c.entries.set i.val
              { n with hm := some (roundHalfUp n.sum n.count), monUsed := true } }) ∧
        (1 ≤ n.count → ¬ used c → d =
          { c with
            entries := c.entries.set i.val
              { n with hm := some (roundHalfUp n.sum n.count) } })) ∧
    ((∀ k, ¬ follows k) → t = s) ∧
    (∀ (older newer : List Cell) (x y : Cell) (n : StandEntry),
      s.track.queue = older ++ x :: y :: newer → crossed y →
      (∀ c ∈ older ++ x :: newer, ¬ crossed c) → x.entries[i.val]? = some n → 1 ≤ n.count →
      t.demands = (monitorUpdate i x (roundHalfUp n.sum n.count) s).demands) ∧
    (∀ j : Stand, j ≠ i → t.demands[j] = s.demands[j] ∧ t.actuators[j] = s.actuators[j]) ∧
    t.demands[i].ff = s.demands[i].ff ∧ t.demands[i].freeze = s.demands[i].freeze ∧
    t.track.odo = s.track.odo ∧ t.track.forming = s.track.forming ∧ t.store = s.store ∧
    t.gauges = s.gauges ∧ t.trips = s.trips) ∧
  ∀ (i : Stand) (s : State), RunSound s →
    let z : Zone := zoneBefore i
    let near (c : Cell) := c.weld = true ∧ c.entries.length = i.val ∧ c.approach < i.val + 1 ∧
      ∃ e, stampOf c i.val = some e ∧
        s.mill.dist[z] - (s.track.odo[z] - e) ≤ s.stands[i].lead
    let t := approachStep i s
    t.track.queue.length = s.track.queue.length ∧
    (∀ (k : Nat) (c : Cell), s.track.queue[k]? = some c →
      (near c → t.track.queue[k]? = some { c with approach := i.val + 1 }) ∧
      (¬ near c → t.track.queue[k]? = some c)) ∧
    ((∀ c ∈ s.track.queue, ¬ near c) → t = s) ∧
    (∀ (older newer : List Cell) (y : Cell), s.track.queue = older ++ y :: newer → near y →
      (∀ c ∈ newer, ¬ near c) →
      t = { s with
        track := { s.track with queue := t.track.queue }
        demands := s.demands.set i.val { s.demands[i] with freeze := some y.serial } })

/-- The length since standardisation grows with the strip, and at STD_LENGTH wants a standardisation and at
twice it raises GAUGE_OVERDUE once (R56, R57); the placing and withdrawal tests put STANDARDIZE into
the slot and take it out, deferred near a weld (R60, R61); and a sample moves a standardisation to
RUNNING, to completion with GAUGE_STANDARDIZED, or back to WAITING (R46, R63, R64). -/
def Obligations.GaugeStandardisation : Prop :=
  ∀ (p : Gauge) (s : State),
    let r := s.gauges[p]
    (r.installed = false → gaugeTests p s = s ∧ ∀ d : Nat, growLength p d s = s) ∧
    (r.installed = true →
      (∀ d : Nat, r.length < 2 ^ 48 →
        let len := min (2 ^ 48 - 1) (r.length + d)
        let due := r.stdLength * 1000000
        let wanted : GaugeRecord := if due ≤ len ∧ r.phase = .none
          then { r with length := len, phase := .waiting, source := .length }
          else { r with length := len }
        let late := 2 * due ≤ len ∧ wanted.phase ≠ .none ∧ r.overdue = false
        (len = r.length → growLength p d s = s) ∧
        (len ≠ r.length → ¬ late →
          growLength p d s = { s with gauges := s.gauges.set p.val wanted }) ∧
        (len ≠ r.length → late → growLength p d s =
          raise .gaugeOverdue (.gauge p) none (roundHalfUp len 1000000)
            { s with gauges := s.gauges.set p.val { wanted with overdue := true } })) ∧
      (let placing := r.phase = .waiting ∧ r.holdOff = false ∧ r.mode = .measuring ∧
         (r.source = .host ∨ ¬ WeldNear s p)
       let withdrawing := r.phase = .placed ∧ r.inFlight = false ∧
         (r.mode ≠ .measuring ∨ (r.source = .length ∧ WeldNear s p))
       (placing → gaugeTests p s =
         s.onGauge p fun u => { u with phase := .placed, inFlight := false }) ∧
       (withdrawing → gaugeTests p s = s.onGauge p fun u => { u with phase := .waiting }) ∧
       (¬ placing → ¬ withdrawing → gaugeTests p s = s)) ∧
      ∀ (status : Byte) (h : BitVec 16),
        let noted (code : EventCode) (v : Nat) (u : State) := u.onHost fun k =>
          { k with events := k.events ++ [⟨code, .gauge p, none, BitVec.ofNat 32 v, s.now⟩] }
        (status = 2 → takeSample p ⟨status, h⟩ s = s.onGauge p fun u =>
          { u with
            mode := .standardizing
            phase := if u.phase = .none then .none else .running
            inFlight := false }) ∧
        (status ≠ 1 → status ≠ 2 →
          let failed := s.onGauge p fun u =>
            { u with
              mode := .fault
              phase := match u.phase with
                | .none => .none
                | .waiting => .waiting
                | .placed => if u.inFlight then .placed else .waiting
                | .accepted => if u.mode = .fault then .accepted else .waiting
                | .running => if u.mode = .fault then .running else .waiting
              inFlight := u.inFlight && decide (u.phase = .placed) }
          (r.mode = .fault → takeSample p ⟨status, h⟩ s = failed) ∧
          (r.mode ≠ .fault → s.host.events.length < 48 → takeSample p ⟨status, h⟩ s =
            noted .gaugeFault (match r.mode with
              | .absent => 0
              | .measuring => 1
              | .standardizing => 2
              | .fault => 3) failed)) ∧
        (status = 1 → r.mode = .standardizing → s.host.events.length < 48 →
          let done := noted .gaugeStandardized (roundHalfUp r.length 1000000)
            (s.onGauge p fun u =>
              { u with
                mode := .measuring
                length := 0
                phase := .none
                source := .none
                overdue := false
                holdOff := false
                inFlight := false })
          (s.track.mode = .stopped → takeSample p ⟨status, h⟩ s = done) ∧
          (s.track.mode ≠ .stopped → takeSample p ⟨status, h⟩ s =
            attributeSample p h.toNat done)) ∧
        (status = 1 → r.mode ≠ .standardizing → s.track.mode = .stopped →
          takeSample p ⟨status, h⟩ s = gaugeTests p (s.onGauge p fun u =>
            { u with
              mode := .measuring
              holdOff := false
              inFlight := u.inFlight && decide (u.phase = .placed) })))

/-! ### Thickness and gap demand -/

/-- The arithmetic of the conventions and of R54 and R55: a quotient rounds to nearest with halves up, a
gained product to nearest with halves away from zero, and a mass-flow thickness, absent at length 0 or
without a volume, is the rounded quotient up to 65,535, within half a length of the volume. -/
def Obligations.RoundedArithmetic : Prop :=
  (∀ a b : Nat, 0 < b →
    2 * b * roundHalfUp a b ≤ 2 * a + b ∧ 2 * a + b < 2 * b * (roundHalfUp a b + 1)) ∧
  (∀ x : Int, scaleQ12 (-x) = -scaleQ12 x ∧
    (0 ≤ x → 8192 * scaleQ12 x ≤ 2 * x + 4096 ∧ 2 * x + 4096 < 8192 * (scaleQ12 x + 1))) ∧
  (∀ (x : Cell) (len : Nat), (x.measured = none ∨ len = 0) → massFlowOf x len = none) ∧
  ∀ (x : Cell) (m : EntryMeasure) (len : Nat), x.measured = some m → 0 < len →
    (roundHalfUp m.v len ≤ 65535 →
      massFlowOf x len = some ⟨roundHalfUp m.v len, false⟩ ∧
      2 * (roundHalfUp m.v len * len) ≤ 2 * m.v + len ∧
      2 * m.v < 2 * (roundHalfUp m.v len * len) + len) ∧
    (65535 < roundHalfUp m.v len → massFlowOf x len = some ⟨65535, true⟩)

/-- A composition forms the sum of the four terms, clamps it to the gap limits, sets the limited flag, raises
STAND_LIMITED exactly when the flag newly sets, hands a changed demand on to the sequencer, and touches
no other stand; without a configured record or an active product the demand ends (R88 to R90). The
sequencer takes a new demand into t in every state (R110). In TRAVEL with no step, or a QUEUED one, the
step toward t is kept when it is the one wanted and else built with a new number (R112); in HOLD with
nothing, or a QUEUED trim, t equal to p drops the trim, in mode BAND within the band the trim t - c is
kept or built, and otherwise the stand enters TRAVEL with the step from p (R116). With work IN_FLIGHT, a
step MOVING, or in another state only t changes, and an ended demand only leaves t absent. -/
def Obligations.DemandIsClampedSum : Prop :=
  (∀ (i : Stand) (s : State),
    let next := composeDemand i s
    (∀ j : Stand, j ≠ i → next.demands[j] = s.demands[j] ∧ next.actuators[j] = s.actuators[j]) ∧
    next.trips = s.trips ∧ next.track = s.track ∧ next.store = s.store ∧ next.link = s.link ∧
    next.mill = s.mill ∧ next.stands = s.stands ∧ next.gauges = s.gauges ∧ next.nodes = s.nodes ∧
    ((s.stands[i].configured = false ∨ s.store.active[i] = none) →
      next.demands[i] = { s.demands[i] with demand := none, limited := false } ∧
      next.host = s.host ∧
      (s.demands[i].demand = none → next.actuators[i] = s.actuators[i]) ∧
      (s.demands[i].demand ≠ none → next.actuators[i] = (newDemand i none s).actuators[i])) ∧
    ∀ p : Product, s.stands[i].configured = true → s.store.active[i] = some p →
      let d := s.demands[i]
      let sum := s.store.table[p].sSet[i] + d.ff + d.trim + d.offset
      let v := clampTo s.stands[i].gapMin s.stands[i].gapMax sum
      let lim := decide (sum < s.stands[i].gapMin ∨ s.stands[i].gapMax < sum)
      next.demands[i] = { d with demand := some ⟨v, sum⟩, limited := lim } ∧
      (d.demand.map (·.value) = some v → next.actuators[i] = s.actuators[i]) ∧
      (d.demand.map (·.value) ≠ some v →
        next.actuators[i] = (newDemand i (some v) s).actuators[i]) ∧
      next.host = (if lim = true ∧ d.limited = false
        then raise .standLimited (.stand i) none sum s else s).host) ∧
  ∀ (i : Stand) (s : State),
    let r := s.stands[i]
    let a := s.actuators[i]
    let becomes (b : Actuator) := s.onActuator i fun _ => b
    let queued := ∀ w : Work, a.work = some w → w.phase = .queued
    newDemand i none s = becomes { a with t := none } ∧
    ∀ t : Int,
      let took := { a with t := some t }
      let step : Int :=
        if (t - a.p).natAbs ≤ r.maxStep then t
        else if a.p < t then a.p + r.maxStep
        else a.p - r.maxStep
      let built (cmd : GapCommand) (b : Actuator) : Actuator :=
        { b with number := a.number + 1, work := some ⟨cmd, a.number + 1, .queued⟩ }
      (a.state ≠ .travel → a.state ≠ .hold → newDemand i (some t) s = becomes took) ∧
      (∀ w : Work, a.work = some w → (w.phase = .inFlight ∨ a.state = .travel ∧ w.phase = .moving) →
        newDemand i (some t) s = becomes took) ∧
      (a.state = .travel → queued →
        (a.work.map (·.cmd) = some (.travel step) → newDemand i (some t) s = becomes took) ∧
        (a.work.map (·.cmd) ≠ some (.travel step) →
          newDemand i (some t) s = becomes (built (.travel step) took))) ∧
      (a.state = .hold → queued →
        let near := r.mode = .band ∧ (t - a.c).natAbs ≤ r.band
        (t = a.p → newDemand i (some t) s = becomes { took with work := none }) ∧
        (t ≠ a.p → near →
          (a.work.map (·.cmd) = some (.trim (t - a.c)) →
            newDemand i (some t) s = becomes took) ∧
          (a.work.map (·.cmd) ≠ some (.trim (t - a.c)) →
            newDemand i (some t) s = becomes (built (.trim (t - a.c)) took))) ∧
        (t ≠ a.p → ¬ near → newDemand i (some t) s =
          becomes (built (.travel step) { took with state := .travel })))

/-- The feedforward term of a bite: 0 without an input or at an unconfigured stand, else the deviation from
the product's reference times the gain, rounded, negated and clamped; a monitor update subtracts the
gained error from the trim within its limit, and is passed over at an unconfigured or frozen stand or
for a cell of another product (R91 to R96). The monitor's source is the gauge while one is installed,
else the mass-flow thickness while that is enabled and not saturated (R94). The bite of a cell of
another product switches the stand: the freeze ends for a weld cell at or past its serial, the trim is
kept or zeroed, the demand is composed and WELD_AT_STAND raised (R82, R98, R99), behind a STAND_LIMITED
of that composition where it raises one: the model's choice (log entry 29). -/
def Obligations.FeedforwardAndMonitor : Prop :=
  (∀ (s : State) (i : Stand) (x : Cell) (h : Nat),
    (s.gauges[i.succ].installed = true → takeMeasured i x h s = monitorUpdate i x h s) ∧
    (s.gauges[i.succ].installed = false → takeMeasured i x h s = s)) ∧
  (∀ (s : State) (i : Stand) (x : Cell) (m : MassFlow),
    (s.gauges[i.succ].installed = false → s.stands[i].massFlow = true → m.saturated = false →
      takeMassFlow i x m s = monitorUpdate i x m.value s) ∧
    ((s.gauges[i.succ].installed = true ∨ s.stands[i].massFlow = false ∨ m.saturated = true) →
      takeMassFlow i x m s = s)) ∧
  (∀ (s : State) (i : Stand) (y : Cell), let t := biteProduct i y s
    (s.store.active[i] = some y.product → t = s) ∧
    (s.store.active[i] ≠ some y.product →
      t.store = { s.store with active := s.store.active.set i.val (some y.product) } ∧
      t.demands[i].ff = s.demands[i].ff ∧ t.demands[i].offset = s.demands[i].offset ∧
      t.demands[i].trim =
        (if s.store.table[y.product].carryTrim then s.demands[i].trim else 0) ∧
      (∀ n : Nat, s.demands[i].freeze = some n → t.demands[i].freeze =
        if y.weld = true ∧ n ≤ y.serial then none else some n) ∧
      (s.demands[i].freeze = none → t.demands[i].freeze = none) ∧
      t.demands[i].demand = (if s.stands[i].configured = true then
        let sum := s.store.table[y.product].sSet[i] + t.demands[i].ff + t.demands[i].trim +
          t.demands[i].offset
        some ⟨clampTo s.stands[i].gapMin s.stands[i].gapMax sum, sum⟩ else none) ∧
      (s.host.events.length ≤ 46 → t.host.events.getLast? =
        some ⟨.weldAtStand, .stand i, some y.serial, BitVec.ofNat 32 y.product.val, s.now⟩) ∧
      (∀ j : Stand, j ≠ i → t.demands[j] = s.demands[j] ∧ t.actuators[j] = s.actuators[j]) ∧
      t.track = s.track ∧ t.gauges = s.gauges ∧ t.trips = s.trips)) ∧
  (∀ (s : State) (y : Cell) (i : Stand), s.stands[i].configured = false → feedforward s i y = 0) ∧
  (∀ (s : State) (y : Cell), y.measured = none → feedforward s 0 y = 0) ∧
  (∀ (s : State) (y : Cell) (m : EntryMeasure), s.stands[(0 : Fin 5)].configured = true →
    y.measured = some m → feedforward s 0 y =
      clampSym s.stands[(0 : Fin 5)].ffLimit (-(scaleQ12 (((m.h0 : Int) -
        s.store.table[y.product].hRef) * s.store.table[y.product].kFf[(0 : Fin 5)])))) ∧
  (∀ (s : State) (y : Cell) (j : Fin 4), let i : Stand := j.succ
    ((s.gauges[j.succ.castSucc].installed = false ∨
        (∀ n, y.entries[j.val]? = some n → n.count = 0)) → feedforward s i y = 0) ∧
    ∀ n : StandEntry, s.stands[i].configured = true → s.gauges[j.succ.castSucc].installed = true →
      y.entries[j.val]? = some n → 1 ≤ n.count → feedforward s i y =
        clampSym s.stands[i].ffLimit (-(scaleQ12 (((roundHalfUp n.sum n.count : Int) -
          s.store.table[y.product].hExit[j.castSucc]) * s.store.table[y.product].kFf[i])))) ∧
  ∀ (s : State) (i : Stand) (x : Cell) (h : Nat),
    ((s.stands[i].configured = false ∨ s.demands[i].freeze.isSome = true ∨
        s.store.active[i] ≠ some x.product) → monitorUpdate i x h s = s) ∧
    (s.stands[i].configured = true → s.demands[i].freeze = none →
      s.store.active[i] = some x.product →
      (monitorUpdate i x h s).demands[i].trim = clampSym s.stands[i].monLimit
        (s.demands[i].trim - scaleQ12 (((h : Int) - s.store.table[x.product].hExit[i]) *
          s.store.table[x.product].kMon[i])) ∧
      (monitorUpdate i x h s).demands[i].ff = s.demands[i].ff ∧
      (∀ c ∈ (monitorUpdate i x h s).track.queue, c.serial = x.serial →
        ∀ n, c.entries[i.val]? = some n → n.monUsed = true) ∧
      ∀ j : Stand, j ≠ i → (monitorUpdate i x h s).demands[j] = s.demands[j])

/-- Standardize Gauge: its refusals in order, and the phase and source an accepted one leaves, with the
placing and withdrawal tests made within it (R58, R59, R61, R65). -/
def Obligations.StandardizeOrder : Prop :=
  ∀ (tag b : Byte) (s : State), Ready s →
    (5 < b.toNat → exec (.standardizeGauge tag b) s =
      .next (answered tag (.standardizeGauge b) .badParam [0] s)) ∧
    ∀ p : Gauge, b.toNat = p.val →
      (s.gauges[p].installed = false → exec (.standardizeGauge tag b) s =
        .next (answered tag (.standardizeGauge b) .notConfigured [] s)) ∧
      (s.gauges[p].installed = true → s.gauges[p].mode = .absent →
        exec (.standardizeGauge tag b) s =
          .next (answered tag (.standardizeGauge b) .nodeAbsent [] s)) ∧
      (s.gauges[p].installed = true → s.gauges[p].mode ≠ .absent →
        exec (.standardizeGauge tag b) s =
          .next (answered tag (.standardizeGauge b) .ok [] (s.onGauge p fun r =>
            { r with
              holdOff := false
              phase := match r.phase with
                | .accepted => .accepted
                | .running => .running
                | .placed => if r.inFlight = true ∨ r.mode = .measuring then .placed else .waiting
                | .none => if r.mode = .measuring then .placed else .waiting
                | .waiting => if r.mode = .measuring then .placed else .waiting
              source := match r.phase with
                | .accepted => r.source
                | .running => r.source
                | .placed => .host
                | .none => .host
                | .waiting => .host
              inFlight := match r.phase with
                | .accepted => r.inFlight
                | .running => r.inFlight
                | .placed => r.inFlight
                | .none => r.inFlight && !decide (r.mode = .measuring)
                | .waiting => r.inFlight && !decide (r.mode = .measuring) })))

/-! ### Product Store -/

/-- Load Product and Erase Product: refusals in order, and the one entry an accepted one writes (R72, R73).
Append Coil adds at the tail and Clear Coil List empties the list, each with its count in the reply and
its change of the reference counts (R76, R77). -/
def Obligations.ProductStoreRequests : Prop :=
  (∀ (tag : Byte) (s : State), Ready s →
    (∀ (coil : BitVec 32) (b : Byte),
      (15 < b.toNat → exec (.appendCoil tag coil b) s =
        .next (answered tag (.appendCoil coil b) .badParam [0] s)) ∧
      ∀ p : Product, b.toNat = p.val →
        (s.store.table[p].loaded = false → exec (.appendCoil tag coil b) s =
          .next (answered tag (.appendCoil coil b) .badProduct [] s)) ∧
        (s.store.table[p].loaded = true → 8 ≤ s.store.coils.length →
          exec (.appendCoil tag coil b) s =
            .next (answered tag (.appendCoil coil b) .full [] s)) ∧
        (s.store.table[p].loaded = true → s.store.coils.length < 8 →
          let u := s.onStore fun t => { t with coils := t.coils ++ [⟨coil, p⟩] }
          exec (.appendCoil tag coil b) s = .next (answered tag (.appendCoil coil b) .ok
            [BitVec.ofNat 8 (s.store.coils.length + 1)] u) ∧
          u.refCount p = s.refCount p + 1 ∧ u.entryState p = .inUse ∧
          ∀ q : Product, q ≠ p → u.refCount q = s.refCount q)) ∧
    (let u := s.onStore fun t => { t with coils := [] }
     exec (.clearCoilList tag) s = .next (answered tag .clearCoilList .ok
      [BitVec.ofNat 8 s.store.coils.length] u) ∧
      ∀ p : Product, u.refCount p =
          s.refCount p - s.store.coils.countP (fun c => decide (c.product = p)) ∧
        (s.store.table[p].loaded = true → u.refCount p = 0 → u.entryState p = .loaded))) ∧
  ∀ (tag : Byte) (s : State), Ready s →
    (∀ p : ProductParams,
      let groups := [p.s1, p.s2, p.s3, p.s4, p.s5]
      let setpoints := ∀ g ∈ groups, -200000 ≤ g.sSet.toInt ∧ g.sSet.toInt ≤ 600000
      let gains := ∀ g ∈ groups, g.kFf.toNat ≤ 8191 ∧ g.kMon.toNat ≤ 8191
      (15 < p.index.toNat → exec (.loadProduct tag p) s =
        .next (answered tag (.loadProduct p) .badParam [1] s)) ∧
      ∀ k : Product, p.index.toNat = k.val →
        (s.store.table[k].loaded = true → s.refCount k ≠ 0 → exec (.loadProduct tag p) s =
          .next (answered tag (.loadProduct p) .inUse [] s)) ∧
        ((s.store.table[k].loaded = false ∨ s.refCount k = 0) →
          (¬ setpoints → exec (.loadProduct tag p) s =
            .next (answered tag (.loadProduct p) .badParam [2] s)) ∧
          (setpoints → ¬ gains → exec (.loadProduct tag p) s =
            .next (answered tag (.loadProduct p) .badParam [3] s)) ∧
          (setpoints → gains → 1 < p.carryTrim.toNat → exec (.loadProduct tag p) s =
            .next (answered tag (.loadProduct p) .badParam [4] s)) ∧
          (setpoints → gains → p.carryTrim.toNat ≤ 1 → exec (.loadProduct tag p) s =
            .next (answered tag (.loadProduct p) .ok [] (s.onStore fun t =>
              { t with
                table := t.table.set k.val
                  { loaded := true, code := p.code, carryTrim := decide (p.carryTrim = 1),
                    hRef := p.hRef.toNat,
                    hExit := #v[p.s1.hRef.toNat, p.s2.hRef.toNat, p.s3.hRef.toNat,
                      p.s4.hRef.toNat, p.s5.hRef.toNat],
                    sSet := #v[p.s1.sSet.toInt, p.s2.sSet.toInt, p.s3.sSet.toInt,
                      p.s4.sSet.toInt, p.s5.sSet.toInt],
                    kFf := #v[p.s1.kFf.toNat, p.s2.kFf.toNat, p.s3.kFf.toNat, p.s4.kFf.toNat,
                      p.s5.kFf.toNat],
                    kMon := #v[p.s1.kMon.toNat, p.s2.kMon.toNat, p.s3.kMon.toNat,
                      p.s4.kMon.toNat, p.s5.kMon.toNat] } }))))) ∧
    ∀ b : Byte,
      (15 < b.toNat → exec (.eraseProduct tag b) s =
        .next (answered tag (.eraseProduct b) .badParam [0] s)) ∧
      ∀ k : Product, b.toNat = k.val →
        (s.store.table[k].loaded = true → s.refCount k ≠ 0 → exec (.eraseProduct tag b) s =
          .next (answered tag (.eraseProduct b) .inUse [] s)) ∧
        (s.store.table[k].loaded = true → s.refCount k = 0 → exec (.eraseProduct tag b) s =
          .next (answered tag (.eraseProduct b) .ok []
            (s.onStore fun t => { t with table := t.table.set k.val productReset }))) ∧
        (s.store.table[k].loaded = false → exec (.eraseProduct tag b) s =
          .next (answered tag (.eraseProduct b) .ok [] s))

/-! ### Gap Demand Unit's requests -/

/-- Set Offset and Reset Trim: refusals in order, and the offset or trim and the demand they leave, which
the reply carries (R101, R102, R204). -/
def Obligations.OffsetAndTrimRequests : Prop :=
  ∀ (tag b : Byte) (s : State), Ready s →
    let composed (t : State) (i : Stand) :=
      t.demands[i].demand = (if s.stands[i].configured = true then
        s.store.active[i].map fun q =>
          let sum := s.store.table[q].sSet[i] + t.demands[i].ff + t.demands[i].trim +
            t.demands[i].offset
          ⟨clampTo s.stands[i].gapMin s.stands[i].gapMax sum, sum⟩ else none)
    (∀ o : BitVec 16,
      ((b.toNat = 0 ∨ 5 < b.toNat) → exec (.setOffset tag b o) s =
        .next (answered tag (.setOffset b o) .badParam [1] s)) ∧
      ∀ i : Stand, b.toNat = i.val + 1 →
        (s.mill.configured = false → exec (.setOffset tag b o) s =
          .next (answered tag (.setOffset b o) .notConfigured [] s)) ∧
        (s.mill.configured = true → s.mill.n < i.val + 1 → exec (.setOffset tag b o) s =
          .next (answered tag (.setOffset b o) .badParam [2] s)) ∧
        (s.mill.configured = true → i.val + 1 ≤ s.mill.n →
          (s.stands[i].configured = false → exec (.setOffset tag b o) s =
            .next (answered tag (.setOffset b o) .notConfigured [] s)) ∧
          (s.stands[i].configured = true → (o.toInt < -10000 ∨ 10000 < o.toInt) →
            exec (.setOffset tag b o) s =
              .next (answered tag (.setOffset b o) .badParam [3] s)) ∧
          (s.stands[i].configured = true → -10000 ≤ o.toInt → o.toInt ≤ 10000 →
            (o.toInt = s.demands[i].offset → exec (.setOffset tag b o) s =
              .next (answered tag (.setOffset b o) .ok (demandBlock s i) s)) ∧
            ∃ t : State, exec (.setOffset tag b o) s = .next t ∧
              t.host.reply = some ⟨tag, 0x50, 0x00, demandBlock t i⟩ ∧
              t.demands[i].offset = o.toInt ∧ t.demands[i].ff = s.demands[i].ff ∧
              t.demands[i].trim = s.demands[i].trim ∧
              t.demands[i].freeze = s.demands[i].freeze ∧
              (o.toInt ≠ s.demands[i].offset → composed t i) ∧
              (∀ j : Stand, j ≠ i → t.demands[j] = s.demands[j] ∧
                t.actuators[j] = s.actuators[j]) ∧
              t.track = s.track ∧ t.store = s.store ∧ t.trips = s.trips))) ∧
    (5 < b.toNat → exec (.resetTrim tag b) s =
      .next (answered tag (.resetTrim b) .badParam [1] s)) ∧
    (b.toNat ≤ 5 → s.mill.configured = false → exec (.resetTrim tag b) s =
      .next (answered tag (.resetTrim b) .notConfigured [] s)) ∧
    (∀ i : Stand, b.toNat = i.val + 1 → s.mill.configured = true →
      (s.mill.n < i.val + 1 → exec (.resetTrim tag b) s =
        .next (answered tag (.resetTrim b) .badParam [2] s)) ∧
      (i.val + 1 ≤ s.mill.n → s.stands[i].configured = false → exec (.resetTrim tag b) s =
        .next (answered tag (.resetTrim b) .notConfigured [] s))) ∧
    ∀ is : List Stand, s.mill.configured = true →
      ((b = 0 ∧ is = allStands.filter fun i =>
          decide (i.val + 1 ≤ s.mill.n) && s.stands[i].configured) ∨
        ∃ i : Stand, b.toNat = i.val + 1 ∧ is = [i] ∧ i.val + 1 ≤ s.mill.n ∧
          s.stands[i].configured = true) →
      ∃ t : State, exec (.resetTrim tag b) s = .next t ∧
        t.host.reply = some ⟨tag, 0x51, 0x00,
          [BitVec.ofNat 8 (is.filter fun i => decide (s.demands[i].trim ≠ 0)).length,
            BitVec.ofNat 8 is.length] ++
          is.flatMap fun i => BitVec.ofNat 8 (i.val + 1) :: demandBlock t i⟩ ∧
        (∀ i : Stand, i ∈ is → t.demands[i].trim = 0 ∧ t.demands[i].ff = s.demands[i].ff ∧
          t.demands[i].offset = s.demands[i].offset ∧
          t.demands[i].freeze = s.demands[i].freeze ∧ composed t i) ∧
        (∀ j : Stand, j ∉ is → t.demands[j] = s.demands[j] ∧ t.actuators[j] = s.actuators[j]) ∧
        t.track = s.track ∧ t.store = s.store ∧ t.trips = s.trips

/-! ### Positioning Sequencer -/

/-- Engage Stand: its refusals in order, and the target, position and first step an accepted one gives a
stand without current work (R111, R112, R107). -/
def Obligations.EngageStandRequest : Prop :=
  ∀ (tag b : Byte) (s : State), Ready s → RolesUnique s →
    ((b.toNat = 0 ∨ 5 < b.toNat) → exec (.engageStand tag b) s =
      .next (answered tag (.engageStand b) .badParam [0] s)) ∧
    ∀ i : Stand, b.toNat = i.val + 1 →
      ((s.mill.configured = false ∨ s.mill.n < i.val + 1 ∨ s.stands[i].configured = false) →
        exec (.engageStand tag b) s =
          .next (answered tag (.engageStand b) .notConfigured [] s)) ∧
      (s.mill.configured = true → i.val + 1 ≤ s.mill.n → s.stands[i].configured = true →
        ((∀ a : Node, s.nodes[a].role = .stand i → s.nodes[a].state ≠ .present) →
          exec (.engageStand tag b) s =
            .next (answered tag (.engageStand b) .nodeAbsent [] s)) ∧
        ∀ a : Node, s.nodes[a].role = .stand i → s.nodes[a].state = .present →
          let ready := (s.actuators[i].state = .open_ ∨ s.actuators[i].state = .released) ∧
            s.track.mode ≠ .stopped ∧ s.nodes[a].remote = true
          let tripped := ∃ k : Source, s.trips.records[k].latched = true ∧
            s.trips.records[k].affected.getLsbD i.val = true
          (¬ ready → exec (.engageStand tag b) s =
            .next (answered tag (.engageStand b) .state [] s)) ∧
          (ready → tripped → exec (.engageStand tag b) s =
            .next (answered tag (.engageStand b) .tripped [] s)) ∧
          (ready → ¬ tripped → ∀ (d : DemandValue) (q : Int), s.demands[i].demand = some d →
            s.actuators[i].reported = some q → s.actuators[i].work = none →
            let p := clampTo s.stands[i].gapMin s.stands[i].gapMax q
            let step := if (d.value - p).natAbs ≤ s.stands[i].maxStep then d.value
              else if p < d.value then p + s.stands[i].maxStep else p - s.stands[i].maxStep
            exec (.engageStand tag b) s =
              .next (answered tag (.engageStand b) .ok [] (s.onActuator i fun u =>
                { u with
                  t := some d.value
                  p := p
                  state := .travel
                  number := u.number + 1
                  work := some ⟨.travel step, u.number + 1, .queued⟩ }))))

/-- Open Stand puts each selected stand in TRAVEL, SETTLE, HOLD, RELEASED or OPEN_FAILED into opening and
answers with the states of the selected stands, in any state of the mill, the trips and the link; nothing
else changes while no transaction of the part is in flight (R125, R121, R107). -/
def Obligations.OpenStandRequest : Prop :=
  ∀ (tag b : Byte) (s : State), Ready s →
    (5 < b.toNat → exec (.openStand tag b) s =
      .next (answered tag (.openStand b) .badParam [0] s)) ∧
    (∀ is : List Stand, s.link.inFlight = none →
      ((b = 0 ∧ is = [0, 1, 2, 3, 4]) ∨ ∃ i : Stand, b.toNat = i.val + 1 ∧ is = [i]) →
      ∃ v : Vector Actuator 5,
        (∀ i : Stand, v[i] =
          if i ∈ is ∧ s.actuators[i].state ≠ .open_ ∧ s.actuators[i].state ≠ .opening
            then openingOf s i else s.actuators[i]) ∧
        exec (.openStand tag b) s = .next (answered tag (.openStand b) .ok
          (is.map fun i => BitVec.ofNat 8 (actCode v[i].state)) { s with actuators := v })) ∧
    ∀ is : List Stand,
      ((b = 0 ∧ is = [0, 1, 2, 3, 4]) ∨ ∃ i : Stand, b.toNat = i.val + 1 ∧ is = [i]) →
      let kept (i : Stand) : Prop := s.actuators[i].state = .open_ ∨ s.actuators[i].state = .opening
      ∃ (t : State) (codes : List Byte), exec (.openStand tag b) s = .next t ∧
        t.host.reply = some ⟨tag, 0x59, 0x00, codes⟩ ∧
        (∀ (k : Nat) (i : Stand), is[k]? = some i →
          (kept i → codes[k]? = some (BitVec.ofNat 8 (actCode s.actuators[i].state))) ∧
          (¬ kept i → codes[k]? = some (BitVec.ofNat 8 (actCode .opening)) ∧
            t.actuators[i] = openingOf s i))

/-- The settle timer's expiry enters HOLD with c at p and acts on a target that has moved; the open timer's
makes the stand OPEN_FAILED and escalates (the events' order is log entry 11); the move timer's raises
ACTUATOR_FAULT and opens the stand (R115, R116, R119, R124, R138). That an expiry of a stopped timer, or
in another state, or before its load has run changes nothing is the model's choice (log entries 3 and
4). -/
def Obligations.StandTimersExpire : Prop :=
  ∀ (i : Stand) (s : State) (tm : Timer), Running s →
    let a := s.actuators[i]
    let due := tm.load ≤ (s.now - tm.start).toNat
    ((a.state ≠ .settle ∨ a.settleT = none ∨ (a.settleT = some tm ∧ ¬ due)) →
      exec (.settleTimerExpiry i) s = .next s) ∧
    ((a.state ≠ .travel ∨ a.moveT = none ∨ (a.moveT = some tm ∧ ¬ due)) →
      exec (.moveTimerExpiry i) s = .next s) ∧
    ((a.state ≠ .opening ∨ a.openT = none ∨ (a.openT = some tm ∧ ¬ due)) →
      exec (.openTimerExpiry i) s = .next s) ∧
    (a.state = .settle → a.settleT = some tm → due → a.work = none → ∀ t : Int, a.t = some t →
      let held := s.onActuator i fun u => { u with state := .hold, c := u.p, settleT := none }
      (t = a.p → exec (.settleTimerExpiry i) s = .next held) ∧
      (t ≠ a.p → s.stands[i].mode = .band → (t - a.p).natAbs ≤ s.stands[i].band →
        exec (.settleTimerExpiry i) s = .next (held.onActuator i fun u =>
          { u with number := u.number + 1,
                   work := some ⟨.trim (t - a.p), u.number + 1, .queued⟩ })) ∧
      (t ≠ a.p → (s.stands[i].mode = .direct ∨ s.stands[i].band < (t - a.p).natAbs) →
        exec (.settleTimerExpiry i) s = .next (held.onActuator i fun u =>
          { u with state := .travel, number := u.number + 1,
                   work := some ⟨.travel (wantedStep a.p t s.stands[i].maxStep), u.number + 1,
                     .queued⟩ }))) ∧
    (a.state = .travel → a.moveT = some tm → due →
      ∃ t : State, exec (.moveTimerExpiry i) s = .next t ∧ t.actuators[i] = openingOf s i ∧
        (let k := sourceIndex (.actuatorFault i)
         t.trips.records[k].latched = true ∧
          (s.trips.records[k].latched = false → t.trips.records[k] = { s.trips.records[k] with
            latched := true, rank := latchedCount s + 1, time := s.now, count := 1,
            reported := false, detail := i.val + 1 }) ∧
          (s.trips.records[k].latched = true → t.trips.records[k] = { s.trips.records[k] with
            count := min 255 (s.trips.records[k].count + 1) }) ∧
          ∀ j : Source, j ≠ k → t.trips.records[j] = s.trips.records[j])) ∧
    (a.state = .opening → a.openT = some tm → due → s.link.inFlight = none →
      let failed := s.onActuator i fun u =>
        { u with state := .openFailed, work := none, openT := none }
      (s.trips.escalation = none → s.host.events.length ≤ 46 →
        exec (.openTimerExpiry i) s = .next ((failed.onTrips fun u =>
          { u with escalation := some .openFailed, stopWanted := .emergency }).onHost fun h =>
            { h with events := h.events ++ [⟨.escalated, .stand i, none, 1, s.now⟩,
              ⟨.standOpenFailed, .stand i, none, 0, s.now⟩] })) ∧
      (s.trips.escalation.isSome = true → s.host.events.length ≤ 47 →
        exec (.openTimerExpiry i) s = .next (failed.onHost fun h =>
          { h with events := h.events ++ [⟨.standOpenFailed, .stand i, none, 0, s.now⟩] })))

/-! ### Trip Controller -/

/-- Trip Request raises HOST_REQUEST: a CLEAR record latches with the next rank, the reason and the stop of
its class and opens the stands it names; a LATCHED one only counts; the reply gives the rank and whether
it latched (R145, R131 to R133, R122). -/
def Obligations.TripRequestRaises : Prop :=
  ∀ (tag : Byte) (reason : BitVec 16) (s : State), Ready s →
    let r := s.trips.records[(29 : Source)]
    (r.latched = true → exec (.tripRequest tag reason) s =
      .next (answered tag (.tripRequest reason) .ok [BitVec.ofNat 8 r.rank, 0]
        (s.onTrips fun t =>
          { t with records := t.records.set 29 { r with count := min 255 (r.count + 1) } }))) ∧
    (r.latched = false → ∃ t : State, exec (.tripRequest tag reason) s = .next t ∧
      t.host.reply = some ⟨tag, 0x61, 0x00, [BitVec.ofNat 8 (latchedCount s + 1), 1]⟩ ∧
      t.trips.records = s.trips.records.set 29 { r with
        latched := true, rank := latchedCount s + 1, time := s.now, count := 1, reported := false,
        detail := reason.toNat } ∧
      (∀ i : Stand, r.affected.getLsbD i.val = true →
        s.actuators[i].state ≠ .open_ → s.actuators[i].state ≠ .opening →
        s.actuators[i].state ≠ .openFailed → t.actuators[i] = openingOf s i) ∧
      (r.cls = .emergency → t.trips.stopWanted = .emergency ∧ t.mstop = true ∧
        t.trips.confirm = s.trips.confirm) ∧
      (r.cls = .fastStop → t.mstop = s.mstop ∧ t.trips.stopWanted =
        (if s.trips.stopWanted = .none then .fast else s.trips.stopWanted) ∧
        (s.trips.confirm = .idle →
          (t.trips.confirm = .waiting ∧ t.trips.confirmT = some ⟨s.now, s.mill.stopConfirm⟩) ∨
          (t.trips.confirm = .confirmed ∧ t.trips.confirmT = none)) ∧
        (s.trips.confirm ≠ .idle → t.trips.confirm = s.trips.confirm ∧
          t.trips.confirmT = s.trips.confirmT)) ∧
      t.mill = s.mill ∧ t.stands = s.stands ∧ t.track = s.track ∧ t.store = s.store ∧
      t.demands = s.demands ∧ t.nodes = s.nodes) ∧
    (r.latched = false → s.trips.stopSent = .none → ∀ f : InFlight, s.link.inFlight = some f →
      normalItem f.item = true → ∃ t : State, exec (.tripRequest tag reason) s = .next t ∧
        t.link.inFlight = none ∧ t.link.state = .free ∧ t.link.respTimer = none ∧
        t.link.ring = s.link.ring ∧
        t.link.counters.abandoned = min 65535 (s.link.counters.abandoned + 1))

/-- Clear Trips is refused with the active sources in ascending order while a LATCHED record's source is
active; else every record clears with its class and affected set kept, the escalation, stop levels and
confirmation end, MSTOP is released and the actuators are kept; a STOP on the link runs on and no longer
counts toward the stop sent (R148, R149, R139, R134). -/
def Obligations.ClearTripsRequest : Prop :=
  ∀ (tag : Byte) (s : State), Ready s → RolesUnique s →
    (∀ ks : List Source, ks.Pairwise (· < ·) → ks ≠ [] →
      (∀ k : Source, k ∈ ks ↔ s.trips.records[k].latched = true ∧ SourceStanding s k) →
      exec (.clearTrips tag) s = .next (answered tag .clearTrips .sourceActive
        (BitVec.ofNat 8 ks.length :: ks.map fun k => BitVec.ofNat 8 k.val) s)) ∧
    ((∀ k : Source, s.trips.records[k].latched = true → ¬ SourceStanding s k) →
      s.host.events.length < 48 →
      ∃ v : Vector TripRecord 32,
        (∀ k : Source, v[k] = clearRecord s.trips.records[k].cls s.trips.records[k].affected) ∧
        let u := ((s.onLink fun l => { l with inFlight := l.inFlight.map fun f =>
            match f.item with
            | .stop lv _ => { f with item := .stop lv false }
            | _ => f }).onTrips fun t =>
          { t with records := v, escalation := none, confirm := .idle, confirmT := none,
                   stopWanted := .none, stopSent := .none }).onHost fun h =>
          { h with events := h.events ++
              [⟨.tripsCleared, .none, none, BitVec.ofNat 32 (latchedCount s), s.now⟩] }
        exec (.clearTrips tag) s =
          .next (answered tag .clearTrips .ok [BitVec.ofNat 8 (latchedCount s)] u) ∧
        u.mstop = false)

/-- Configure Trip by its checks in order (R147), and Read Trips, whose LATCHED view carries up to twelve
records in rank order and marks exactly those reported (R150). -/
def Obligations.TripTableRequests : Prop :=
  ∀ (tag : Byte) (s : State), Ready s →
    (∀ b cls set : Byte,
      (31 < b.toNat → exec (.configureTrip tag b cls set) s =
        .next (answered tag (.configureTrip b cls set) .badParam [1] s)) ∧
      ∀ k : Source, b.toNat = k.val →
        (30 ≤ k.val → exec (.configureTrip tag b cls set) s =
          .next (answered tag (.configureTrip b cls set) .badParam [2] s)) ∧
        (k.val < 30 → s.trips.records[k].latched = true → exec (.configureTrip tag b cls set) s =
          .next (answered tag (.configureTrip b cls set) .state [] s)) ∧
        (k.val < 30 → s.trips.records[k].latched = false →
          (1 < cls.toNat → exec (.configureTrip tag b cls set) s =
            .next (answered tag (.configureTrip b cls set) .badParam [3] s)) ∧
          (cls.toNat ≤ 1 → 31 < set.toNat → exec (.configureTrip tag b cls set) s =
            .next (answered tag (.configureTrip b cls set) .badParam [4] s)) ∧
          (cls.toNat ≤ 1 → set.toNat ≤ 31 → exec (.configureTrip tag b cls set) s =
            .next (answered tag (.configureTrip b cls set) .ok [] (s.onTrips fun t =>
              { t with
                records := t.records.set k.val
                  { s.trips.records[k] with
                    cls := if cls = 0 then .fastStop else .emergency
                    affected := set.setWidth 5 } }))))) ∧
    ∀ v first : Byte,
      ((1 < v.toNat ∨ (v = 0 ∧ (first.toNat = 0 ∨ 32 < first.toNat))) →
        exec (.readTrips tag v first) s =
          .next (answered tag (.readTrips v first) .badParam [0] s)) ∧
      (v = 1 → exec (.readTrips tag v first) s =
        .next (answered tag (.readTrips v first) .ok (configReply s) s) ∧
        (configReply s).length = 84) ∧
      (v = 0 → 1 ≤ first.toNat → first.toNat ≤ 32 → RanksSound s →
        ∃ (ks : List Source) (w : Vector TripRecord 32),
          (ks.map fun k => s.trips.records[k].rank) =
            List.range' first.toNat (min 12 (latchedCount s + 1 - first.toNat)) ∧
          (∀ k ∈ ks, s.trips.records[k].latched = true) ∧
          (∀ k : Source, w[k] =
            if k ∈ ks then { s.trips.records[k] with reported := true } else s.trips.records[k]) ∧
          exec (.readTrips tag v first) s =
            .next (answered tag (.readTrips v first) .ok (latchedReply s ks)
              (s.onTrips fun t => { t with records := w })))

/-- An emergency-stop line: a press sets PRESSED and raises ESTOP_x, which latches with the stop of its class
or only counts, and a release only sets RELEASED (R140, R131 to R134); and the stop-confirm timer's
expiry while WAITING escalates with STOP_UNCONFIRMED, whose stop ends a normal transaction on the link
(R136, R138, R173). That a line already at a level, and an expiry that is not due, change nothing is the
model's choice (log entries 3 and 4). -/
def Obligations.EstopAndConfirmExpiry : Prop :=
  ∀ s : State, Running s →
    (∀ (x : Fin 8) (low : Bool), s.trips.pressed[x] = low →
      exec (.estopLineChange x low) s = .next s) ∧
    (∀ x : Fin 8, s.trips.pressed[x] = true → exec (.estopLineChange x false) s =
      .next (s.onTrips fun t => { t with pressed := t.pressed.set x.val false })) ∧
    (∀ x : Fin 8, s.trips.pressed[x] = false →
      let k : Source := sourceIndex (.estop x)
      let r := s.trips.records[k]
      (r.latched = true → exec (.estopLineChange x true) s = .next (s.onTrips fun t =>
        { t with pressed := t.pressed.set x.val true,
                 records := t.records.set k.val { r with count := min 255 (r.count + 1) } })) ∧
      (r.latched = false → ∃ t : State, exec (.estopLineChange x true) s = .next t ∧
        t.trips.pressed = s.trips.pressed.set x.val true ∧
        t.trips.records = s.trips.records.set k.val { r with
          latched := true, rank := latchedCount s + 1, time := s.now, count := 1,
          reported := false, detail := x.val } ∧
        (r.cls = .emergency → t.mstop = true ∧ t.trips.stopWanted = .emergency ∧
          t.trips.confirm = s.trips.confirm ∧ t.trips.confirmT = s.trips.confirmT) ∧
        (r.cls = .fastStop → t.mstop = s.mstop ∧ t.trips.stopWanted =
          (if s.trips.stopWanted = .none then .fast else s.trips.stopWanted) ∧
          (s.trips.confirm = .idle →
            (t.trips.confirm = .waiting ∧ t.trips.confirmT = some ⟨s.now, s.mill.stopConfirm⟩) ∨
            (t.trips.confirm = .confirmed ∧ t.trips.confirmT = none)) ∧
          (s.trips.confirm ≠ .idle → t.trips.confirm = s.trips.confirm ∧
            t.trips.confirmT = s.trips.confirmT)) ∧
        ∀ i : Stand, r.affected.getLsbD i.val = true → s.actuators[i].state ≠ .open_ →
          s.actuators[i].state ≠ .opening → s.actuators[i].state ≠ .openFailed →
          t.actuators[i] = openingOf s i)) ∧
    ((s.trips.confirm ≠ .waiting ∨ s.trips.confirmT = none ∨
        ∃ tm : Timer, s.trips.confirmT = some tm ∧ (s.now - tm.start).toNat < tm.load) →
      exec .stopConfirmExpiry s = .next s) ∧
    ∀ tm : Timer, s.trips.confirm = .waiting → s.trips.confirmT = some tm →
      tm.load ≤ (s.now - tm.start).toNat →
      (s.trips.escalation = none → s.host.events.length < 48 →
        (∀ f, s.link.inFlight = some f →
          normalItem f.item = false ∨ s.trips.stopSent = .emergency) →
        exec .stopConfirmExpiry s = .next ((s.onTrips fun t =>
          { t with confirm := .expired, confirmT := none, escalation := some .stopUnconfirmed,
                   stopWanted := .emergency }).onHost fun h =>
          { h with events := h.events ++ [⟨.escalated, .none, none, 0, s.now⟩] })) ∧
      (s.trips.escalation = none → s.trips.stopSent ≠ .emergency →
        ∀ f : InFlight, s.link.inFlight = some f → normalItem f.item = true →
        ∃ t : State, exec .stopConfirmExpiry s = .next t ∧
          t.trips.escalation = some .stopUnconfirmed ∧ t.trips.stopWanted = .emergency ∧
          t.trips.confirm = .expired ∧ t.link.inFlight = none ∧ t.link.state = .free ∧
          t.link.respTimer = none ∧
          t.link.counters.abandoned = min 65535 (s.link.counters.abandoned + 1)) ∧
      (s.trips.escalation.isSome = true → exec .stopConfirmExpiry s = .next (s.onTrips fun t =>
        { t with confirm := .expired, confirmT := none }))

/-- What a report's fields do. A tension reading of a zone: untensioned or at the threshold or above it the
count becomes 0, else it rises, and at 2 or more STRIP_BREAK_z is raised (R141 to R143); a stand report
from stand 1 to N−1 carries such a reading, one from stand N none (log entry 18), and the confirmation
test of R135 follows. LOCAL releases an untripped stand (R120); open ends an opening with a matching
echo, or OPEN_FAILED with any (R124); in position completes a step or accepts a trim with a matching
echo (R114, R117); and nothing else moves the sequencer (R106). -/
def Obligations.ReportIndicationsAct : Prop :=
  (∀ (i : Stand) (r : StandReport) (s : State),
    let d : DriveState := if r.drive = 2 then .stopping else if r.drive = 3 then .stopped
      else .running
    let driven := s.onTrips fun t => { t with drive := t.drive.set i.val d }
    (∀ z : Fin 5, z.val = i.val + 1 → z.val < s.mill.n →
      protectStand i r s = confirmTest (tensionReading z r.tension.toNat driven)) ∧
    (s.mill.n ≤ i.val + 1 → protectStand i r s = confirmTest driven)) ∧
  (∀ (r : EntryReport) (s : State),
    let d : DriveState := if r.drive = 2 then .stopping else if r.drive = 3 then .stopped
      else .running
    protectEntry r s = confirmTest (tensionReading 0 r.tension.toNat
      (s.onTrips fun t => { t with driveEntry := d }))) ∧
  (∀ s : State, RolesUnique s →
    let stopping (r : Role) (d : DriveState) := ∃ a : Node, s.nodes[a].role = r ∧
      s.nodes[a].state = .present ∧ (d = .stopping ∨ d = .stopped)
    let holds := (s.mill.configured = true → stopping .entry s.trips.driveEntry) ∧
      ∀ i : Stand, s.stands[i].configured = true → i.val + 1 ≤ s.mill.n →
        stopping (.stand i) s.trips.drive[i]
    ((s.trips.confirm ≠ .waiting ∨ ¬ holds) → confirmTest s = s) ∧
    ∀ tm : Timer, s.trips.confirm = .waiting → s.trips.confirmT = some tm → holds →
      s.host.events.length < 48 → confirmTest s =
        (s.onTrips fun t => { t with confirm := .confirmed, confirmT := none }).onHost fun h =>
          { h with events := h.events ++ [⟨.stopConfirmed, .none, none, s.now - tm.start, s.now⟩] }) ∧
  (∀ (i : Stand) (r : StandReport) (s : State), s.host.events.length < 48 →
    let a := s.actuators[i]
    let base := s.onActuator i fun u => { u with reported := some r.position.toInt }
    let released := r.flags.getLsbD 2 = true ∧
      (a.state = .open_ ∨ a.state = .travel ∨ a.state = .settle ∨ a.state = .hold) ∧
      ∀ k : Source, s.trips.records[k].latched = true →
        s.trips.records[k].affected.getLsbD i.val = false
    let opened := r.flags.getLsbD 1 = true ∧ (a.state = .openFailed ∨ a.state = .opening ∧
      ∃ w, a.work = some w ∧ w.cmd = .open_ ∧ w.number = r.echo)
    let placed (w : Work) := r.flags.getLsbD 0 = true ∧ a.work = some w ∧ w.number = r.echo
    let noted (u : State) (code : EventCode) (v : BitVec 32) := u.onHost fun h =>
      { h with events := h.events ++ [⟨code, .stand i, none, v, s.now⟩] }
    (released → takeReport i r s = noted (base.onActuator i fun u =>
      { u with state := .released, work := none, settleT := none, moveT := none }) .standReleased
        (BitVec.ofNat 32 (actCode a.state))) ∧
    (opened → takeReport i r s = noted (base.onActuator i fun u =>
      { u with state := .open_, work := none, openT := none }) .standOpened
        (BitVec.ofNat 32 r.echo.toNat)) ∧
    (¬ released → a.state = .travel → ∀ (pos : Int) (w : Work), placed w → w.cmd = .travel pos →
      let done := base.onActuator i fun u => { u with p := pos, work := none, moveT := none }
      (a.t = some pos → 1 ≤ s.stands[i].settle → takeReport i r s = done.onActuator i fun u =>
        { u with state := .settle, settleT := some ⟨s.now, s.stands[i].settle⟩ }) ∧
      (a.t = some pos → s.stands[i].settle = 0 → takeReport i r s = done.onActuator i fun u =>
        { u with state := .hold, c := pos, settleT := none }) ∧
      ∀ tgt : Int, a.t = some tgt → tgt ≠ pos → takeReport i r s = done.onActuator i fun u =>
        { u with
          number := u.number + 1
          work := some ⟨.travel (wantedStep pos tgt s.stands[i].maxStep), u.number + 1,
            .queued⟩ }) ∧
    (¬ released → a.state = .hold → ∀ (v : Int) (w : Work), placed w → w.cmd = .trim v →
      let done := base.onActuator i fun u => { u with p := u.c + v, work := none }
      (a.t = some (a.c + v) → takeReport i r s = done) ∧
      ∀ tgt : Int, a.t = some tgt → tgt ≠ a.c + v →
        let banded := s.stands[i].mode = .band ∧ (tgt - a.c).natAbs ≤ s.stands[i].band
        (banded → takeReport i r s = done.onActuator i fun u =>
          { u with number := u.number + 1, work := some ⟨.trim (tgt - u.c), u.number + 1, .queued⟩ }) ∧
        (¬ banded → takeReport i r s = done.onActuator i fun u =>
          { u with
            state := .travel
            number := u.number + 1
            work := some ⟨.travel (wantedStep (a.c + v) tgt s.stands[i].maxStep), u.number + 1,
              .queued⟩ })) ∧
    (¬ released → ¬ opened →
      (∀ w, placed w → ¬ (a.state = .travel ∧ ∃ pos, w.cmd = .travel pos) ∧
        ¬ (a.state = .hold ∧ ∃ v, w.cmd = .trim v)) → takeReport i r s = base)) ∧
  ∀ (z : Fin 5) (tension : Nat) (s : State),
    let tight := z.val < s.mill.n ∧ s.track.mode ≠ .stopped ∧
      ∃ (c : Cell) (rest : List Cell), s.track.queue = c :: rest ∧ z.val < c.entries.length
    let threshold := match z.val with
      | 0 => s.mill.breakTension0
      | 1 => s.stands[(0 : Fin 5)].breakTension
      | 2 => s.stands[(1 : Fin 5)].breakTension
      | 3 => s.stands[(2 : Fin 5)].breakTension
      | _ => s.stands[(3 : Fin 5)].breakTension
    let counted (n : Nat) := s.onTrips fun t => { t with low := t.low.set z.val n }
    ((¬ tight ∨ threshold ≤ tension) → tensionReading z tension s = counted 0) ∧
    (tight → tension < threshold →
      (s.trips.low[z] = 0 → tensionReading z tension s = counted 1) ∧
      (1 ≤ s.trips.low[z] → tensionReading z tension s =
        raiseTrip (.stripBreak z) z.val (counted (min 255 (s.trips.low[z] + 1)))))

/-! ### Stand Link -/

/-- At an opportunity the part contends URGENT for urgent work, NORMAL for normal work unless it yields, else
not, and the yield is cleared; and winning it chooses the stop broadcast, else the lowest stand's
GAP_OPEN, else the next normal slot of the ring, or sends nothing (R161 to R163, R168, R174). That a win
while the part does not contend changes nothing is the model's reading (log entries 3 and 22). -/
def Obligations.ArbitrationChoosesWork : Prop :=
  ∀ s : State, LinkFree s →
    (UrgentWaits s → exec .arbitrationOpportunity s =
      .next (s.onLink fun l => { l with contending := some .urgent, yield := false })) ∧
    (¬ UrgentWaits s → NormalWaits s → s.link.yield = false → exec .arbitrationOpportunity s =
      .next (s.onLink fun l => { l with contending := some .normal, yield := false })) ∧
    (¬ UrgentWaits s → (¬ NormalWaits s ∨ s.link.yield = true) →
      exec .arbitrationOpportunity s =
        .next (s.onLink fun l => { l with contending := none, yield := false })) ∧
    (∀ nc : Bool, s.link.contending = none → exec (.arbitrationWon nc) s = .next s) ∧
    ∀ (cls : LinkClass) (nc : Bool), s.link.contending = some cls → RolesUnique s →
      let sent (item : Item) (a : Option Node) (ring : Fin 11) (yield : Bool) :=
        s.onLink fun l => { l with
          state := .part, contending := none, nodeContended := nc, ring := ring, yield := yield,
          inFlight := some ⟨item, cls, a, false⟩ }
      let stopWaits := stopRank s.trips.stopSent < stopRank s.trips.stopWanted
      let opens (i : Stand) := ∃ w : Work, s.actuators[i].work = some w ∧ w.cmd = .open_ ∧
        w.phase ≠ .moving
      let busy (r : Fin 11) := (∃ (i : Stand) (w : Work), r.val = i.val ∧
          s.actuators[i].work = some w ∧ w.cmd ≠ .open_ ∧ w.phase ≠ .moving) ∨
        ∃ p : Gauge, r.val = 5 + p.val ∧ s.gauges[p].phase = .placed
      (stopWaits → exec (.arbitrationWon nc) s =
        .next (sent (.stop s.trips.stopWanted true) none s.link.ring
          (nc && decide (cls = .normal)))) ∧
      (¬ stopWaits → ∀ (i : Stand) (w : Work) (a : Node), opens i →
        (∀ j : Stand, j < i → ¬ opens j) → s.actuators[i].work = some w →
        s.nodes[a].role = .stand i → exec (.arbitrationWon nc) s =
          .next ((sent (.gapOpen i w.number) (some a) s.link.ring
            (nc && decide (cls = .normal))).onActuator i fun u =>
              { u with work := some { w with phase := .inFlight } })) ∧
      (¬ stopWaits → (∀ i : Stand, ¬ opens i) → ∀ r : Fin 11, busy r →
        (∀ q : Fin 11, busy q → (r - s.link.ring - 1).val ≤ (q - s.link.ring - 1).val) →
        (∀ (i : Stand) (w : Work) (a : Node), r.val = i.val → s.actuators[i].work = some w →
          s.nodes[a].role = .stand i → exec (.arbitrationWon nc) s =
            .next ((sent (.gap i w.cmd w.number) (some a) r nc).onActuator i fun u =>
              { u with work := some { w with phase := .inFlight } })) ∧
        ∀ (p : Gauge) (a : Node), r.val = 5 + p.val → s.nodes[a].role = .gauge p →
          exec (.arbitrationWon nc) s =
            .next ((sent (.standardize p) (some a) r nc).onGauge p fun u =>
              { u with inFlight := true })) ∧
      (¬ UrgentWaits s → ¬ NormalWaits s → exec (.arbitrationWon nc) s =
        .next (s.onLink fun l => { l with contending := none, nodeContended := nc }))

/-- The pair reads the higher of two arbitration bytes, and every byte on it has an odd count of 1 bits
with its parity bit (R210). A node whose byte outranks the part's wins a FREE link, and HOLD's release
frees it, clears the stuck flag and discards the frame under reception (R161, R154, R169, R175). HOLD that
another party asserts during a LINK-RESET pulse and keeps makes the link NODE at the pulse's end (R176),
with no known sender (log entry 14). That a byte which does not outrank the part's wins nothing (log entry
22), and that a release on a FREE or PART link and a win on a NODE or PART one change nothing (log entry
3), is the model's choice. -/
def Obligations.NodeHoldsAndReleases : Prop :=
  (∀ a b : Byte,
    contest 8 [msbFirst a, msbFirst b] = msbFirst (if a.toNat < b.toNat then b else a) ∧
    (pairByte a).countP id % 2 = 1 ∧ (pairArbitration a true).countP id % 2 = 1 ∧
    ∀ k : Fin 8, (pairByte a)[k.val]? = some (a.getLsbD k.val) ∧
      (pairArbitration a true)[k.val]? = some (a.getLsbD (7 - k.val))) ∧
  (∀ (s : State) (urgent : Bool) (a : BitVec 4), LinkFree s → s.link.contending = none →
    exec (.nodeWinsArbitration urgent a) s = .next (s.onLink fun l =>
      { l with state := .node, holdOther := true, sender := some a, answer := none })) ∧
  (∀ (s : State) (urgent : Bool) (a : BitVec 4) (cls : LinkClass), LinkFree s →
    s.link.contending = some cls →
    ((urgent = true ∧ cls = .normal) → exec (.nodeWinsArbitration urgent a) s =
      .next (s.onLink fun l =>
        { l with state := .node, holdOther := true, sender := some a, answer := none,
                 nodeContended := true, contending := none })) ∧
    ((urgent = false ∨ cls = .urgent) → exec (.nodeWinsArbitration urgent a) s = .next s)) ∧
  ∀ s : State, Running s →
    (s.link.state = .node ∨ s.link.state = .part → ∀ (urgent : Bool) (a : BitVec 4),
      exec (.nodeWinsArbitration urgent a) s = .next s) ∧
    (s.link.state = .resetting → ∀ (urgent : Bool) (a : BitVec 4),
      ∃ t : State, exec (.nodeWinsArbitration urgent a) s = .next t ∧
        t = (s.onLink fun l => { l with holdOther := true }) ∧
        exec .linkResetPulseEnd t = .next (s.onLink fun l =>
          { l with state := .node, holdOther := true })) ∧
    (s.link.state = .node → s.link.inFlight = none → exec .holdReleased s =
      .next (s.onLink fun l => { l with
        state := .free, holdOther := false, stuck := false, sender := none, answer := none })) ∧
    (s.link.state = .resetting → exec .holdReleased s =
      .next (s.onLink fun l => { l with holdOther := false, stuck := false })) ∧
    (s.link.state = .free ∨ s.link.state = .part → exec .holdReleased s = .next s)

/-- The check byte of a transaction to a node starts the response timer; a STOP broadcast ends at its own,
becoming the stop sent; and no response within the timer ends a transaction as not delivered, with the
counter and the failure count risen, and hands it so to the owner of whichever item it carries (R164 to
R166, R134, R159, R178, R118, R123, R62), after the node's loss where it was the third failure (R160; the
order is log entry 10). That the expiry is judged by the microseconds its command
carries, and changes nothing before they reach the timer's load, is the model's choice (log entry 4). -/
def Obligations.TransactionsRunToTheirEnd : Prop :=
  ∀ (s : State) (f : InFlight), Running s → s.link.inFlight = some f → s.link.state = .part →
    ((∀ lv b, f.item ≠ .stop lv b) → f.frameSent = false → exec .txnFrameSent s =
      .next (s.onLink fun l => { l with
        inFlight := some { f with frameSent := true }
        respTimer := some (if s.mill.configured then s.mill.respUs else 2000) })) ∧
    (∀ lv : StopLevel, f.item = .stop lv true → exec .stopBroadcastSent s =
      .next ((s.onLink fun l =>
        { l with state := .free, inFlight := none, respTimer := none }).onTrips fun t =>
          { t with stopSent := if stopRank t.stopSent < stopRank lv then lv else t.stopSent })) ∧
    (∀ lv : StopLevel, f.item = .stop lv false → exec .stopBroadcastSent s =
      .next (s.onLink fun l =>
        { l with state := .free, inFlight := none, respTimer := none })) ∧
    (∀ elapsed load : Nat, f.frameSent = true → s.link.respTimer = some load →
      (elapsed < load → exec (.responseTimeout elapsed) s = .next s) ∧
      (load ≤ elapsed → ∀ a : Node, f.target = some a →
        (s.nodes[a].state ≠ .present ∨ s.nodes[a].failures < 2) →
        ∃ t : State, exec (.responseTimeout elapsed) s = .next t ∧
          NotDelivered f.item (unanswered a s) t) ∧
      (load ≤ elapsed → ∀ a : Node, f.target = some a → s.nodes[a].state = .present →
        2 ≤ s.nodes[a].failures → s.host.events.length < 48 →
        ∃ u t : State, exec (.responseTimeout elapsed) s = .next t ∧
          NodeGone a 1 (unanswered a s) u ∧ NotDelivered f.item u t))

/-- A response byte ends the part's transaction by its value (R164) and is handed to the slot's owner: a
step's ACCEPT sets it MOVING with p at its position (R113) and its REJECT is an actuator fault (R119), a
trim's ACCEPT moves p and its REJECT drops it (R117), a GAP_OPEN's ACCEPT sets it MOVING and its REJECT
makes the stand OPEN_FAILED and escalates (R123, R124, R138; the events' order is log entry 11), a
STANDARDIZE is ACCEPTED or held off (R62). BUSY, and CHECK_ERROR, a byte that is none of the four or one
with bad parity, which count as failures, are not delivered, for whichever item (R118, R123, R166), after
the node's loss where it was the third failure (R159, R160; the order is log entry 10); and
the outcome of work no longer current is not taken (R109). -/
def Obligations.ResponsesReachTheirOwners : Prop :=
  ∀ (s : State) (cls : LinkClass) (a : Node) (item : Item), Running s →
    s.link.inFlight = some ⟨item, cls, some a, true⟩ →
    (∀ (i : Stand) (pos : Int) (n : Byte), item = .gap i (.travel pos) n →
      s.actuators[i].work = some ⟨.travel pos, n, .inFlight⟩ →
      (exec (.responseByteReceived 0xA5 true) s = .next ((released a s).onActuator i fun u =>
        { u with p := pos, work := some ⟨.travel pos, n, .moving⟩,
                 moveT := some ⟨s.now, s.stands[i].moveTimeout⟩ })) ∧
      (s.actuators[i].state = .travel →
        ∃ t : State, exec (.responseByteReceived 0x5A true) s = .next t ∧
          t.actuators[i] = openingOf s i ∧
          t.trips.records[sourceIndex (.actuatorFault i)].latched = true)) ∧
    (∀ (i : Stand) (v t : Int) (n : Byte), item = .gap i (.trim v) n →
      s.actuators[i].work = some ⟨.trim v, n, .inFlight⟩ → s.actuators[i].t = some t →
      t = s.actuators[i].c + v →
      (exec (.responseByteReceived 0xA5 true) s = .next ((released a s).onActuator i fun u =>
        { u with p := t, work := none })) ∧
      (s.host.events.length < 48 → exec (.responseByteReceived 0x5A true) s =
        .next (((released a s).onActuator i fun u => { u with work := none }).onHost fun h =>
          { h with events := h.events ++
              [⟨.trimRejected, .stand i, none, BitVec.ofInt 32 v, s.now⟩] }))) ∧
    (∀ (i : Stand) (n : Byte), item = .gapOpen i n →
      s.actuators[i].work = some ⟨.open_, n, .inFlight⟩ →
      (exec (.responseByteReceived 0xA5 true) s = .next ((released a s).onActuator i fun u =>
        { u with work := some ⟨.open_, n, .moving⟩ })) ∧
      (let failed := (released a s).onActuator i fun u =>
        { u with state := .openFailed, work := none, openT := none }
       (s.trips.escalation = none → s.host.events.length ≤ 46 →
        exec (.responseByteReceived 0x5A true) s = .next ((failed.onTrips fun u =>
          { u with escalation := some .openFailed, stopWanted := .emergency }).onHost fun h =>
            { h with events := h.events ++ [⟨.escalated, .stand i, none, 1, s.now⟩,
              ⟨.standOpenFailed, .stand i, none, 1, s.now⟩] })) ∧
       (s.trips.escalation.isSome = true → s.host.events.length ≤ 47 →
        exec (.responseByteReceived 0x5A true) s = .next (failed.onHost fun h =>
          { h with events := h.events ++ [⟨.standOpenFailed, .stand i, none, 1, s.now⟩] })))) ∧
    (∀ p : Gauge, item = .standardize p → s.gauges[p].phase = .placed →
      s.gauges[p].inFlight = true →
      (exec (.responseByteReceived 0xA5 true) s = .next ((released a s).onGauge p fun r =>
        { r with phase := .accepted, inFlight := false })) ∧
      (s.host.events.length < 48 → exec (.responseByteReceived 0x5A true) s =
        .next (((released a s).onGauge p fun r =>
          { r with phase := .waiting, holdOff := true, inFlight := false }).onHost fun h =>
          { h with events := h.events ++ [⟨.gaugeStdRefused, .gauge p, none,
              BitVec.ofNat 32 (roundHalfUp s.gauges[p].length 1000000), s.now⟩] }))) ∧
    (∃ t : State, exec (.responseByteReceived 0x3C true) s = .next t ∧
      NotDelivered item (released a s) t) ∧
    (∀ (b : Byte) (parity : Bool), (parity = false ∨ b = 0xE1 ∨
        (b ≠ 0xA5 ∧ b ≠ 0x5A ∧ b ≠ 0x3C)) →
      ((s.nodes[a].state ≠ .present ∨ s.nodes[a].failures < 2) →
        ∃ t : State, exec (.responseByteReceived b parity) s = .next t ∧
          NotDelivered item (unanswered a s) t) ∧
      (s.nodes[a].state = .present → 2 ≤ s.nodes[a].failures → s.host.events.length < 48 →
        ∃ u t : State, exec (.responseByteReceived b parity) s = .next t ∧
          NodeGone a 1 (unanswered a s) u ∧ NotDelivered item u t)) ∧
    (∀ (i : Stand) (cmd : GapCommand) (n : Byte), item = .gap i cmd n →
      (∀ w : Work, s.actuators[i].work = some w → w.number ≠ n) →
      ∀ b : Byte, (b = 0xA5 ∨ b = 0x5A ∨ b = 0x3C) →
        exec (.responseByteReceived b true) s = .next (released a s))

/-- A node's frame by the checks of R169 in order: not for the part, no answer; damaged, CHECK_ERROR; of a
kind or length its sender's role does not admit, REJECT, with the sender's failure count risen, and at
the third failure a PRESENT sender of any role becomes LOST (R159, R160, R178); without a frame under
reception nothing (log entry 3). -/
def Obligations.NodeFrameChecks : Prop :=
  ∀ (s : State) (f : NodeFrame), Running s → s.link.inFlight = none →
    (s.link.state ≠ .node ∨ s.link.sender = none → exec (.nodeFrameRefused f) s = .next s) ∧
    (s.link.state = .node → ∀ from_ : BitVec 4, s.link.sender = some from_ →
      let forPart := f.targetParity = true ∧ f.target = 0x0F
      let whole := f.parity = true ∧
        crc8 ([f.target, f.kind, f.length, f.command] ++ f.payload) = f.check
      let admitted := ∃ a : Node, a.val = from_.toNat ∧
        ((∃ i : Stand, s.nodes[a].role = .stand i ∧ f.kind = 0x61 ∧ f.payload.length = 14) ∨
          (s.nodes[a].role = .entry ∧ f.kind = 0x62 ∧ f.payload.length = 8) ∨
          ∃ p : Gauge, s.nodes[a].role = .gauge p ∧ f.kind = 0x63 ∧ f.payload.length = 3)
      let rejected := (judged (some .reject) s).onLink fun l => { l with counters :=
        { l.counters with rejected := min 65535 (l.counters.rejected + 1) } }
      (¬ forPart → exec (.nodeFrameRefused f) s = .next (judged none s)) ∧
      (forPart → ¬ whole → exec (.nodeFrameRefused f) s =
        .next ((judged (some .checkError) s).onLink fun l => { l with counters :=
          { l.counters with checkErrors := min 65535 (l.counters.checkErrors + 1) } })) ∧
      (forPart → whole → ¬ admitted →
        (from_ = 15 → exec (.nodeFrameRefused f) s = .next rejected) ∧
        ∀ a : Node, a.val = from_.toNat →
          (s.nodes[a].state ≠ .present ∨ s.nodes[a].failures < 2 →
            exec (.nodeFrameRefused f) s = .next (rejected.onNode a fun n =>
              { n with failures := min 3 (n.failures + 1) })) ∧
          (s.nodes[a].state = .present → 2 ≤ s.nodes[a].failures → s.host.events.length < 48 →
            ∃ t : State, exec (.nodeFrameRefused f) s = .next t ∧
              NodeGone a 1 (rejected.onNode a fun n => { n with failures := 3 }) t)))

/-- A stuck link sets its flag with LINK_RESET, raises LINK_FAULT within 1,000 ms of the last link reset,
and makes a pulse, as Reset Stand Link does unless one is under way; a transaction of the part that the
pulse cuts ends ABANDONED, which its owner takes as not delivered; at the pulse's end the link state is
taken from HOLD (R154, R166, R175 to R178). That a detection within the limit, or on a link that is not
NODE, and an end outside a pulse change nothing (log entries 4 and 3), and that a pulse drops an arbitration
the part contends but has not yet won (log entry 33), is the model's choice. -/
def Obligations.StuckLinkAndPulse : Prop :=
  ∀ s : State, Running s →
    let pulsed (u : State) := { u with
      nodes := u.nodes.map fun n => { n with failures := 0 }
      link := { u.link with
        state := .resetting, inFlight := none, respTimer := none, sender := none, answer := none,
        contending := none, yield := false, lastReset := some s.now, counters :=
          { u.link.counters with resets := min 65535 (u.link.counters.resets + 1) } } }
    let limit := if s.mill.configured then s.mill.txnLimitUs else 20000
    let recent := ∃ t : Time, s.link.lastReset = some t ∧ (s.now - t).toNat < 1000
    let noticed (v : BitVec 32) := s.onHost fun h =>
      { h with events := h.events ++ [⟨.linkReset, .none, none, v, s.now⟩] }
    (∀ held : Nat, (s.link.state ≠ .node ∨ held ≤ limit) →
      exec (.stuckLinkDetected held) s = .next s) ∧
    (∀ held : Nat, s.link.state = .node → limit < held → s.link.inFlight = none →
      (¬ recent → s.link.stuck = false → s.host.events.length < 48 →
        exec (.stuckLinkDetected held) s =
          .next (pulsed ((noticed 0).onLink fun l => { l with stuck := true }))) ∧
      (¬ recent → s.link.stuck = true →
        exec (.stuckLinkDetected held) s = .next (pulsed s)) ∧
      (recent → ∃ t : State, exec (.stuckLinkDetected held) s = .next t ∧
        t.link = (pulsed (s.onLink fun l => { l with stuck := true })).link ∧
        t.trips.records[(30 : Source)].latched = true ∧
        (s.trips.records[(30 : Source)].latched = false →
          t.trips.records[(30 : Source)].rank = latchedCount s + 1) ∧
        ∀ a : Node, t.nodes[a] = { s.nodes[a] with failures := 0 })) ∧
    (s.link.state ≠ .resetting → exec .linkResetPulseEnd s = .next s) ∧
    (s.link.state = .resetting → s.link.holdOther = true → exec .linkResetPulseEnd s =
      .next (s.onLink fun l => { l with state := .node })) ∧
    (s.link.state = .resetting → s.link.holdOther = false → exec .linkResetPulseEnd s =
      .next (s.onLink fun l => { l with state := .free, stuck := false })) ∧
    ∀ tag : Byte, s.host.inputQueue = [] →
      (s.link.state = .resetting → exec (.resetStandLink tag) s =
        .next (answered tag .resetStandLink .ok [0, 3] s)) ∧
      (s.link.state ≠ .resetting → s.link.inFlight = none → s.host.events.length < 48 →
        exec (.resetStandLink tag) s =
          .next (answered tag .resetStandLink .ok [1, 3] (pulsed (noticed 1)))) ∧
      (s.link.state ≠ .resetting → s.host.events.length < 48 →
        ∀ f : InFlight, s.link.inFlight = some f →
        let cut := (pulsed (noticed 1)).onLink fun l => { l with counters :=
          { l.counters with abandoned := min 65535 (l.counters.abandoned + 1) } }
        ∃ t : State, NotDelivered f.item cut t ∧ exec (.resetStandLink tag) s =
          .next (answered tag .resetStandLink .ok [1, 3] t))

/-- The time base counts milliseconds and wraps, and a tick does nothing else, the silence test being a
command of its own (R1, log entry 4); and a PRESENT node silent for longer than SILENCE_MS becomes LOST,
with its trip unless tracking is STOPPED and its gauge ABSENT, while any other is untouched (R158, R160,
R144, R46). -/
def Obligations.SilenceLosesNodes : Prop :=
  ∀ s : State, Running s →
    exec .timeBaseTick s = .next { s with now := s.now + 1 } ∧
    ∀ a : Node,
      let limit := if s.mill.configured then s.mill.silenceMs else 1000
      let quiet := (s.now - s.nodes[a].lastFrame).toNat
      ((s.nodes[a].state ≠ .present ∨ quiet ≤ limit) → exec (.nodeSilence a) s = .next s) ∧
      (s.nodes[a].state = .present → limit < quiet → s.host.events.length < 48 →
        ∃ t : State, exec (.nodeSilence a) s = .next t ∧ NodeGone a 0 s t)
end

