-- ==== Sys2Proof/Laws/State.lean ====
section
/-! SUPPORT. One lemma per field per update of the state, each true by rfl, and what `upd` and `mapTable` read
at each place. -/

namespace Sys2Proof.Machine

/-- Reading a changed table: the changed place holds the changed value, every other place what it held. -/
@[simp] theorem upd_getElem {α : Type} {n : Nat} (v : Vector α n) (i : Fin n) (f : α → α) (k : Nat)
    (h : k < n) : (upd v i f)[k] = if k = i.val then f v[k] else v[k] := by
  simp only [upd, Vector.getElem_set, Fin.getElem_fin]
  by_cases e : i.val = k
  · subst e; simp
  · simp [e, Ne.symm e]

theorem upd_same {α : Type} {n : Nat} (v : Vector α n) (i : Fin n) (f : α → α) :
    (upd v i f)[i] = f v[i] := by simp

theorem upd_other {α : Type} {n : Nat} (v : Vector α n) (i j : Fin n) (f : α → α) (h : j ≠ i) :
    (upd v i f)[j] = v[j] := by simp [Fin.val_inj, h]

@[simp] theorem mapTable_getElem {α β : Type} {n : Nat} (v : Vector α n) (f : α → β) (k : Nat)
    (h : k < n) : (mapTable v f)[k] = f v[k] := by
  simp [mapTable]

@[simp] theorem State.onMill_power (s : State) (f : MillRecord → MillRecord) :
    (s.onMill f).power = s.power := rfl
@[simp] theorem State.onMill_now (s : State) (f : MillRecord → MillRecord) :
    (s.onMill f).now = s.now := rfl
@[simp] theorem State.onMill_straps (s : State) (f : MillRecord → MillRecord) :
    (s.onMill f).straps = s.straps := rfl
@[simp] theorem State.onMill_rateStraps (s : State) (f : MillRecord → MillRecord) :
    (s.onMill f).rateStraps = s.rateStraps := rfl
@[simp] theorem State.onMill_mill (s : State) (f : MillRecord → MillRecord) :
    (s.onMill f).mill = f s.mill := rfl
@[simp] theorem State.onMill_stands (s : State) (f : MillRecord → MillRecord) :
    (s.onMill f).stands = s.stands := rfl
@[simp] theorem State.onMill_track (s : State) (f : MillRecord → MillRecord) :
    (s.onMill f).track = s.track := rfl
@[simp] theorem State.onMill_gauges (s : State) (f : MillRecord → MillRecord) :
    (s.onMill f).gauges = s.gauges := rfl
@[simp] theorem State.onMill_store (s : State) (f : MillRecord → MillRecord) :
    (s.onMill f).store = s.store := rfl
@[simp] theorem State.onMill_demands (s : State) (f : MillRecord → MillRecord) :
    (s.onMill f).demands = s.demands := rfl
@[simp] theorem State.onMill_actuators (s : State) (f : MillRecord → MillRecord) :
    (s.onMill f).actuators = s.actuators := rfl
@[simp] theorem State.onMill_trips (s : State) (f : MillRecord → MillRecord) :
    (s.onMill f).trips = s.trips := rfl
@[simp] theorem State.onMill_nodes (s : State) (f : MillRecord → MillRecord) :
    (s.onMill f).nodes = s.nodes := rfl
@[simp] theorem State.onMill_link (s : State) (f : MillRecord → MillRecord) :
    (s.onMill f).link = s.link := rfl
@[simp] theorem State.onMill_host (s : State) (f : MillRecord → MillRecord) :
    (s.onMill f).host = s.host := rfl
@[simp] theorem State.onMill_pending (s : State) (f : MillRecord → MillRecord) :
    (s.onMill f).pending = s.pending := rfl
@[simp] theorem State.onStand_power (s : State) (i : Stand) (f : StandRecord → StandRecord) :
    (s.onStand i f).power = s.power := rfl
@[simp] theorem State.onStand_now (s : State) (i : Stand) (f : StandRecord → StandRecord) :
    (s.onStand i f).now = s.now := rfl
@[simp] theorem State.onStand_straps (s : State) (i : Stand) (f : StandRecord → StandRecord) :
    (s.onStand i f).straps = s.straps := rfl
@[simp] theorem State.onStand_rateStraps (s : State) (i : Stand) (f : StandRecord → StandRecord) :
    (s.onStand i f).rateStraps = s.rateStraps := rfl
@[simp] theorem State.onStand_mill (s : State) (i : Stand) (f : StandRecord → StandRecord) :
    (s.onStand i f).mill = s.mill := rfl
@[simp] theorem State.onStand_stands (s : State) (i : Stand) (f : StandRecord → StandRecord) :
    (s.onStand i f).stands = upd s.stands i f := rfl
@[simp] theorem State.onStand_track (s : State) (i : Stand) (f : StandRecord → StandRecord) :
    (s.onStand i f).track = s.track := rfl
@[simp] theorem State.onStand_gauges (s : State) (i : Stand) (f : StandRecord → StandRecord) :
    (s.onStand i f).gauges = s.gauges := rfl
@[simp] theorem State.onStand_store (s : State) (i : Stand) (f : StandRecord → StandRecord) :
    (s.onStand i f).store = s.store := rfl
@[simp] theorem State.onStand_demands (s : State) (i : Stand) (f : StandRecord → StandRecord) :
    (s.onStand i f).demands = s.demands := rfl
@[simp] theorem State.onStand_actuators (s : State) (i : Stand) (f : StandRecord → StandRecord) :
    (s.onStand i f).actuators = s.actuators := rfl
@[simp] theorem State.onStand_trips (s : State) (i : Stand) (f : StandRecord → StandRecord) :
    (s.onStand i f).trips = s.trips := rfl
@[simp] theorem State.onStand_nodes (s : State) (i : Stand) (f : StandRecord → StandRecord) :
    (s.onStand i f).nodes = s.nodes := rfl
@[simp] theorem State.onStand_link (s : State) (i : Stand) (f : StandRecord → StandRecord) :
    (s.onStand i f).link = s.link := rfl
@[simp] theorem State.onStand_host (s : State) (i : Stand) (f : StandRecord → StandRecord) :
    (s.onStand i f).host = s.host := rfl
@[simp] theorem State.onStand_pending (s : State) (i : Stand) (f : StandRecord → StandRecord) :
    (s.onStand i f).pending = s.pending := rfl
@[simp] theorem State.onTrack_power (s : State) (f : Track → Track) :
    (s.onTrack f).power = s.power := rfl
@[simp] theorem State.onTrack_now (s : State) (f : Track → Track) :
    (s.onTrack f).now = s.now := rfl
@[simp] theorem State.onTrack_straps (s : State) (f : Track → Track) :
    (s.onTrack f).straps = s.straps := rfl
@[simp] theorem State.onTrack_rateStraps (s : State) (f : Track → Track) :
    (s.onTrack f).rateStraps = s.rateStraps := rfl
@[simp] theorem State.onTrack_mill (s : State) (f : Track → Track) :
    (s.onTrack f).mill = s.mill := rfl
@[simp] theorem State.onTrack_stands (s : State) (f : Track → Track) :
    (s.onTrack f).stands = s.stands := rfl
@[simp] theorem State.onTrack_track (s : State) (f : Track → Track) :
    (s.onTrack f).track = f s.track := rfl
@[simp] theorem State.onTrack_gauges (s : State) (f : Track → Track) :
    (s.onTrack f).gauges = s.gauges := rfl
@[simp] theorem State.onTrack_store (s : State) (f : Track → Track) :
    (s.onTrack f).store = s.store := rfl
@[simp] theorem State.onTrack_demands (s : State) (f : Track → Track) :
    (s.onTrack f).demands = s.demands := rfl
@[simp] theorem State.onTrack_actuators (s : State) (f : Track → Track) :
    (s.onTrack f).actuators = s.actuators := rfl
@[simp] theorem State.onTrack_trips (s : State) (f : Track → Track) :
    (s.onTrack f).trips = s.trips := rfl
@[simp] theorem State.onTrack_nodes (s : State) (f : Track → Track) :
    (s.onTrack f).nodes = s.nodes := rfl
@[simp] theorem State.onTrack_link (s : State) (f : Track → Track) :
    (s.onTrack f).link = s.link := rfl
@[simp] theorem State.onTrack_host (s : State) (f : Track → Track) :
    (s.onTrack f).host = s.host := rfl
@[simp] theorem State.onTrack_pending (s : State) (f : Track → Track) :
    (s.onTrack f).pending = s.pending := rfl
@[simp] theorem State.onGauge_power (s : State) (p : Gauge) (f : GaugeRecord → GaugeRecord) :
    (s.onGauge p f).power = s.power := rfl
@[simp] theorem State.onGauge_now (s : State) (p : Gauge) (f : GaugeRecord → GaugeRecord) :
    (s.onGauge p f).now = s.now := rfl
@[simp] theorem State.onGauge_straps (s : State) (p : Gauge) (f : GaugeRecord → GaugeRecord) :
    (s.onGauge p f).straps = s.straps := rfl
@[simp] theorem State.onGauge_rateStraps (s : State) (p : Gauge) (f : GaugeRecord → GaugeRecord) :
    (s.onGauge p f).rateStraps = s.rateStraps := rfl
@[simp] theorem State.onGauge_mill (s : State) (p : Gauge) (f : GaugeRecord → GaugeRecord) :
    (s.onGauge p f).mill = s.mill := rfl
@[simp] theorem State.onGauge_stands (s : State) (p : Gauge) (f : GaugeRecord → GaugeRecord) :
    (s.onGauge p f).stands = s.stands := rfl
@[simp] theorem State.onGauge_track (s : State) (p : Gauge) (f : GaugeRecord → GaugeRecord) :
    (s.onGauge p f).track = s.track := rfl
@[simp] theorem State.onGauge_gauges (s : State) (p : Gauge) (f : GaugeRecord → GaugeRecord) :
    (s.onGauge p f).gauges = upd s.gauges p f := rfl
@[simp] theorem State.onGauge_store (s : State) (p : Gauge) (f : GaugeRecord → GaugeRecord) :
    (s.onGauge p f).store = s.store := rfl
@[simp] theorem State.onGauge_demands (s : State) (p : Gauge) (f : GaugeRecord → GaugeRecord) :
    (s.onGauge p f).demands = s.demands := rfl
@[simp] theorem State.onGauge_actuators (s : State) (p : Gauge) (f : GaugeRecord → GaugeRecord) :
    (s.onGauge p f).actuators = s.actuators := rfl
@[simp] theorem State.onGauge_trips (s : State) (p : Gauge) (f : GaugeRecord → GaugeRecord) :
    (s.onGauge p f).trips = s.trips := rfl
@[simp] theorem State.onGauge_nodes (s : State) (p : Gauge) (f : GaugeRecord → GaugeRecord) :
    (s.onGauge p f).nodes = s.nodes := rfl
@[simp] theorem State.onGauge_link (s : State) (p : Gauge) (f : GaugeRecord → GaugeRecord) :
    (s.onGauge p f).link = s.link := rfl
@[simp] theorem State.onGauge_host (s : State) (p : Gauge) (f : GaugeRecord → GaugeRecord) :
    (s.onGauge p f).host = s.host := rfl
@[simp] theorem State.onGauge_pending (s : State) (p : Gauge) (f : GaugeRecord → GaugeRecord) :
    (s.onGauge p f).pending = s.pending := rfl
@[simp] theorem State.onStore_power (s : State) (f : Store → Store) :
    (s.onStore f).power = s.power := rfl
@[simp] theorem State.onStore_now (s : State) (f : Store → Store) :
    (s.onStore f).now = s.now := rfl
@[simp] theorem State.onStore_straps (s : State) (f : Store → Store) :
    (s.onStore f).straps = s.straps := rfl
@[simp] theorem State.onStore_rateStraps (s : State) (f : Store → Store) :
    (s.onStore f).rateStraps = s.rateStraps := rfl
@[simp] theorem State.onStore_mill (s : State) (f : Store → Store) :
    (s.onStore f).mill = s.mill := rfl
@[simp] theorem State.onStore_stands (s : State) (f : Store → Store) :
    (s.onStore f).stands = s.stands := rfl
@[simp] theorem State.onStore_track (s : State) (f : Store → Store) :
    (s.onStore f).track = s.track := rfl
@[simp] theorem State.onStore_gauges (s : State) (f : Store → Store) :
    (s.onStore f).gauges = s.gauges := rfl
@[simp] theorem State.onStore_store (s : State) (f : Store → Store) :
    (s.onStore f).store = f s.store := rfl
@[simp] theorem State.onStore_demands (s : State) (f : Store → Store) :
    (s.onStore f).demands = s.demands := rfl
@[simp] theorem State.onStore_actuators (s : State) (f : Store → Store) :
    (s.onStore f).actuators = s.actuators := rfl
@[simp] theorem State.onStore_trips (s : State) (f : Store → Store) :
    (s.onStore f).trips = s.trips := rfl
@[simp] theorem State.onStore_nodes (s : State) (f : Store → Store) :
    (s.onStore f).nodes = s.nodes := rfl
@[simp] theorem State.onStore_link (s : State) (f : Store → Store) :
    (s.onStore f).link = s.link := rfl
@[simp] theorem State.onStore_host (s : State) (f : Store → Store) :
    (s.onStore f).host = s.host := rfl
@[simp] theorem State.onStore_pending (s : State) (f : Store → Store) :
    (s.onStore f).pending = s.pending := rfl
@[simp] theorem State.onDemand_power (s : State) (i : Stand) (f : DemandState → DemandState) :
    (s.onDemand i f).power = s.power := rfl
@[simp] theorem State.onDemand_now (s : State) (i : Stand) (f : DemandState → DemandState) :
    (s.onDemand i f).now = s.now := rfl
@[simp] theorem State.onDemand_straps (s : State) (i : Stand) (f : DemandState → DemandState) :
    (s.onDemand i f).straps = s.straps := rfl
@[simp] theorem State.onDemand_rateStraps (s : State) (i : Stand) (f : DemandState → DemandState) :
    (s.onDemand i f).rateStraps = s.rateStraps := rfl
@[simp] theorem State.onDemand_mill (s : State) (i : Stand) (f : DemandState → DemandState) :
    (s.onDemand i f).mill = s.mill := rfl
@[simp] theorem State.onDemand_stands (s : State) (i : Stand) (f : DemandState → DemandState) :
    (s.onDemand i f).stands = s.stands := rfl
@[simp] theorem State.onDemand_track (s : State) (i : Stand) (f : DemandState → DemandState) :
    (s.onDemand i f).track = s.track := rfl
@[simp] theorem State.onDemand_gauges (s : State) (i : Stand) (f : DemandState → DemandState) :
    (s.onDemand i f).gauges = s.gauges := rfl
@[simp] theorem State.onDemand_store (s : State) (i : Stand) (f : DemandState → DemandState) :
    (s.onDemand i f).store = s.store := rfl
@[simp] theorem State.onDemand_demands (s : State) (i : Stand) (f : DemandState → DemandState) :
    (s.onDemand i f).demands = upd s.demands i f := rfl
@[simp] theorem State.onDemand_actuators (s : State) (i : Stand) (f : DemandState → DemandState) :
    (s.onDemand i f).actuators = s.actuators := rfl
@[simp] theorem State.onDemand_trips (s : State) (i : Stand) (f : DemandState → DemandState) :
    (s.onDemand i f).trips = s.trips := rfl
@[simp] theorem State.onDemand_nodes (s : State) (i : Stand) (f : DemandState → DemandState) :
    (s.onDemand i f).nodes = s.nodes := rfl
@[simp] theorem State.onDemand_link (s : State) (i : Stand) (f : DemandState → DemandState) :
    (s.onDemand i f).link = s.link := rfl
@[simp] theorem State.onDemand_host (s : State) (i : Stand) (f : DemandState → DemandState) :
    (s.onDemand i f).host = s.host := rfl
@[simp] theorem State.onDemand_pending (s : State) (i : Stand) (f : DemandState → DemandState) :
    (s.onDemand i f).pending = s.pending := rfl
@[simp] theorem State.onActuator_power (s : State) (i : Stand) (f : Actuator → Actuator) :
    (s.onActuator i f).power = s.power := rfl
@[simp] theorem State.onActuator_now (s : State) (i : Stand) (f : Actuator → Actuator) :
    (s.onActuator i f).now = s.now := rfl
@[simp] theorem State.onActuator_straps (s : State) (i : Stand) (f : Actuator → Actuator) :
    (s.onActuator i f).straps = s.straps := rfl
@[simp] theorem State.onActuator_rateStraps (s : State) (i : Stand) (f : Actuator → Actuator) :
    (s.onActuator i f).rateStraps = s.rateStraps := rfl
@[simp] theorem State.onActuator_mill (s : State) (i : Stand) (f : Actuator → Actuator) :
    (s.onActuator i f).mill = s.mill := rfl
@[simp] theorem State.onActuator_stands (s : State) (i : Stand) (f : Actuator → Actuator) :
    (s.onActuator i f).stands = s.stands := rfl
@[simp] theorem State.onActuator_track (s : State) (i : Stand) (f : Actuator → Actuator) :
    (s.onActuator i f).track = s.track := rfl
@[simp] theorem State.onActuator_gauges (s : State) (i : Stand) (f : Actuator → Actuator) :
    (s.onActuator i f).gauges = s.gauges := rfl
@[simp] theorem State.onActuator_store (s : State) (i : Stand) (f : Actuator → Actuator) :
    (s.onActuator i f).store = s.store := rfl
@[simp] theorem State.onActuator_demands (s : State) (i : Stand) (f : Actuator → Actuator) :
    (s.onActuator i f).demands = s.demands := rfl
@[simp] theorem State.onActuator_actuators (s : State) (i : Stand) (f : Actuator → Actuator) :
    (s.onActuator i f).actuators = upd s.actuators i f := rfl
@[simp] theorem State.onActuator_trips (s : State) (i : Stand) (f : Actuator → Actuator) :
    (s.onActuator i f).trips = s.trips := rfl
@[simp] theorem State.onActuator_nodes (s : State) (i : Stand) (f : Actuator → Actuator) :
    (s.onActuator i f).nodes = s.nodes := rfl
@[simp] theorem State.onActuator_link (s : State) (i : Stand) (f : Actuator → Actuator) :
    (s.onActuator i f).link = s.link := rfl
@[simp] theorem State.onActuator_host (s : State) (i : Stand) (f : Actuator → Actuator) :
    (s.onActuator i f).host = s.host := rfl
@[simp] theorem State.onActuator_pending (s : State) (i : Stand) (f : Actuator → Actuator) :
    (s.onActuator i f).pending = s.pending := rfl
@[simp] theorem State.onTrips_power (s : State) (f : Trips → Trips) :
    (s.onTrips f).power = s.power := rfl
@[simp] theorem State.onTrips_now (s : State) (f : Trips → Trips) :
    (s.onTrips f).now = s.now := rfl
@[simp] theorem State.onTrips_straps (s : State) (f : Trips → Trips) :
    (s.onTrips f).straps = s.straps := rfl
@[simp] theorem State.onTrips_rateStraps (s : State) (f : Trips → Trips) :
    (s.onTrips f).rateStraps = s.rateStraps := rfl
@[simp] theorem State.onTrips_mill (s : State) (f : Trips → Trips) :
    (s.onTrips f).mill = s.mill := rfl
@[simp] theorem State.onTrips_stands (s : State) (f : Trips → Trips) :
    (s.onTrips f).stands = s.stands := rfl
@[simp] theorem State.onTrips_track (s : State) (f : Trips → Trips) :
    (s.onTrips f).track = s.track := rfl
@[simp] theorem State.onTrips_gauges (s : State) (f : Trips → Trips) :
    (s.onTrips f).gauges = s.gauges := rfl
@[simp] theorem State.onTrips_store (s : State) (f : Trips → Trips) :
    (s.onTrips f).store = s.store := rfl
@[simp] theorem State.onTrips_demands (s : State) (f : Trips → Trips) :
    (s.onTrips f).demands = s.demands := rfl
@[simp] theorem State.onTrips_actuators (s : State) (f : Trips → Trips) :
    (s.onTrips f).actuators = s.actuators := rfl
@[simp] theorem State.onTrips_trips (s : State) (f : Trips → Trips) :
    (s.onTrips f).trips = f s.trips := rfl
@[simp] theorem State.onTrips_nodes (s : State) (f : Trips → Trips) :
    (s.onTrips f).nodes = s.nodes := rfl
@[simp] theorem State.onTrips_link (s : State) (f : Trips → Trips) :
    (s.onTrips f).link = s.link := rfl
@[simp] theorem State.onTrips_host (s : State) (f : Trips → Trips) :
    (s.onTrips f).host = s.host := rfl
@[simp] theorem State.onTrips_pending (s : State) (f : Trips → Trips) :
    (s.onTrips f).pending = s.pending := rfl
@[simp] theorem State.onNode_power (s : State) (a : Node) (f : NodeEntry → NodeEntry) :
    (s.onNode a f).power = s.power := rfl
@[simp] theorem State.onNode_now (s : State) (a : Node) (f : NodeEntry → NodeEntry) :
    (s.onNode a f).now = s.now := rfl
@[simp] theorem State.onNode_straps (s : State) (a : Node) (f : NodeEntry → NodeEntry) :
    (s.onNode a f).straps = s.straps := rfl
@[simp] theorem State.onNode_rateStraps (s : State) (a : Node) (f : NodeEntry → NodeEntry) :
    (s.onNode a f).rateStraps = s.rateStraps := rfl
@[simp] theorem State.onNode_mill (s : State) (a : Node) (f : NodeEntry → NodeEntry) :
    (s.onNode a f).mill = s.mill := rfl
@[simp] theorem State.onNode_stands (s : State) (a : Node) (f : NodeEntry → NodeEntry) :
    (s.onNode a f).stands = s.stands := rfl
@[simp] theorem State.onNode_track (s : State) (a : Node) (f : NodeEntry → NodeEntry) :
    (s.onNode a f).track = s.track := rfl
@[simp] theorem State.onNode_gauges (s : State) (a : Node) (f : NodeEntry → NodeEntry) :
    (s.onNode a f).gauges = s.gauges := rfl
@[simp] theorem State.onNode_store (s : State) (a : Node) (f : NodeEntry → NodeEntry) :
    (s.onNode a f).store = s.store := rfl
@[simp] theorem State.onNode_demands (s : State) (a : Node) (f : NodeEntry → NodeEntry) :
    (s.onNode a f).demands = s.demands := rfl
@[simp] theorem State.onNode_actuators (s : State) (a : Node) (f : NodeEntry → NodeEntry) :
    (s.onNode a f).actuators = s.actuators := rfl
@[simp] theorem State.onNode_trips (s : State) (a : Node) (f : NodeEntry → NodeEntry) :
    (s.onNode a f).trips = s.trips := rfl
@[simp] theorem State.onNode_nodes (s : State) (a : Node) (f : NodeEntry → NodeEntry) :
    (s.onNode a f).nodes = upd s.nodes a f := rfl
@[simp] theorem State.onNode_link (s : State) (a : Node) (f : NodeEntry → NodeEntry) :
    (s.onNode a f).link = s.link := rfl
@[simp] theorem State.onNode_host (s : State) (a : Node) (f : NodeEntry → NodeEntry) :
    (s.onNode a f).host = s.host := rfl
@[simp] theorem State.onNode_pending (s : State) (a : Node) (f : NodeEntry → NodeEntry) :
    (s.onNode a f).pending = s.pending := rfl
@[simp] theorem State.onLink_power (s : State) (f : Link → Link) :
    (s.onLink f).power = s.power := rfl
@[simp] theorem State.onLink_now (s : State) (f : Link → Link) :
    (s.onLink f).now = s.now := rfl
@[simp] theorem State.onLink_straps (s : State) (f : Link → Link) :
    (s.onLink f).straps = s.straps := rfl
@[simp] theorem State.onLink_rateStraps (s : State) (f : Link → Link) :
    (s.onLink f).rateStraps = s.rateStraps := rfl
@[simp] theorem State.onLink_mill (s : State) (f : Link → Link) :
    (s.onLink f).mill = s.mill := rfl
@[simp] theorem State.onLink_stands (s : State) (f : Link → Link) :
    (s.onLink f).stands = s.stands := rfl
@[simp] theorem State.onLink_track (s : State) (f : Link → Link) :
    (s.onLink f).track = s.track := rfl
@[simp] theorem State.onLink_gauges (s : State) (f : Link → Link) :
    (s.onLink f).gauges = s.gauges := rfl
@[simp] theorem State.onLink_store (s : State) (f : Link → Link) :
    (s.onLink f).store = s.store := rfl
@[simp] theorem State.onLink_demands (s : State) (f : Link → Link) :
    (s.onLink f).demands = s.demands := rfl
@[simp] theorem State.onLink_actuators (s : State) (f : Link → Link) :
    (s.onLink f).actuators = s.actuators := rfl
@[simp] theorem State.onLink_trips (s : State) (f : Link → Link) :
    (s.onLink f).trips = s.trips := rfl
@[simp] theorem State.onLink_nodes (s : State) (f : Link → Link) :
    (s.onLink f).nodes = s.nodes := rfl
@[simp] theorem State.onLink_link (s : State) (f : Link → Link) :
    (s.onLink f).link = f s.link := rfl
@[simp] theorem State.onLink_host (s : State) (f : Link → Link) :
    (s.onLink f).host = s.host := rfl
@[simp] theorem State.onLink_pending (s : State) (f : Link → Link) :
    (s.onLink f).pending = s.pending := rfl
@[simp] theorem State.onHost_power (s : State) (f : HostPort → HostPort) :
    (s.onHost f).power = s.power := rfl
@[simp] theorem State.onHost_now (s : State) (f : HostPort → HostPort) :
    (s.onHost f).now = s.now := rfl
@[simp] theorem State.onHost_straps (s : State) (f : HostPort → HostPort) :
    (s.onHost f).straps = s.straps := rfl
@[simp] theorem State.onHost_rateStraps (s : State) (f : HostPort → HostPort) :
    (s.onHost f).rateStraps = s.rateStraps := rfl
@[simp] theorem State.onHost_mill (s : State) (f : HostPort → HostPort) :
    (s.onHost f).mill = s.mill := rfl
@[simp] theorem State.onHost_stands (s : State) (f : HostPort → HostPort) :
    (s.onHost f).stands = s.stands := rfl
@[simp] theorem State.onHost_track (s : State) (f : HostPort → HostPort) :
    (s.onHost f).track = s.track := rfl
@[simp] theorem State.onHost_gauges (s : State) (f : HostPort → HostPort) :
    (s.onHost f).gauges = s.gauges := rfl
@[simp] theorem State.onHost_store (s : State) (f : HostPort → HostPort) :
    (s.onHost f).store = s.store := rfl
@[simp] theorem State.onHost_demands (s : State) (f : HostPort → HostPort) :
    (s.onHost f).demands = s.demands := rfl
@[simp] theorem State.onHost_actuators (s : State) (f : HostPort → HostPort) :
    (s.onHost f).actuators = s.actuators := rfl
@[simp] theorem State.onHost_trips (s : State) (f : HostPort → HostPort) :
    (s.onHost f).trips = s.trips := rfl
@[simp] theorem State.onHost_nodes (s : State) (f : HostPort → HostPort) :
    (s.onHost f).nodes = s.nodes := rfl
@[simp] theorem State.onHost_link (s : State) (f : HostPort → HostPort) :
    (s.onHost f).link = s.link := rfl
@[simp] theorem State.onHost_host (s : State) (f : HostPort → HostPort) :
    (s.onHost f).host = f s.host := rfl
@[simp] theorem State.onHost_pending (s : State) (f : HostPort → HostPort) :
    (s.onHost f).pending = s.pending := rfl
@[simp] theorem State.withPending_power (s : State) (q : List Instr) :
    (s.withPending q).power = s.power := rfl
@[simp] theorem State.withPending_now (s : State) (q : List Instr) :
    (s.withPending q).now = s.now := rfl
@[simp] theorem State.withPending_straps (s : State) (q : List Instr) :
    (s.withPending q).straps = s.straps := rfl
@[simp] theorem State.withPending_rateStraps (s : State) (q : List Instr) :
    (s.withPending q).rateStraps = s.rateStraps := rfl
@[simp] theorem State.withPending_mill (s : State) (q : List Instr) :
    (s.withPending q).mill = s.mill := rfl
@[simp] theorem State.withPending_stands (s : State) (q : List Instr) :
    (s.withPending q).stands = s.stands := rfl
@[simp] theorem State.withPending_track (s : State) (q : List Instr) :
    (s.withPending q).track = s.track := rfl
@[simp] theorem State.withPending_gauges (s : State) (q : List Instr) :
    (s.withPending q).gauges = s.gauges := rfl
@[simp] theorem State.withPending_store (s : State) (q : List Instr) :
    (s.withPending q).store = s.store := rfl
@[simp] theorem State.withPending_demands (s : State) (q : List Instr) :
    (s.withPending q).demands = s.demands := rfl
@[simp] theorem State.withPending_actuators (s : State) (q : List Instr) :
    (s.withPending q).actuators = s.actuators := rfl
@[simp] theorem State.withPending_trips (s : State) (q : List Instr) :
    (s.withPending q).trips = s.trips := rfl
@[simp] theorem State.withPending_nodes (s : State) (q : List Instr) :
    (s.withPending q).nodes = s.nodes := rfl
@[simp] theorem State.withPending_link (s : State) (q : List Instr) :
    (s.withPending q).link = s.link := rfl
@[simp] theorem State.withPending_host (s : State) (q : List Instr) :
    (s.withPending q).host = s.host := rfl
@[simp] theorem State.withPending_pending (s : State) (q : List Instr) :
    (s.withPending q).pending = q := rfl

end Sys2Proof.Machine
end

