-- ==== Sys2Proof/Laws/Frames.lean ====
section
/-! SUPPORT. What each shared operation leaves alone: the parts of the state it never touches, and of the
host port everything but its events where it only raises events. -/

namespace Sys2Proof.Machine

theorem foldl_power {α : Type} (f : State → α → State) (h : ∀ s x, (f s x).power = s.power) (l : List α)
    (s : State) : (l.foldl f s).power = s.power := by
  induction l generalizing s with
  | nil => rfl
  | cons x l ih => rw [List.foldl_cons, ih, h]

theorem foldl_now {α : Type} (f : State → α → State) (h : ∀ s x, (f s x).now = s.now) (l : List α)
    (s : State) : (l.foldl f s).now = s.now := by
  induction l generalizing s with
  | nil => rfl
  | cons x l ih => rw [List.foldl_cons, ih, h]

theorem foldl_straps {α : Type} (f : State → α → State) (h : ∀ s x, (f s x).straps = s.straps) (l : List α)
    (s : State) : (l.foldl f s).straps = s.straps := by
  induction l generalizing s with
  | nil => rfl
  | cons x l ih => rw [List.foldl_cons, ih, h]

theorem foldl_rateStraps {α : Type} (f : State → α → State) (h : ∀ s x, (f s x).rateStraps = s.rateStraps) (l : List α)
    (s : State) : (l.foldl f s).rateStraps = s.rateStraps := by
  induction l generalizing s with
  | nil => rfl
  | cons x l ih => rw [List.foldl_cons, ih, h]

theorem foldl_mill {α : Type} (f : State → α → State) (h : ∀ s x, (f s x).mill = s.mill) (l : List α)
    (s : State) : (l.foldl f s).mill = s.mill := by
  induction l generalizing s with
  | nil => rfl
  | cons x l ih => rw [List.foldl_cons, ih, h]

theorem foldl_stands {α : Type} (f : State → α → State) (h : ∀ s x, (f s x).stands = s.stands) (l : List α)
    (s : State) : (l.foldl f s).stands = s.stands := by
  induction l generalizing s with
  | nil => rfl
  | cons x l ih => rw [List.foldl_cons, ih, h]

theorem foldl_track {α : Type} (f : State → α → State) (h : ∀ s x, (f s x).track = s.track) (l : List α)
    (s : State) : (l.foldl f s).track = s.track := by
  induction l generalizing s with
  | nil => rfl
  | cons x l ih => rw [List.foldl_cons, ih, h]

theorem foldl_gauges {α : Type} (f : State → α → State) (h : ∀ s x, (f s x).gauges = s.gauges) (l : List α)
    (s : State) : (l.foldl f s).gauges = s.gauges := by
  induction l generalizing s with
  | nil => rfl
  | cons x l ih => rw [List.foldl_cons, ih, h]

theorem foldl_store {α : Type} (f : State → α → State) (h : ∀ s x, (f s x).store = s.store) (l : List α)
    (s : State) : (l.foldl f s).store = s.store := by
  induction l generalizing s with
  | nil => rfl
  | cons x l ih => rw [List.foldl_cons, ih, h]

theorem foldl_demands {α : Type} (f : State → α → State) (h : ∀ s x, (f s x).demands = s.demands) (l : List α)
    (s : State) : (l.foldl f s).demands = s.demands := by
  induction l generalizing s with
  | nil => rfl
  | cons x l ih => rw [List.foldl_cons, ih, h]

theorem foldl_actuators {α : Type} (f : State → α → State) (h : ∀ s x, (f s x).actuators = s.actuators) (l : List α)
    (s : State) : (l.foldl f s).actuators = s.actuators := by
  induction l generalizing s with
  | nil => rfl
  | cons x l ih => rw [List.foldl_cons, ih, h]

theorem foldl_trips {α : Type} (f : State → α → State) (h : ∀ s x, (f s x).trips = s.trips) (l : List α)
    (s : State) : (l.foldl f s).trips = s.trips := by
  induction l generalizing s with
  | nil => rfl
  | cons x l ih => rw [List.foldl_cons, ih, h]

theorem foldl_nodes {α : Type} (f : State → α → State) (h : ∀ s x, (f s x).nodes = s.nodes) (l : List α)
    (s : State) : (l.foldl f s).nodes = s.nodes := by
  induction l generalizing s with
  | nil => rfl
  | cons x l ih => rw [List.foldl_cons, ih, h]

theorem foldl_link {α : Type} (f : State → α → State) (h : ∀ s x, (f s x).link = s.link) (l : List α)
    (s : State) : (l.foldl f s).link = s.link := by
  induction l generalizing s with
  | nil => rfl
  | cons x l ih => rw [List.foldl_cons, ih, h]

theorem foldl_host {α : Type} (f : State → α → State) (h : ∀ s x, (f s x).host = s.host) (l : List α)
    (s : State) : (l.foldl f s).host = s.host := by
  induction l generalizing s with
  | nil => rfl
  | cons x l ih => rw [List.foldl_cons, ih, h]

theorem foldl_pending {α : Type} (f : State → α → State) (h : ∀ s x, (f s x).pending = s.pending) (l : List α)
    (s : State) : (l.foldl f s).pending = s.pending := by
  induction l generalizing s with
  | nil => rfl
  | cons x l ih => rw [List.foldl_cons, ih, h]

theorem foldl_host_asm {α : Type} (f : State → α → State)
    (h : ∀ s x, (f s x).host.asm = s.host.asm) (l : List α) (s : State) :
    (l.foldl f s).host.asm = s.host.asm := by
  induction l generalizing s with
  | nil => rfl
  | cons x l ih => rw [List.foldl_cons, ih, h]

theorem foldl_host_content {α : Type} (f : State → α → State)
    (h : ∀ s x, (f s x).host.content = s.host.content) (l : List α) (s : State) :
    (l.foldl f s).host.content = s.host.content := by
  induction l generalizing s with
  | nil => rfl
  | cons x l ih => rw [List.foldl_cons, ih, h]

theorem foldl_host_inputQueue {α : Type} (f : State → α → State)
    (h : ∀ s x, (f s x).host.inputQueue = s.host.inputQueue) (l : List α) (s : State) :
    (l.foldl f s).host.inputQueue = s.host.inputQueue := by
  induction l generalizing s with
  | nil => rfl
  | cons x l ih => rw [List.foldl_cons, ih, h]

theorem foldl_host_reply {α : Type} (f : State → α → State)
    (h : ∀ s x, (f s x).host.reply = s.host.reply) (l : List α) (s : State) :
    (l.foldl f s).host.reply = s.host.reply := by
  induction l generalizing s with
  | nil => rfl
  | cons x l ih => rw [List.foldl_cons, ih, h]

theorem foldl_host_crcDrops {α : Type} (f : State → α → State)
    (h : ∀ s x, (f s x).host.crcDrops = s.host.crcDrops) (l : List α) (s : State) :
    (l.foldl f s).host.crcDrops = s.host.crcDrops := by
  induction l generalizing s with
  | nil => rfl
  | cons x l ih => rw [List.foldl_cons, ih, h]

theorem foldl_host_formatDrops {α : Type} (f : State → α → State)
    (h : ∀ s x, (f s x).host.formatDrops = s.host.formatDrops) (l : List α) (s : State) :
    (l.foldl f s).host.formatDrops = s.host.formatDrops := by
  induction l generalizing s with
  | nil => rfl
  | cons x l ih => rw [List.foldl_cons, ih, h]

theorem foldl_host_queueDrops {α : Type} (f : State → α → State)
    (h : ∀ s x, (f s x).host.queueDrops = s.host.queueDrops) (l : List α) (s : State) :
    (l.foldl f s).host.queueDrops = s.host.queueDrops := by
  induction l generalizing s with
  | nil => rfl
  | cons x l ih => rw [List.foldl_cons, ih, h]

theorem foldl_host_attention {α : Type} (f : State → α → State)
    (h : ∀ s x, (f s x).host.attention = s.host.attention) (l : List α) (s : State) :
    (l.foldl f s).host.attention = s.host.attention := by
  induction l generalizing s with
  | nil => rfl
  | cons x l ih => rw [List.foldl_cons, ih, h]

/-- What `raise` leaves as it was. -/
@[simp] theorem raise_frame (code : EventCode) (subject : Subject) (serial : Option Nat) (value : Int) (s : State) :
    (raise code subject serial value s).power = s.power ∧
    (raise code subject serial value s).now = s.now ∧
    (raise code subject serial value s).straps = s.straps ∧
    (raise code subject serial value s).rateStraps = s.rateStraps ∧
    (raise code subject serial value s).mill = s.mill ∧
    (raise code subject serial value s).stands = s.stands ∧
    (raise code subject serial value s).track = s.track ∧
    (raise code subject serial value s).gauges = s.gauges ∧
    (raise code subject serial value s).store = s.store ∧
    (raise code subject serial value s).demands = s.demands ∧
    (raise code subject serial value s).actuators = s.actuators ∧
    (raise code subject serial value s).trips = s.trips ∧
    (raise code subject serial value s).nodes = s.nodes ∧
    (raise code subject serial value s).link = s.link ∧
    (raise code subject serial value s).pending = s.pending ∧
    (raise code subject serial value s).host.asm = s.host.asm ∧
    (raise code subject serial value s).host.content = s.host.content ∧
    (raise code subject serial value s).host.inputQueue = s.host.inputQueue ∧
    (raise code subject serial value s).host.reply = s.host.reply ∧
    (raise code subject serial value s).host.crcDrops = s.host.crcDrops ∧
    (raise code subject serial value s).host.formatDrops = s.host.formatDrops ∧
    (raise code subject serial value s).host.queueDrops = s.host.queueDrops ∧
    (raise code subject serial value s).host.attention = s.host.attention := by
  simp only [raise]
  simp [apply_ite HostPort.asm, apply_ite HostPort.content, apply_ite HostPort.inputQueue, apply_ite HostPort.reply, apply_ite HostPort.crcDrops, apply_ite HostPort.formatDrops, apply_ite HostPort.queueDrops, apply_ite HostPort.attention]

/-- What `buildWork` leaves as it was. -/
@[simp] theorem buildWork_frame (i : Stand) (cmd : GapCommand) (s : State) :
    (buildWork i cmd s).power = s.power ∧
    (buildWork i cmd s).now = s.now ∧
    (buildWork i cmd s).straps = s.straps ∧
    (buildWork i cmd s).rateStraps = s.rateStraps ∧
    (buildWork i cmd s).mill = s.mill ∧
    (buildWork i cmd s).stands = s.stands ∧
    (buildWork i cmd s).track = s.track ∧
    (buildWork i cmd s).gauges = s.gauges ∧
    (buildWork i cmd s).store = s.store ∧
    (buildWork i cmd s).demands = s.demands ∧
    (buildWork i cmd s).trips = s.trips ∧
    (buildWork i cmd s).nodes = s.nodes ∧
    (buildWork i cmd s).link = s.link ∧
    (buildWork i cmd s).host = s.host ∧
    (buildWork i cmd s).pending = s.pending := by
  simp only [buildWork]
  simp

/-- What `putIntoOpening` leaves as it was. -/
@[simp] theorem putIntoOpening_frame (i : Stand) (s : State) :
    (putIntoOpening i s).power = s.power ∧
    (putIntoOpening i s).now = s.now ∧
    (putIntoOpening i s).straps = s.straps ∧
    (putIntoOpening i s).rateStraps = s.rateStraps ∧
    (putIntoOpening i s).mill = s.mill ∧
    (putIntoOpening i s).stands = s.stands ∧
    (putIntoOpening i s).track = s.track ∧
    (putIntoOpening i s).gauges = s.gauges ∧
    (putIntoOpening i s).store = s.store ∧
    (putIntoOpening i s).demands = s.demands ∧
    (putIntoOpening i s).trips = s.trips ∧
    (putIntoOpening i s).nodes = s.nodes ∧
    (putIntoOpening i s).link = s.link ∧
    (putIntoOpening i s).host = s.host ∧
    (putIntoOpening i s).pending = s.pending := by
  simp only [putIntoOpening]
  simp

/-- What `openNamed` leaves as it was. -/
@[simp] theorem openNamed_frame (affected : BitVec 5) (s : State) :
    (openNamed affected s).power = s.power ∧
    (openNamed affected s).now = s.now ∧
    (openNamed affected s).straps = s.straps ∧
    (openNamed affected s).rateStraps = s.rateStraps ∧
    (openNamed affected s).mill = s.mill ∧
    (openNamed affected s).stands = s.stands ∧
    (openNamed affected s).track = s.track ∧
    (openNamed affected s).gauges = s.gauges ∧
    (openNamed affected s).store = s.store ∧
    (openNamed affected s).demands = s.demands ∧
    (openNamed affected s).trips = s.trips ∧
    (openNamed affected s).nodes = s.nodes ∧
    (openNamed affected s).link = s.link ∧
    (openNamed affected s).host = s.host ∧
    (openNamed affected s).pending = s.pending := by
  simp only [openNamed]
  simp [foldl_power, foldl_now, foldl_straps, foldl_rateStraps, foldl_mill, foldl_stands, foldl_track, foldl_gauges, foldl_store, foldl_demands, foldl_trips, foldl_nodes, foldl_link, foldl_host, foldl_pending, apply_ite State.power, apply_ite State.now, apply_ite State.straps, apply_ite State.rateStraps, apply_ite State.mill, apply_ite State.stands, apply_ite State.track, apply_ite State.gauges, apply_ite State.store, apply_ite State.demands, apply_ite State.trips, apply_ite State.nodes, apply_ite State.link, apply_ite State.host, apply_ite State.pending]

/-- What `wantStop` leaves as it was. -/
@[simp] theorem wantStop_frame (l : StopLevel) (s : State) :
    (wantStop l s).power = s.power ∧
    (wantStop l s).now = s.now ∧
    (wantStop l s).straps = s.straps ∧
    (wantStop l s).rateStraps = s.rateStraps ∧
    (wantStop l s).mill = s.mill ∧
    (wantStop l s).stands = s.stands ∧
    (wantStop l s).track = s.track ∧
    (wantStop l s).gauges = s.gauges ∧
    (wantStop l s).store = s.store ∧
    (wantStop l s).demands = s.demands ∧
    (wantStop l s).actuators = s.actuators ∧
    (wantStop l s).nodes = s.nodes ∧
    (wantStop l s).link = s.link ∧
    (wantStop l s).host = s.host ∧
    (wantStop l s).pending = s.pending := by
  simp only [wantStop]
  simp

/-- What `confirmTest` leaves as it was. -/
@[simp] theorem confirmTest_frame (s : State) :
    (confirmTest s).power = s.power ∧
    (confirmTest s).now = s.now ∧
    (confirmTest s).straps = s.straps ∧
    (confirmTest s).rateStraps = s.rateStraps ∧
    (confirmTest s).mill = s.mill ∧
    (confirmTest s).stands = s.stands ∧
    (confirmTest s).track = s.track ∧
    (confirmTest s).gauges = s.gauges ∧
    (confirmTest s).store = s.store ∧
    (confirmTest s).demands = s.demands ∧
    (confirmTest s).actuators = s.actuators ∧
    (confirmTest s).nodes = s.nodes ∧
    (confirmTest s).link = s.link ∧
    (confirmTest s).pending = s.pending ∧
    (confirmTest s).host.asm = s.host.asm ∧
    (confirmTest s).host.content = s.host.content ∧
    (confirmTest s).host.inputQueue = s.host.inputQueue ∧
    (confirmTest s).host.reply = s.host.reply ∧
    (confirmTest s).host.crcDrops = s.host.crcDrops ∧
    (confirmTest s).host.formatDrops = s.host.formatDrops ∧
    (confirmTest s).host.queueDrops = s.host.queueDrops ∧
    (confirmTest s).host.attention = s.host.attention := by
  simp only [confirmTest]
  (repeat' split) <;> simp

/-- What `startConfirm` leaves as it was. -/
@[simp] theorem startConfirm_frame (s : State) :
    (startConfirm s).power = s.power ∧
    (startConfirm s).now = s.now ∧
    (startConfirm s).straps = s.straps ∧
    (startConfirm s).rateStraps = s.rateStraps ∧
    (startConfirm s).mill = s.mill ∧
    (startConfirm s).stands = s.stands ∧
    (startConfirm s).track = s.track ∧
    (startConfirm s).gauges = s.gauges ∧
    (startConfirm s).store = s.store ∧
    (startConfirm s).demands = s.demands ∧
    (startConfirm s).actuators = s.actuators ∧
    (startConfirm s).nodes = s.nodes ∧
    (startConfirm s).link = s.link ∧
    (startConfirm s).pending = s.pending ∧
    (startConfirm s).host.asm = s.host.asm ∧
    (startConfirm s).host.content = s.host.content ∧
    (startConfirm s).host.inputQueue = s.host.inputQueue ∧
    (startConfirm s).host.reply = s.host.reply ∧
    (startConfirm s).host.crcDrops = s.host.crcDrops ∧
    (startConfirm s).host.formatDrops = s.host.formatDrops ∧
    (startConfirm s).host.queueDrops = s.host.queueDrops ∧
    (startConfirm s).host.attention = s.host.attention := by
  simp only [startConfirm]
  simp

/-- What `latchActions` leaves as it was. -/
@[simp] theorem latchActions_frame (k : Source) (s : State) :
    (latchActions k s).power = s.power ∧
    (latchActions k s).now = s.now ∧
    (latchActions k s).straps = s.straps ∧
    (latchActions k s).rateStraps = s.rateStraps ∧
    (latchActions k s).mill = s.mill ∧
    (latchActions k s).stands = s.stands ∧
    (latchActions k s).track = s.track ∧
    (latchActions k s).gauges = s.gauges ∧
    (latchActions k s).store = s.store ∧
    (latchActions k s).demands = s.demands ∧
    (latchActions k s).nodes = s.nodes ∧
    (latchActions k s).link = s.link ∧
    (latchActions k s).pending = s.pending ∧
    (latchActions k s).host.asm = s.host.asm ∧
    (latchActions k s).host.content = s.host.content ∧
    (latchActions k s).host.inputQueue = s.host.inputQueue ∧
    (latchActions k s).host.reply = s.host.reply ∧
    (latchActions k s).host.crcDrops = s.host.crcDrops ∧
    (latchActions k s).host.formatDrops = s.host.formatDrops ∧
    (latchActions k s).host.queueDrops = s.host.queueDrops ∧
    (latchActions k s).host.attention = s.host.attention := by
  simp only [latchActions]
  (repeat' split) <;> simp

/-- What `latch` leaves as it was. -/
@[simp] theorem latch_frame (k : Source) (detail : Nat) (s : State) :
    (latch k detail s).power = s.power ∧
    (latch k detail s).now = s.now ∧
    (latch k detail s).straps = s.straps ∧
    (latch k detail s).rateStraps = s.rateStraps ∧
    (latch k detail s).mill = s.mill ∧
    (latch k detail s).stands = s.stands ∧
    (latch k detail s).track = s.track ∧
    (latch k detail s).gauges = s.gauges ∧
    (latch k detail s).store = s.store ∧
    (latch k detail s).demands = s.demands ∧
    (latch k detail s).nodes = s.nodes ∧
    (latch k detail s).link = s.link ∧
    (latch k detail s).pending = s.pending ∧
    (latch k detail s).host.asm = s.host.asm ∧
    (latch k detail s).host.content = s.host.content ∧
    (latch k detail s).host.inputQueue = s.host.inputQueue ∧
    (latch k detail s).host.reply = s.host.reply ∧
    (latch k detail s).host.crcDrops = s.host.crcDrops ∧
    (latch k detail s).host.formatDrops = s.host.formatDrops ∧
    (latch k detail s).host.queueDrops = s.host.queueDrops ∧
    (latch k detail s).host.attention = s.host.attention := by
  simp only [latch]
  simp

/-- What `recount` leaves as it was. -/
@[simp] theorem recount_frame (k : Source) (s : State) :
    (recount k s).power = s.power ∧
    (recount k s).now = s.now ∧
    (recount k s).straps = s.straps ∧
    (recount k s).rateStraps = s.rateStraps ∧
    (recount k s).mill = s.mill ∧
    (recount k s).stands = s.stands ∧
    (recount k s).track = s.track ∧
    (recount k s).gauges = s.gauges ∧
    (recount k s).store = s.store ∧
    (recount k s).demands = s.demands ∧
    (recount k s).actuators = s.actuators ∧
    (recount k s).nodes = s.nodes ∧
    (recount k s).link = s.link ∧
    (recount k s).host = s.host ∧
    (recount k s).pending = s.pending := by
  simp only [recount]
  simp

/-- What `raiseTrip` leaves as it was. -/
@[simp] theorem raiseTrip_frame (src : TripSource) (detail : Nat) (s : State) :
    (raiseTrip src detail s).power = s.power ∧
    (raiseTrip src detail s).now = s.now ∧
    (raiseTrip src detail s).straps = s.straps ∧
    (raiseTrip src detail s).rateStraps = s.rateStraps ∧
    (raiseTrip src detail s).mill = s.mill ∧
    (raiseTrip src detail s).stands = s.stands ∧
    (raiseTrip src detail s).track = s.track ∧
    (raiseTrip src detail s).gauges = s.gauges ∧
    (raiseTrip src detail s).store = s.store ∧
    (raiseTrip src detail s).demands = s.demands ∧
    (raiseTrip src detail s).nodes = s.nodes ∧
    (raiseTrip src detail s).link = s.link ∧
    (raiseTrip src detail s).pending = s.pending ∧
    (raiseTrip src detail s).host.asm = s.host.asm ∧
    (raiseTrip src detail s).host.content = s.host.content ∧
    (raiseTrip src detail s).host.inputQueue = s.host.inputQueue ∧
    (raiseTrip src detail s).host.reply = s.host.reply ∧
    (raiseTrip src detail s).host.crcDrops = s.host.crcDrops ∧
    (raiseTrip src detail s).host.formatDrops = s.host.formatDrops ∧
    (raiseTrip src detail s).host.queueDrops = s.host.queueDrops ∧
    (raiseTrip src detail s).host.attention = s.host.attention := by
  simp only [raiseTrip]
  (repeat' split) <;> simp

/-- What `escalate` leaves as it was. -/
@[simp] theorem escalate_frame (cause : EscalationCause) (subject : Subject) (s : State) :
    (escalate cause subject s).power = s.power ∧
    (escalate cause subject s).now = s.now ∧
    (escalate cause subject s).straps = s.straps ∧
    (escalate cause subject s).rateStraps = s.rateStraps ∧
    (escalate cause subject s).mill = s.mill ∧
    (escalate cause subject s).stands = s.stands ∧
    (escalate cause subject s).track = s.track ∧
    (escalate cause subject s).gauges = s.gauges ∧
    (escalate cause subject s).store = s.store ∧
    (escalate cause subject s).demands = s.demands ∧
    (escalate cause subject s).actuators = s.actuators ∧
    (escalate cause subject s).nodes = s.nodes ∧
    (escalate cause subject s).link = s.link ∧
    (escalate cause subject s).pending = s.pending ∧
    (escalate cause subject s).host.asm = s.host.asm ∧
    (escalate cause subject s).host.content = s.host.content ∧
    (escalate cause subject s).host.inputQueue = s.host.inputQueue ∧
    (escalate cause subject s).host.reply = s.host.reply ∧
    (escalate cause subject s).host.crcDrops = s.host.crcDrops ∧
    (escalate cause subject s).host.formatDrops = s.host.formatDrops ∧
    (escalate cause subject s).host.queueDrops = s.host.queueDrops ∧
    (escalate cause subject s).host.attention = s.host.attention := by
  simp only [escalate]
  (repeat' split) <;> simp

/-- What `applyTravel` leaves as it was. -/
@[simp] theorem applyTravel_frame (i : Stand) (s : State) :
    (applyTravel i s).power = s.power ∧
    (applyTravel i s).now = s.now ∧
    (applyTravel i s).straps = s.straps ∧
    (applyTravel i s).rateStraps = s.rateStraps ∧
    (applyTravel i s).mill = s.mill ∧
    (applyTravel i s).stands = s.stands ∧
    (applyTravel i s).track = s.track ∧
    (applyTravel i s).gauges = s.gauges ∧
    (applyTravel i s).store = s.store ∧
    (applyTravel i s).demands = s.demands ∧
    (applyTravel i s).trips = s.trips ∧
    (applyTravel i s).nodes = s.nodes ∧
    (applyTravel i s).link = s.link ∧
    (applyTravel i s).host = s.host ∧
    (applyTravel i s).pending = s.pending := by
  simp only [applyTravel]
  (repeat' split) <;> simp

/-- What `dropWork` leaves as it was. -/
@[simp] theorem dropWork_frame (i : Stand) (s : State) :
    (dropWork i s).power = s.power ∧
    (dropWork i s).now = s.now ∧
    (dropWork i s).straps = s.straps ∧
    (dropWork i s).rateStraps = s.rateStraps ∧
    (dropWork i s).mill = s.mill ∧
    (dropWork i s).stands = s.stands ∧
    (dropWork i s).track = s.track ∧
    (dropWork i s).gauges = s.gauges ∧
    (dropWork i s).store = s.store ∧
    (dropWork i s).demands = s.demands ∧
    (dropWork i s).trips = s.trips ∧
    (dropWork i s).nodes = s.nodes ∧
    (dropWork i s).link = s.link ∧
    (dropWork i s).host = s.host ∧
    (dropWork i s).pending = s.pending := by
  simp only [dropWork]
  simp

/-- What `enterTravel` leaves as it was. -/
@[simp] theorem enterTravel_frame (i : Stand) (s : State) :
    (enterTravel i s).power = s.power ∧
    (enterTravel i s).now = s.now ∧
    (enterTravel i s).straps = s.straps ∧
    (enterTravel i s).rateStraps = s.rateStraps ∧
    (enterTravel i s).mill = s.mill ∧
    (enterTravel i s).stands = s.stands ∧
    (enterTravel i s).track = s.track ∧
    (enterTravel i s).gauges = s.gauges ∧
    (enterTravel i s).store = s.store ∧
    (enterTravel i s).demands = s.demands ∧
    (enterTravel i s).trips = s.trips ∧
    (enterTravel i s).nodes = s.nodes ∧
    (enterTravel i s).link = s.link ∧
    (enterTravel i s).host = s.host ∧
    (enterTravel i s).pending = s.pending := by
  simp only [enterTravel]
  simp

/-- What `applyHold` leaves as it was. -/
@[simp] theorem applyHold_frame (i : Stand) (s : State) :
    (applyHold i s).power = s.power ∧
    (applyHold i s).now = s.now ∧
    (applyHold i s).straps = s.straps ∧
    (applyHold i s).rateStraps = s.rateStraps ∧
    (applyHold i s).mill = s.mill ∧
    (applyHold i s).stands = s.stands ∧
    (applyHold i s).track = s.track ∧
    (applyHold i s).gauges = s.gauges ∧
    (applyHold i s).store = s.store ∧
    (applyHold i s).demands = s.demands ∧
    (applyHold i s).trips = s.trips ∧
    (applyHold i s).nodes = s.nodes ∧
    (applyHold i s).link = s.link ∧
    (applyHold i s).host = s.host ∧
    (applyHold i s).pending = s.pending := by
  simp only [applyHold]
  (repeat' split) <;> simp

/-- What `newDemand` leaves as it was. -/
@[simp] theorem newDemand_frame (i : Stand) (d : Option Int) (s : State) :
    (newDemand i d s).power = s.power ∧
    (newDemand i d s).now = s.now ∧
    (newDemand i d s).straps = s.straps ∧
    (newDemand i d s).rateStraps = s.rateStraps ∧
    (newDemand i d s).mill = s.mill ∧
    (newDemand i d s).stands = s.stands ∧
    (newDemand i d s).track = s.track ∧
    (newDemand i d s).gauges = s.gauges ∧
    (newDemand i d s).store = s.store ∧
    (newDemand i d s).demands = s.demands ∧
    (newDemand i d s).trips = s.trips ∧
    (newDemand i d s).nodes = s.nodes ∧
    (newDemand i d s).link = s.link ∧
    (newDemand i d s).host = s.host ∧
    (newDemand i d s).pending = s.pending := by
  simp only [newDemand]
  (repeat' split) <;> simp

/-- What `settleExpire` leaves as it was. -/
@[simp] theorem settleExpire_frame (i : Stand) (s : State) :
    (settleExpire i s).power = s.power ∧
    (settleExpire i s).now = s.now ∧
    (settleExpire i s).straps = s.straps ∧
    (settleExpire i s).rateStraps = s.rateStraps ∧
    (settleExpire i s).mill = s.mill ∧
    (settleExpire i s).stands = s.stands ∧
    (settleExpire i s).track = s.track ∧
    (settleExpire i s).gauges = s.gauges ∧
    (settleExpire i s).store = s.store ∧
    (settleExpire i s).demands = s.demands ∧
    (settleExpire i s).trips = s.trips ∧
    (settleExpire i s).nodes = s.nodes ∧
    (settleExpire i s).link = s.link ∧
    (settleExpire i s).host = s.host ∧
    (settleExpire i s).pending = s.pending := by
  simp only [settleExpire]
  (repeat' split) <;> simp

/-- What `completeStep` leaves as it was. -/
@[simp] theorem completeStep_frame (i : Stand) (pos : Int) (s : State) :
    (completeStep i pos s).power = s.power ∧
    (completeStep i pos s).now = s.now ∧
    (completeStep i pos s).straps = s.straps ∧
    (completeStep i pos s).rateStraps = s.rateStraps ∧
    (completeStep i pos s).mill = s.mill ∧
    (completeStep i pos s).stands = s.stands ∧
    (completeStep i pos s).track = s.track ∧
    (completeStep i pos s).gauges = s.gauges ∧
    (completeStep i pos s).store = s.store ∧
    (completeStep i pos s).demands = s.demands ∧
    (completeStep i pos s).trips = s.trips ∧
    (completeStep i pos s).nodes = s.nodes ∧
    (completeStep i pos s).link = s.link ∧
    (completeStep i pos s).host = s.host ∧
    (completeStep i pos s).pending = s.pending := by
  simp only [completeStep]
  (repeat' split) <;> simp

/-- What `acceptTrim` leaves as it was. -/
@[simp] theorem acceptTrim_frame (i : Stand) (trim : Int) (s : State) :
    (acceptTrim i trim s).power = s.power ∧
    (acceptTrim i trim s).now = s.now ∧
    (acceptTrim i trim s).straps = s.straps ∧
    (acceptTrim i trim s).rateStraps = s.rateStraps ∧
    (acceptTrim i trim s).mill = s.mill ∧
    (acceptTrim i trim s).stands = s.stands ∧
    (acceptTrim i trim s).track = s.track ∧
    (acceptTrim i trim s).gauges = s.gauges ∧
    (acceptTrim i trim s).store = s.store ∧
    (acceptTrim i trim s).demands = s.demands ∧
    (acceptTrim i trim s).trips = s.trips ∧
    (acceptTrim i trim s).nodes = s.nodes ∧
    (acceptTrim i trim s).link = s.link ∧
    (acceptTrim i trim s).host = s.host ∧
    (acceptTrim i trim s).pending = s.pending := by
  simp only [acceptTrim]
  simp

/-- What `rejectTrim` leaves as it was. -/
@[simp] theorem rejectTrim_frame (i : Stand) (trim : Int) (s : State) :
    (rejectTrim i trim s).power = s.power ∧
    (rejectTrim i trim s).now = s.now ∧
    (rejectTrim i trim s).straps = s.straps ∧
    (rejectTrim i trim s).rateStraps = s.rateStraps ∧
    (rejectTrim i trim s).mill = s.mill ∧
    (rejectTrim i trim s).stands = s.stands ∧
    (rejectTrim i trim s).track = s.track ∧
    (rejectTrim i trim s).gauges = s.gauges ∧
    (rejectTrim i trim s).store = s.store ∧
    (rejectTrim i trim s).demands = s.demands ∧
    (rejectTrim i trim s).trips = s.trips ∧
    (rejectTrim i trim s).nodes = s.nodes ∧
    (rejectTrim i trim s).link = s.link ∧
    (rejectTrim i trim s).pending = s.pending ∧
    (rejectTrim i trim s).host.asm = s.host.asm ∧
    (rejectTrim i trim s).host.content = s.host.content ∧
    (rejectTrim i trim s).host.inputQueue = s.host.inputQueue ∧
    (rejectTrim i trim s).host.reply = s.host.reply ∧
    (rejectTrim i trim s).host.crcDrops = s.host.crcDrops ∧
    (rejectTrim i trim s).host.formatDrops = s.host.formatDrops ∧
    (rejectTrim i trim s).host.queueDrops = s.host.queueDrops ∧
    (rejectTrim i trim s).host.attention = s.host.attention := by
  simp only [rejectTrim]
  (repeat' split) <;> simp

/-- What `actuatorFault` leaves as it was. -/
@[simp] theorem actuatorFault_frame (i : Stand) (s : State) :
    (actuatorFault i s).power = s.power ∧
    (actuatorFault i s).now = s.now ∧
    (actuatorFault i s).straps = s.straps ∧
    (actuatorFault i s).rateStraps = s.rateStraps ∧
    (actuatorFault i s).mill = s.mill ∧
    (actuatorFault i s).stands = s.stands ∧
    (actuatorFault i s).track = s.track ∧
    (actuatorFault i s).gauges = s.gauges ∧
    (actuatorFault i s).store = s.store ∧
    (actuatorFault i s).demands = s.demands ∧
    (actuatorFault i s).nodes = s.nodes ∧
    (actuatorFault i s).link = s.link ∧
    (actuatorFault i s).pending = s.pending ∧
    (actuatorFault i s).host.asm = s.host.asm ∧
    (actuatorFault i s).host.content = s.host.content ∧
    (actuatorFault i s).host.inputQueue = s.host.inputQueue ∧
    (actuatorFault i s).host.reply = s.host.reply ∧
    (actuatorFault i s).host.crcDrops = s.host.crcDrops ∧
    (actuatorFault i s).host.formatDrops = s.host.formatDrops ∧
    (actuatorFault i s).host.queueDrops = s.host.queueDrops ∧
    (actuatorFault i s).host.attention = s.host.attention := by
  simp only [actuatorFault]
  (repeat' split) <;> simp

/-- What `openFailed` leaves as it was. -/
@[simp] theorem openFailed_frame (i : Stand) (cause : Int) (s : State) :
    (openFailed i cause s).power = s.power ∧
    (openFailed i cause s).now = s.now ∧
    (openFailed i cause s).straps = s.straps ∧
    (openFailed i cause s).rateStraps = s.rateStraps ∧
    (openFailed i cause s).mill = s.mill ∧
    (openFailed i cause s).stands = s.stands ∧
    (openFailed i cause s).track = s.track ∧
    (openFailed i cause s).gauges = s.gauges ∧
    (openFailed i cause s).store = s.store ∧
    (openFailed i cause s).demands = s.demands ∧
    (openFailed i cause s).nodes = s.nodes ∧
    (openFailed i cause s).link = s.link ∧
    (openFailed i cause s).pending = s.pending ∧
    (openFailed i cause s).host.asm = s.host.asm ∧
    (openFailed i cause s).host.content = s.host.content ∧
    (openFailed i cause s).host.inputQueue = s.host.inputQueue ∧
    (openFailed i cause s).host.reply = s.host.reply ∧
    (openFailed i cause s).host.crcDrops = s.host.crcDrops ∧
    (openFailed i cause s).host.formatDrops = s.host.formatDrops ∧
    (openFailed i cause s).host.queueDrops = s.host.queueDrops ∧
    (openFailed i cause s).host.attention = s.host.attention := by
  simp only [openFailed]
  simp

/-- What `requeue` leaves as it was. -/
@[simp] theorem requeue_frame (i : Stand) (w : Work) (s : State) :
    (requeue i w s).power = s.power ∧
    (requeue i w s).now = s.now ∧
    (requeue i w s).straps = s.straps ∧
    (requeue i w s).rateStraps = s.rateStraps ∧
    (requeue i w s).mill = s.mill ∧
    (requeue i w s).stands = s.stands ∧
    (requeue i w s).track = s.track ∧
    (requeue i w s).gauges = s.gauges ∧
    (requeue i w s).store = s.store ∧
    (requeue i w s).demands = s.demands ∧
    (requeue i w s).trips = s.trips ∧
    (requeue i w s).nodes = s.nodes ∧
    (requeue i w s).link = s.link ∧
    (requeue i w s).host = s.host ∧
    (requeue i w s).pending = s.pending := by
  simp only [requeue]
  simp

/-- What `takeOutcome` leaves as it was. -/
@[simp] theorem takeOutcome_frame (i : Stand) (number : Byte) (o : Handed) (s : State) :
    (takeOutcome i number o s).power = s.power ∧
    (takeOutcome i number o s).now = s.now ∧
    (takeOutcome i number o s).straps = s.straps ∧
    (takeOutcome i number o s).rateStraps = s.rateStraps ∧
    (takeOutcome i number o s).mill = s.mill ∧
    (takeOutcome i number o s).stands = s.stands ∧
    (takeOutcome i number o s).track = s.track ∧
    (takeOutcome i number o s).gauges = s.gauges ∧
    (takeOutcome i number o s).store = s.store ∧
    (takeOutcome i number o s).demands = s.demands ∧
    (takeOutcome i number o s).nodes = s.nodes ∧
    (takeOutcome i number o s).link = s.link ∧
    (takeOutcome i number o s).pending = s.pending ∧
    (takeOutcome i number o s).host.asm = s.host.asm ∧
    (takeOutcome i number o s).host.content = s.host.content ∧
    (takeOutcome i number o s).host.inputQueue = s.host.inputQueue ∧
    (takeOutcome i number o s).host.reply = s.host.reply ∧
    (takeOutcome i number o s).host.crcDrops = s.host.crcDrops ∧
    (takeOutcome i number o s).host.formatDrops = s.host.formatDrops ∧
    (takeOutcome i number o s).host.queueDrops = s.host.queueDrops ∧
    (takeOutcome i number o s).host.attention = s.host.attention := by
  simp only [takeOutcome]
  (repeat' split) <;> simp

/-- What `takeLocal` leaves as it was. -/
@[simp] theorem takeLocal_frame (i : Stand) (s : State) :
    (takeLocal i s).power = s.power ∧
    (takeLocal i s).now = s.now ∧
    (takeLocal i s).straps = s.straps ∧
    (takeLocal i s).rateStraps = s.rateStraps ∧
    (takeLocal i s).mill = s.mill ∧
    (takeLocal i s).stands = s.stands ∧
    (takeLocal i s).track = s.track ∧
    (takeLocal i s).gauges = s.gauges ∧
    (takeLocal i s).store = s.store ∧
    (takeLocal i s).demands = s.demands ∧
    (takeLocal i s).trips = s.trips ∧
    (takeLocal i s).nodes = s.nodes ∧
    (takeLocal i s).link = s.link ∧
    (takeLocal i s).pending = s.pending ∧
    (takeLocal i s).host.asm = s.host.asm ∧
    (takeLocal i s).host.content = s.host.content ∧
    (takeLocal i s).host.inputQueue = s.host.inputQueue ∧
    (takeLocal i s).host.reply = s.host.reply ∧
    (takeLocal i s).host.crcDrops = s.host.crcDrops ∧
    (takeLocal i s).host.formatDrops = s.host.formatDrops ∧
    (takeLocal i s).host.queueDrops = s.host.queueDrops ∧
    (takeLocal i s).host.attention = s.host.attention := by
  simp only [takeLocal]
  (repeat' split) <;> simp

/-- What `takeOpen` leaves as it was. -/
@[simp] theorem takeOpen_frame (i : Stand) (echo : Byte) (s : State) :
    (takeOpen i echo s).power = s.power ∧
    (takeOpen i echo s).now = s.now ∧
    (takeOpen i echo s).straps = s.straps ∧
    (takeOpen i echo s).rateStraps = s.rateStraps ∧
    (takeOpen i echo s).mill = s.mill ∧
    (takeOpen i echo s).stands = s.stands ∧
    (takeOpen i echo s).track = s.track ∧
    (takeOpen i echo s).gauges = s.gauges ∧
    (takeOpen i echo s).store = s.store ∧
    (takeOpen i echo s).demands = s.demands ∧
    (takeOpen i echo s).trips = s.trips ∧
    (takeOpen i echo s).nodes = s.nodes ∧
    (takeOpen i echo s).link = s.link ∧
    (takeOpen i echo s).pending = s.pending ∧
    (takeOpen i echo s).host.asm = s.host.asm ∧
    (takeOpen i echo s).host.content = s.host.content ∧
    (takeOpen i echo s).host.inputQueue = s.host.inputQueue ∧
    (takeOpen i echo s).host.reply = s.host.reply ∧
    (takeOpen i echo s).host.crcDrops = s.host.crcDrops ∧
    (takeOpen i echo s).host.formatDrops = s.host.formatDrops ∧
    (takeOpen i echo s).host.queueDrops = s.host.queueDrops ∧
    (takeOpen i echo s).host.attention = s.host.attention := by
  simp only [takeOpen]
  (repeat' split) <;> simp

/-- What `takeInPosition` leaves as it was. -/
@[simp] theorem takeInPosition_frame (i : Stand) (echo : Byte) (s : State) :
    (takeInPosition i echo s).power = s.power ∧
    (takeInPosition i echo s).now = s.now ∧
    (takeInPosition i echo s).straps = s.straps ∧
    (takeInPosition i echo s).rateStraps = s.rateStraps ∧
    (takeInPosition i echo s).mill = s.mill ∧
    (takeInPosition i echo s).stands = s.stands ∧
    (takeInPosition i echo s).track = s.track ∧
    (takeInPosition i echo s).gauges = s.gauges ∧
    (takeInPosition i echo s).store = s.store ∧
    (takeInPosition i echo s).demands = s.demands ∧
    (takeInPosition i echo s).trips = s.trips ∧
    (takeInPosition i echo s).nodes = s.nodes ∧
    (takeInPosition i echo s).link = s.link ∧
    (takeInPosition i echo s).host = s.host ∧
    (takeInPosition i echo s).pending = s.pending := by
  simp only [takeInPosition]
  (repeat' split) <;> simp

/-- What `takeReport` leaves as it was. -/
@[simp] theorem takeReport_frame (i : Stand) (r : StandReport) (s : State) :
    (takeReport i r s).power = s.power ∧
    (takeReport i r s).now = s.now ∧
    (takeReport i r s).straps = s.straps ∧
    (takeReport i r s).rateStraps = s.rateStraps ∧
    (takeReport i r s).mill = s.mill ∧
    (takeReport i r s).stands = s.stands ∧
    (takeReport i r s).track = s.track ∧
    (takeReport i r s).gauges = s.gauges ∧
    (takeReport i r s).store = s.store ∧
    (takeReport i r s).demands = s.demands ∧
    (takeReport i r s).trips = s.trips ∧
    (takeReport i r s).nodes = s.nodes ∧
    (takeReport i r s).link = s.link ∧
    (takeReport i r s).pending = s.pending ∧
    (takeReport i r s).host.asm = s.host.asm ∧
    (takeReport i r s).host.content = s.host.content ∧
    (takeReport i r s).host.inputQueue = s.host.inputQueue ∧
    (takeReport i r s).host.reply = s.host.reply ∧
    (takeReport i r s).host.crcDrops = s.host.crcDrops ∧
    (takeReport i r s).host.formatDrops = s.host.formatDrops ∧
    (takeReport i r s).host.queueDrops = s.host.queueDrops ∧
    (takeReport i r s).host.attention = s.host.attention := by
  simp only [takeReport]
  (repeat' split) <;> simp

/-- What `settleExpiry` leaves as it was. -/
@[simp] theorem settleExpiry_frame (i : Stand) (s : State) :
    (settleExpiry i s).power = s.power ∧
    (settleExpiry i s).now = s.now ∧
    (settleExpiry i s).straps = s.straps ∧
    (settleExpiry i s).rateStraps = s.rateStraps ∧
    (settleExpiry i s).mill = s.mill ∧
    (settleExpiry i s).stands = s.stands ∧
    (settleExpiry i s).track = s.track ∧
    (settleExpiry i s).gauges = s.gauges ∧
    (settleExpiry i s).store = s.store ∧
    (settleExpiry i s).demands = s.demands ∧
    (settleExpiry i s).trips = s.trips ∧
    (settleExpiry i s).nodes = s.nodes ∧
    (settleExpiry i s).link = s.link ∧
    (settleExpiry i s).host = s.host ∧
    (settleExpiry i s).pending = s.pending := by
  simp only [settleExpiry]
  (repeat' split) <;> simp

/-- What `moveExpiry` leaves as it was. -/
@[simp] theorem moveExpiry_frame (i : Stand) (s : State) :
    (moveExpiry i s).power = s.power ∧
    (moveExpiry i s).now = s.now ∧
    (moveExpiry i s).straps = s.straps ∧
    (moveExpiry i s).rateStraps = s.rateStraps ∧
    (moveExpiry i s).mill = s.mill ∧
    (moveExpiry i s).stands = s.stands ∧
    (moveExpiry i s).track = s.track ∧
    (moveExpiry i s).gauges = s.gauges ∧
    (moveExpiry i s).store = s.store ∧
    (moveExpiry i s).demands = s.demands ∧
    (moveExpiry i s).nodes = s.nodes ∧
    (moveExpiry i s).link = s.link ∧
    (moveExpiry i s).pending = s.pending ∧
    (moveExpiry i s).host.asm = s.host.asm ∧
    (moveExpiry i s).host.content = s.host.content ∧
    (moveExpiry i s).host.inputQueue = s.host.inputQueue ∧
    (moveExpiry i s).host.reply = s.host.reply ∧
    (moveExpiry i s).host.crcDrops = s.host.crcDrops ∧
    (moveExpiry i s).host.formatDrops = s.host.formatDrops ∧
    (moveExpiry i s).host.queueDrops = s.host.queueDrops ∧
    (moveExpiry i s).host.attention = s.host.attention := by
  simp only [moveExpiry]
  (repeat' split) <;> simp

/-- What `openExpiry` leaves as it was. -/
@[simp] theorem openExpiry_frame (i : Stand) (s : State) :
    (openExpiry i s).power = s.power ∧
    (openExpiry i s).now = s.now ∧
    (openExpiry i s).straps = s.straps ∧
    (openExpiry i s).rateStraps = s.rateStraps ∧
    (openExpiry i s).mill = s.mill ∧
    (openExpiry i s).stands = s.stands ∧
    (openExpiry i s).track = s.track ∧
    (openExpiry i s).gauges = s.gauges ∧
    (openExpiry i s).store = s.store ∧
    (openExpiry i s).demands = s.demands ∧
    (openExpiry i s).nodes = s.nodes ∧
    (openExpiry i s).link = s.link ∧
    (openExpiry i s).pending = s.pending ∧
    (openExpiry i s).host.asm = s.host.asm ∧
    (openExpiry i s).host.content = s.host.content ∧
    (openExpiry i s).host.inputQueue = s.host.inputQueue ∧
    (openExpiry i s).host.reply = s.host.reply ∧
    (openExpiry i s).host.crcDrops = s.host.crcDrops ∧
    (openExpiry i s).host.formatDrops = s.host.formatDrops ∧
    (openExpiry i s).host.queueDrops = s.host.queueDrops ∧
    (openExpiry i s).host.attention = s.host.attention := by
  simp only [openExpiry]
  (repeat' split) <;> simp

/-- What `confirmExpiry` leaves as it was. -/
@[simp] theorem confirmExpiry_frame (s : State) :
    (confirmExpiry s).power = s.power ∧
    (confirmExpiry s).now = s.now ∧
    (confirmExpiry s).straps = s.straps ∧
    (confirmExpiry s).rateStraps = s.rateStraps ∧
    (confirmExpiry s).mill = s.mill ∧
    (confirmExpiry s).stands = s.stands ∧
    (confirmExpiry s).track = s.track ∧
    (confirmExpiry s).gauges = s.gauges ∧
    (confirmExpiry s).store = s.store ∧
    (confirmExpiry s).demands = s.demands ∧
    (confirmExpiry s).actuators = s.actuators ∧
    (confirmExpiry s).nodes = s.nodes ∧
    (confirmExpiry s).link = s.link ∧
    (confirmExpiry s).pending = s.pending ∧
    (confirmExpiry s).host.asm = s.host.asm ∧
    (confirmExpiry s).host.content = s.host.content ∧
    (confirmExpiry s).host.inputQueue = s.host.inputQueue ∧
    (confirmExpiry s).host.reply = s.host.reply ∧
    (confirmExpiry s).host.crcDrops = s.host.crcDrops ∧
    (confirmExpiry s).host.formatDrops = s.host.formatDrops ∧
    (confirmExpiry s).host.queueDrops = s.host.queueDrops ∧
    (confirmExpiry s).host.attention = s.host.attention := by
  simp only [confirmExpiry]
  (repeat' split) <;> simp

/-- What `endDemand` leaves as it was. -/
@[simp] theorem endDemand_frame (i : Stand) (s : State) :
    (endDemand i s).power = s.power ∧
    (endDemand i s).now = s.now ∧
    (endDemand i s).straps = s.straps ∧
    (endDemand i s).rateStraps = s.rateStraps ∧
    (endDemand i s).mill = s.mill ∧
    (endDemand i s).stands = s.stands ∧
    (endDemand i s).track = s.track ∧
    (endDemand i s).gauges = s.gauges ∧
    (endDemand i s).store = s.store ∧
    (endDemand i s).trips = s.trips ∧
    (endDemand i s).nodes = s.nodes ∧
    (endDemand i s).link = s.link ∧
    (endDemand i s).host = s.host ∧
    (endDemand i s).pending = s.pending := by
  simp only [endDemand]
  (repeat' split) <;> simp

/-- What `composeDemand` leaves as it was. -/
@[simp] theorem composeDemand_frame (i : Stand) (s : State) :
    (composeDemand i s).power = s.power ∧
    (composeDemand i s).now = s.now ∧
    (composeDemand i s).straps = s.straps ∧
    (composeDemand i s).rateStraps = s.rateStraps ∧
    (composeDemand i s).mill = s.mill ∧
    (composeDemand i s).stands = s.stands ∧
    (composeDemand i s).track = s.track ∧
    (composeDemand i s).gauges = s.gauges ∧
    (composeDemand i s).store = s.store ∧
    (composeDemand i s).trips = s.trips ∧
    (composeDemand i s).nodes = s.nodes ∧
    (composeDemand i s).link = s.link ∧
    (composeDemand i s).pending = s.pending ∧
    (composeDemand i s).host.asm = s.host.asm ∧
    (composeDemand i s).host.content = s.host.content ∧
    (composeDemand i s).host.inputQueue = s.host.inputQueue ∧
    (composeDemand i s).host.reply = s.host.reply ∧
    (composeDemand i s).host.crcDrops = s.host.crcDrops ∧
    (composeDemand i s).host.formatDrops = s.host.formatDrops ∧
    (composeDemand i s).host.queueDrops = s.host.queueDrops ∧
    (composeDemand i s).host.attention = s.host.attention := by
  simp only [composeDemand]
  (repeat' split) <;> simp

/-- What `freezeMonitor` leaves as it was. -/
@[simp] theorem freezeMonitor_frame (i : Stand) (serial : Nat) (s : State) :
    (freezeMonitor i serial s).power = s.power ∧
    (freezeMonitor i serial s).now = s.now ∧
    (freezeMonitor i serial s).straps = s.straps ∧
    (freezeMonitor i serial s).rateStraps = s.rateStraps ∧
    (freezeMonitor i serial s).mill = s.mill ∧
    (freezeMonitor i serial s).stands = s.stands ∧
    (freezeMonitor i serial s).track = s.track ∧
    (freezeMonitor i serial s).gauges = s.gauges ∧
    (freezeMonitor i serial s).store = s.store ∧
    (freezeMonitor i serial s).actuators = s.actuators ∧
    (freezeMonitor i serial s).trips = s.trips ∧
    (freezeMonitor i serial s).nodes = s.nodes ∧
    (freezeMonitor i serial s).link = s.link ∧
    (freezeMonitor i serial s).host = s.host ∧
    (freezeMonitor i serial s).pending = s.pending := by
  simp only [freezeMonitor]
  simp

/-- What `endFreeze` leaves as it was. -/
@[simp] theorem endFreeze_frame (i : Stand) (y : Cell) (s : State) :
    (endFreeze i y s).power = s.power ∧
    (endFreeze i y s).now = s.now ∧
    (endFreeze i y s).straps = s.straps ∧
    (endFreeze i y s).rateStraps = s.rateStraps ∧
    (endFreeze i y s).mill = s.mill ∧
    (endFreeze i y s).stands = s.stands ∧
    (endFreeze i y s).track = s.track ∧
    (endFreeze i y s).gauges = s.gauges ∧
    (endFreeze i y s).store = s.store ∧
    (endFreeze i y s).actuators = s.actuators ∧
    (endFreeze i y s).trips = s.trips ∧
    (endFreeze i y s).nodes = s.nodes ∧
    (endFreeze i y s).link = s.link ∧
    (endFreeze i y s).host = s.host ∧
    (endFreeze i y s).pending = s.pending := by
  simp only [endFreeze]
  simp

/-- What `switchDemand` leaves as it was. -/
@[simp] theorem switchDemand_frame (i : Stand) (y : Cell) (new : Product) (s : State) :
    (switchDemand i y new s).power = s.power ∧
    (switchDemand i y new s).now = s.now ∧
    (switchDemand i y new s).straps = s.straps ∧
    (switchDemand i y new s).rateStraps = s.rateStraps ∧
    (switchDemand i y new s).mill = s.mill ∧
    (switchDemand i y new s).stands = s.stands ∧
    (switchDemand i y new s).track = s.track ∧
    (switchDemand i y new s).gauges = s.gauges ∧
    (switchDemand i y new s).store = s.store ∧
    (switchDemand i y new s).trips = s.trips ∧
    (switchDemand i y new s).nodes = s.nodes ∧
    (switchDemand i y new s).link = s.link ∧
    (switchDemand i y new s).pending = s.pending ∧
    (switchDemand i y new s).host.asm = s.host.asm ∧
    (switchDemand i y new s).host.content = s.host.content ∧
    (switchDemand i y new s).host.inputQueue = s.host.inputQueue ∧
    (switchDemand i y new s).host.reply = s.host.reply ∧
    (switchDemand i y new s).host.crcDrops = s.host.crcDrops ∧
    (switchDemand i y new s).host.formatDrops = s.host.formatDrops ∧
    (switchDemand i y new s).host.queueDrops = s.host.queueDrops ∧
    (switchDemand i y new s).host.attention = s.host.attention := by
  simp only [switchDemand]
  (repeat' split) <;> simp

/-- What `onCell` leaves as it was. -/
@[simp] theorem onCell_frame (serial : Nat) (f : Cell → Cell) (s : State) :
    (onCell serial f s).power = s.power ∧
    (onCell serial f s).now = s.now ∧
    (onCell serial f s).straps = s.straps ∧
    (onCell serial f s).rateStraps = s.rateStraps ∧
    (onCell serial f s).mill = s.mill ∧
    (onCell serial f s).stands = s.stands ∧
    (onCell serial f s).gauges = s.gauges ∧
    (onCell serial f s).store = s.store ∧
    (onCell serial f s).demands = s.demands ∧
    (onCell serial f s).actuators = s.actuators ∧
    (onCell serial f s).trips = s.trips ∧
    (onCell serial f s).nodes = s.nodes ∧
    (onCell serial f s).link = s.link ∧
    (onCell serial f s).host = s.host ∧
    (onCell serial f s).pending = s.pending := by
  simp only [onCell]
  simp

/-- What `onEntry` leaves as it was. -/
@[simp] theorem onEntry_frame (serial : Nat) (i : Stand) (f : StandEntry → StandEntry) (s : State) :
    (onEntry serial i f s).power = s.power ∧
    (onEntry serial i f s).now = s.now ∧
    (onEntry serial i f s).straps = s.straps ∧
    (onEntry serial i f s).rateStraps = s.rateStraps ∧
    (onEntry serial i f s).mill = s.mill ∧
    (onEntry serial i f s).stands = s.stands ∧
    (onEntry serial i f s).gauges = s.gauges ∧
    (onEntry serial i f s).store = s.store ∧
    (onEntry serial i f s).demands = s.demands ∧
    (onEntry serial i f s).actuators = s.actuators ∧
    (onEntry serial i f s).trips = s.trips ∧
    (onEntry serial i f s).nodes = s.nodes ∧
    (onEntry serial i f s).link = s.link ∧
    (onEntry serial i f s).host = s.host ∧
    (onEntry serial i f s).pending = s.pending := by
  simp only [onEntry]
  simp

/-- What `biteDemand` leaves as it was. -/
@[simp] theorem biteDemand_frame (i : Stand) (y : Cell) (s : State) :
    (biteDemand i y s).power = s.power ∧
    (biteDemand i y s).now = s.now ∧
    (biteDemand i y s).straps = s.straps ∧
    (biteDemand i y s).rateStraps = s.rateStraps ∧
    (biteDemand i y s).mill = s.mill ∧
    (biteDemand i y s).stands = s.stands ∧
    (biteDemand i y s).gauges = s.gauges ∧
    (biteDemand i y s).store = s.store ∧
    (biteDemand i y s).trips = s.trips ∧
    (biteDemand i y s).nodes = s.nodes ∧
    (biteDemand i y s).link = s.link ∧
    (biteDemand i y s).pending = s.pending ∧
    (biteDemand i y s).host.asm = s.host.asm ∧
    (biteDemand i y s).host.content = s.host.content ∧
    (biteDemand i y s).host.inputQueue = s.host.inputQueue ∧
    (biteDemand i y s).host.reply = s.host.reply ∧
    (biteDemand i y s).host.crcDrops = s.host.crcDrops ∧
    (biteDemand i y s).host.formatDrops = s.host.formatDrops ∧
    (biteDemand i y s).host.queueDrops = s.host.queueDrops ∧
    (biteDemand i y s).host.attention = s.host.attention := by
  simp only [biteDemand]
  simp

/-- What `monitorUpdate` leaves as it was. -/
@[simp] theorem monitorUpdate_frame (i : Stand) (x : Cell) (h : Nat) (s : State) :
    (monitorUpdate i x h s).power = s.power ∧
    (monitorUpdate i x h s).now = s.now ∧
    (monitorUpdate i x h s).straps = s.straps ∧
    (monitorUpdate i x h s).rateStraps = s.rateStraps ∧
    (monitorUpdate i x h s).mill = s.mill ∧
    (monitorUpdate i x h s).stands = s.stands ∧
    (monitorUpdate i x h s).gauges = s.gauges ∧
    (monitorUpdate i x h s).store = s.store ∧
    (monitorUpdate i x h s).trips = s.trips ∧
    (monitorUpdate i x h s).nodes = s.nodes ∧
    (monitorUpdate i x h s).link = s.link ∧
    (monitorUpdate i x h s).pending = s.pending ∧
    (monitorUpdate i x h s).host.asm = s.host.asm ∧
    (monitorUpdate i x h s).host.content = s.host.content ∧
    (monitorUpdate i x h s).host.inputQueue = s.host.inputQueue ∧
    (monitorUpdate i x h s).host.reply = s.host.reply ∧
    (monitorUpdate i x h s).host.crcDrops = s.host.crcDrops ∧
    (monitorUpdate i x h s).host.formatDrops = s.host.formatDrops ∧
    (monitorUpdate i x h s).host.queueDrops = s.host.queueDrops ∧
    (monitorUpdate i x h s).host.attention = s.host.attention := by
  simp only [monitorUpdate]
  (repeat' split) <;> simp

/-- What `takeMeasured` leaves as it was. -/
@[simp] theorem takeMeasured_frame (i : Stand) (x : Cell) (h : Nat) (s : State) :
    (takeMeasured i x h s).power = s.power ∧
    (takeMeasured i x h s).now = s.now ∧
    (takeMeasured i x h s).straps = s.straps ∧
    (takeMeasured i x h s).rateStraps = s.rateStraps ∧
    (takeMeasured i x h s).mill = s.mill ∧
    (takeMeasured i x h s).stands = s.stands ∧
    (takeMeasured i x h s).gauges = s.gauges ∧
    (takeMeasured i x h s).store = s.store ∧
    (takeMeasured i x h s).trips = s.trips ∧
    (takeMeasured i x h s).nodes = s.nodes ∧
    (takeMeasured i x h s).link = s.link ∧
    (takeMeasured i x h s).pending = s.pending ∧
    (takeMeasured i x h s).host.asm = s.host.asm ∧
    (takeMeasured i x h s).host.content = s.host.content ∧
    (takeMeasured i x h s).host.inputQueue = s.host.inputQueue ∧
    (takeMeasured i x h s).host.reply = s.host.reply ∧
    (takeMeasured i x h s).host.crcDrops = s.host.crcDrops ∧
    (takeMeasured i x h s).host.formatDrops = s.host.formatDrops ∧
    (takeMeasured i x h s).host.queueDrops = s.host.queueDrops ∧
    (takeMeasured i x h s).host.attention = s.host.attention := by
  simp only [takeMeasured]
  (repeat' split) <;> simp

/-- What `takeMassFlow` leaves as it was. -/
@[simp] theorem takeMassFlow_frame (i : Stand) (x : Cell) (m : MassFlow) (s : State) :
    (takeMassFlow i x m s).power = s.power ∧
    (takeMassFlow i x m s).now = s.now ∧
    (takeMassFlow i x m s).straps = s.straps ∧
    (takeMassFlow i x m s).rateStraps = s.rateStraps ∧
    (takeMassFlow i x m s).mill = s.mill ∧
    (takeMassFlow i x m s).stands = s.stands ∧
    (takeMassFlow i x m s).gauges = s.gauges ∧
    (takeMassFlow i x m s).store = s.store ∧
    (takeMassFlow i x m s).trips = s.trips ∧
    (takeMassFlow i x m s).nodes = s.nodes ∧
    (takeMassFlow i x m s).link = s.link ∧
    (takeMassFlow i x m s).pending = s.pending ∧
    (takeMassFlow i x m s).host.asm = s.host.asm ∧
    (takeMassFlow i x m s).host.content = s.host.content ∧
    (takeMassFlow i x m s).host.inputQueue = s.host.inputQueue ∧
    (takeMassFlow i x m s).host.reply = s.host.reply ∧
    (takeMassFlow i x m s).host.crcDrops = s.host.crcDrops ∧
    (takeMassFlow i x m s).host.formatDrops = s.host.formatDrops ∧
    (takeMassFlow i x m s).host.queueDrops = s.host.queueDrops ∧
    (takeMassFlow i x m s).host.attention = s.host.attention := by
  simp only [takeMassFlow]
  (repeat' split) <;> simp

/-- What `startDemands` leaves as it was. -/
@[simp] theorem startDemands_frame (s : State) :
    (startDemands s).power = s.power ∧
    (startDemands s).now = s.now ∧
    (startDemands s).straps = s.straps ∧
    (startDemands s).rateStraps = s.rateStraps ∧
    (startDemands s).mill = s.mill ∧
    (startDemands s).stands = s.stands ∧
    (startDemands s).track = s.track ∧
    (startDemands s).gauges = s.gauges ∧
    (startDemands s).store = s.store ∧
    (startDemands s).trips = s.trips ∧
    (startDemands s).nodes = s.nodes ∧
    (startDemands s).link = s.link ∧
    (startDemands s).pending = s.pending ∧
    (startDemands s).host.asm = s.host.asm ∧
    (startDemands s).host.content = s.host.content ∧
    (startDemands s).host.inputQueue = s.host.inputQueue ∧
    (startDemands s).host.reply = s.host.reply ∧
    (startDemands s).host.crcDrops = s.host.crcDrops ∧
    (startDemands s).host.formatDrops = s.host.formatDrops ∧
    (startDemands s).host.queueDrops = s.host.queueDrops ∧
    (startDemands s).host.attention = s.host.attention := by
  simp only [startDemands]
  exact ⟨(foldl_power _ (by intros; simp) _ _).trans (foldl_power _ (by intros; simp) _ _),
    (foldl_now _ (by intros; simp) _ _).trans (foldl_now _ (by intros; simp) _ _),
    (foldl_straps _ (by intros; simp) _ _).trans (foldl_straps _ (by intros; simp) _ _),
    (foldl_rateStraps _ (by intros; simp) _ _).trans (foldl_rateStraps _ (by intros; simp) _ _),
    (foldl_mill _ (by intros; simp) _ _).trans (foldl_mill _ (by intros; simp) _ _),
    (foldl_stands _ (by intros; simp) _ _).trans (foldl_stands _ (by intros; simp) _ _),
    (foldl_track _ (by intros; simp) _ _).trans (foldl_track _ (by intros; simp) _ _),
    (foldl_gauges _ (by intros; simp) _ _).trans (foldl_gauges _ (by intros; simp) _ _),
    (foldl_store _ (by intros; simp) _ _).trans (foldl_store _ (by intros; simp) _ _),
    (foldl_trips _ (by intros; simp) _ _).trans (foldl_trips _ (by intros; simp) _ _),
    (foldl_nodes _ (by intros; simp) _ _).trans (foldl_nodes _ (by intros; simp) _ _),
    (foldl_link _ (by intros; simp) _ _).trans (foldl_link _ (by intros; simp) _ _),
    (foldl_pending _ (by intros; simp) _ _).trans (foldl_pending _ (by intros; simp) _ _),
    (foldl_host_asm _ (by intros; simp) _ _).trans (foldl_host_asm _ (by intros; simp) _ _),
    (foldl_host_content _ (by intros; simp) _ _).trans (foldl_host_content _ (by intros; simp) _ _),
    (foldl_host_inputQueue _ (by intros; simp) _ _).trans (foldl_host_inputQueue _ (by intros; simp) _ _),
    (foldl_host_reply _ (by intros; simp) _ _).trans (foldl_host_reply _ (by intros; simp) _ _),
    (foldl_host_crcDrops _ (by intros; simp) _ _).trans (foldl_host_crcDrops _ (by intros; simp) _ _),
    (foldl_host_formatDrops _ (by intros; simp) _ _).trans (foldl_host_formatDrops _ (by intros; simp) _ _),
    (foldl_host_queueDrops _ (by intros; simp) _ _).trans (foldl_host_queueDrops _ (by intros; simp) _ _),
    (foldl_host_attention _ (by intros; simp) _ _).trans (foldl_host_attention _ (by intros; simp) _ _)⟩

/-- What `stopDemands` leaves as it was. -/
@[simp] theorem stopDemands_frame (s : State) :
    (stopDemands s).power = s.power ∧
    (stopDemands s).now = s.now ∧
    (stopDemands s).straps = s.straps ∧
    (stopDemands s).rateStraps = s.rateStraps ∧
    (stopDemands s).mill = s.mill ∧
    (stopDemands s).stands = s.stands ∧
    (stopDemands s).track = s.track ∧
    (stopDemands s).gauges = s.gauges ∧
    (stopDemands s).store = s.store ∧
    (stopDemands s).trips = s.trips ∧
    (stopDemands s).nodes = s.nodes ∧
    (stopDemands s).link = s.link ∧
    (stopDemands s).host = s.host ∧
    (stopDemands s).pending = s.pending := by
  simp only [stopDemands]
  simp [foldl_power, foldl_now, foldl_straps, foldl_rateStraps, foldl_mill, foldl_stands, foldl_track, foldl_gauges, foldl_store, foldl_trips, foldl_nodes, foldl_link, foldl_host, foldl_pending]

/-- What `reclampDemand` leaves as it was. -/
@[simp] theorem reclampDemand_frame (i : Stand) (s : State) :
    (reclampDemand i s).power = s.power ∧
    (reclampDemand i s).now = s.now ∧
    (reclampDemand i s).straps = s.straps ∧
    (reclampDemand i s).rateStraps = s.rateStraps ∧
    (reclampDemand i s).mill = s.mill ∧
    (reclampDemand i s).stands = s.stands ∧
    (reclampDemand i s).track = s.track ∧
    (reclampDemand i s).gauges = s.gauges ∧
    (reclampDemand i s).store = s.store ∧
    (reclampDemand i s).trips = s.trips ∧
    (reclampDemand i s).nodes = s.nodes ∧
    (reclampDemand i s).link = s.link ∧
    (reclampDemand i s).pending = s.pending ∧
    (reclampDemand i s).host.asm = s.host.asm ∧
    (reclampDemand i s).host.content = s.host.content ∧
    (reclampDemand i s).host.inputQueue = s.host.inputQueue ∧
    (reclampDemand i s).host.reply = s.host.reply ∧
    (reclampDemand i s).host.crcDrops = s.host.crcDrops ∧
    (reclampDemand i s).host.formatDrops = s.host.formatDrops ∧
    (reclampDemand i s).host.queueDrops = s.host.queueDrops ∧
    (reclampDemand i s).host.attention = s.host.attention := by
  simp only [reclampDemand]
  simp

/-- What `takeCoil` leaves as it was. -/
@[simp] theorem takeCoil_frame (kept : Product) (s : State) :
    (takeCoil kept s).power = s.power ∧
    (takeCoil kept s).now = s.now ∧
    (takeCoil kept s).straps = s.straps ∧
    (takeCoil kept s).rateStraps = s.rateStraps ∧
    (takeCoil kept s).mill = s.mill ∧
    (takeCoil kept s).stands = s.stands ∧
    (takeCoil kept s).track = s.track ∧
    (takeCoil kept s).gauges = s.gauges ∧
    (takeCoil kept s).demands = s.demands ∧
    (takeCoil kept s).actuators = s.actuators ∧
    (takeCoil kept s).trips = s.trips ∧
    (takeCoil kept s).nodes = s.nodes ∧
    (takeCoil kept s).link = s.link ∧
    (takeCoil kept s).pending = s.pending ∧
    (takeCoil kept s).host.asm = s.host.asm ∧
    (takeCoil kept s).host.content = s.host.content ∧
    (takeCoil kept s).host.inputQueue = s.host.inputQueue ∧
    (takeCoil kept s).host.reply = s.host.reply ∧
    (takeCoil kept s).host.crcDrops = s.host.crcDrops ∧
    (takeCoil kept s).host.formatDrops = s.host.formatDrops ∧
    (takeCoil kept s).host.queueDrops = s.host.queueDrops ∧
    (takeCoil kept s).host.attention = s.host.attention := by
  simp only [takeCoil]
  (repeat' split) <;> simp

/-- What `biteProduct` leaves as it was. -/
@[simp] theorem biteProduct_frame (i : Stand) (y : Cell) (s : State) :
    (biteProduct i y s).power = s.power ∧
    (biteProduct i y s).now = s.now ∧
    (biteProduct i y s).straps = s.straps ∧
    (biteProduct i y s).rateStraps = s.rateStraps ∧
    (biteProduct i y s).mill = s.mill ∧
    (biteProduct i y s).stands = s.stands ∧
    (biteProduct i y s).track = s.track ∧
    (biteProduct i y s).gauges = s.gauges ∧
    (biteProduct i y s).trips = s.trips ∧
    (biteProduct i y s).nodes = s.nodes ∧
    (biteProduct i y s).link = s.link ∧
    (biteProduct i y s).pending = s.pending ∧
    (biteProduct i y s).host.asm = s.host.asm ∧
    (biteProduct i y s).host.content = s.host.content ∧
    (biteProduct i y s).host.inputQueue = s.host.inputQueue ∧
    (biteProduct i y s).host.reply = s.host.reply ∧
    (biteProduct i y s).host.crcDrops = s.host.crcDrops ∧
    (biteProduct i y s).host.formatDrops = s.host.formatDrops ∧
    (biteProduct i y s).host.queueDrops = s.host.queueDrops ∧
    (biteProduct i y s).host.attention = s.host.attention := by
  simp only [biteProduct]
  (repeat' split) <;> simp

/-- What `startProducts` leaves as it was. -/
@[simp] theorem startProducts_frame (p : Product) (s : State) :
    (startProducts p s).power = s.power ∧
    (startProducts p s).now = s.now ∧
    (startProducts p s).straps = s.straps ∧
    (startProducts p s).rateStraps = s.rateStraps ∧
    (startProducts p s).mill = s.mill ∧
    (startProducts p s).stands = s.stands ∧
    (startProducts p s).track = s.track ∧
    (startProducts p s).gauges = s.gauges ∧
    (startProducts p s).demands = s.demands ∧
    (startProducts p s).actuators = s.actuators ∧
    (startProducts p s).trips = s.trips ∧
    (startProducts p s).nodes = s.nodes ∧
    (startProducts p s).link = s.link ∧
    (startProducts p s).host = s.host ∧
    (startProducts p s).pending = s.pending := by
  simp only [startProducts]
  simp [foldl_power, foldl_now, foldl_straps, foldl_rateStraps, foldl_mill, foldl_stands, foldl_track, foldl_gauges, foldl_demands, foldl_actuators, foldl_trips, foldl_nodes, foldl_link, foldl_host, foldl_pending, apply_ite State.power, apply_ite State.now, apply_ite State.straps, apply_ite State.rateStraps, apply_ite State.mill, apply_ite State.stands, apply_ite State.track, apply_ite State.gauges, apply_ite State.demands, apply_ite State.actuators, apply_ite State.trips, apply_ite State.nodes, apply_ite State.link, apply_ite State.host, apply_ite State.pending]

/-- What `stopProducts` leaves as it was. -/
@[simp] theorem stopProducts_frame (s : State) :
    (stopProducts s).power = s.power ∧
    (stopProducts s).now = s.now ∧
    (stopProducts s).straps = s.straps ∧
    (stopProducts s).rateStraps = s.rateStraps ∧
    (stopProducts s).mill = s.mill ∧
    (stopProducts s).stands = s.stands ∧
    (stopProducts s).track = s.track ∧
    (stopProducts s).gauges = s.gauges ∧
    (stopProducts s).demands = s.demands ∧
    (stopProducts s).actuators = s.actuators ∧
    (stopProducts s).trips = s.trips ∧
    (stopProducts s).nodes = s.nodes ∧
    (stopProducts s).link = s.link ∧
    (stopProducts s).host = s.host ∧
    (stopProducts s).pending = s.pending := by
  simp only [stopProducts]
  simp

/-- What `gaugeTests` leaves as it was. -/
@[simp] theorem gaugeTests_frame (p : Gauge) (s : State) :
    (gaugeTests p s).power = s.power ∧
    (gaugeTests p s).now = s.now ∧
    (gaugeTests p s).straps = s.straps ∧
    (gaugeTests p s).rateStraps = s.rateStraps ∧
    (gaugeTests p s).mill = s.mill ∧
    (gaugeTests p s).stands = s.stands ∧
    (gaugeTests p s).track = s.track ∧
    (gaugeTests p s).store = s.store ∧
    (gaugeTests p s).demands = s.demands ∧
    (gaugeTests p s).actuators = s.actuators ∧
    (gaugeTests p s).trips = s.trips ∧
    (gaugeTests p s).nodes = s.nodes ∧
    (gaugeTests p s).link = s.link ∧
    (gaugeTests p s).host = s.host ∧
    (gaugeTests p s).pending = s.pending := by
  simp only [gaugeTests]
  (repeat' split) <;> simp

/-- What `allGaugeTests` leaves as it was. -/
@[simp] theorem allGaugeTests_frame (s : State) :
    (allGaugeTests s).power = s.power ∧
    (allGaugeTests s).now = s.now ∧
    (allGaugeTests s).straps = s.straps ∧
    (allGaugeTests s).rateStraps = s.rateStraps ∧
    (allGaugeTests s).mill = s.mill ∧
    (allGaugeTests s).stands = s.stands ∧
    (allGaugeTests s).track = s.track ∧
    (allGaugeTests s).store = s.store ∧
    (allGaugeTests s).demands = s.demands ∧
    (allGaugeTests s).actuators = s.actuators ∧
    (allGaugeTests s).trips = s.trips ∧
    (allGaugeTests s).nodes = s.nodes ∧
    (allGaugeTests s).link = s.link ∧
    (allGaugeTests s).host = s.host ∧
    (allGaugeTests s).pending = s.pending := by
  simp only [allGaugeTests]
  simp [foldl_power, foldl_now, foldl_straps, foldl_rateStraps, foldl_mill, foldl_stands, foldl_track, foldl_store, foldl_demands, foldl_actuators, foldl_trips, foldl_nodes, foldl_link, foldl_host, foldl_pending]

/-- What `completeStd` leaves as it was. -/
@[simp] theorem completeStd_frame (p : Gauge) (s : State) :
    (completeStd p s).power = s.power ∧
    (completeStd p s).now = s.now ∧
    (completeStd p s).straps = s.straps ∧
    (completeStd p s).rateStraps = s.rateStraps ∧
    (completeStd p s).mill = s.mill ∧
    (completeStd p s).stands = s.stands ∧
    (completeStd p s).track = s.track ∧
    (completeStd p s).store = s.store ∧
    (completeStd p s).demands = s.demands ∧
    (completeStd p s).actuators = s.actuators ∧
    (completeStd p s).trips = s.trips ∧
    (completeStd p s).nodes = s.nodes ∧
    (completeStd p s).link = s.link ∧
    (completeStd p s).pending = s.pending ∧
    (completeStd p s).host.asm = s.host.asm ∧
    (completeStd p s).host.content = s.host.content ∧
    (completeStd p s).host.inputQueue = s.host.inputQueue ∧
    (completeStd p s).host.reply = s.host.reply ∧
    (completeStd p s).host.crcDrops = s.host.crcDrops ∧
    (completeStd p s).host.formatDrops = s.host.formatDrops ∧
    (completeStd p s).host.queueDrops = s.host.queueDrops ∧
    (completeStd p s).host.attention = s.host.attention := by
  simp only [completeStd]
  simp

/-- What `setGaugeMode` leaves as it was. -/
@[simp] theorem setGaugeMode_frame (p : Gauge) (new : GaugeMode) (s : State) :
    (setGaugeMode p new s).power = s.power ∧
    (setGaugeMode p new s).now = s.now ∧
    (setGaugeMode p new s).straps = s.straps ∧
    (setGaugeMode p new s).rateStraps = s.rateStraps ∧
    (setGaugeMode p new s).mill = s.mill ∧
    (setGaugeMode p new s).stands = s.stands ∧
    (setGaugeMode p new s).track = s.track ∧
    (setGaugeMode p new s).store = s.store ∧
    (setGaugeMode p new s).demands = s.demands ∧
    (setGaugeMode p new s).actuators = s.actuators ∧
    (setGaugeMode p new s).trips = s.trips ∧
    (setGaugeMode p new s).nodes = s.nodes ∧
    (setGaugeMode p new s).link = s.link ∧
    (setGaugeMode p new s).pending = s.pending ∧
    (setGaugeMode p new s).host.asm = s.host.asm ∧
    (setGaugeMode p new s).host.content = s.host.content ∧
    (setGaugeMode p new s).host.inputQueue = s.host.inputQueue ∧
    (setGaugeMode p new s).host.reply = s.host.reply ∧
    (setGaugeMode p new s).host.crcDrops = s.host.crcDrops ∧
    (setGaugeMode p new s).host.formatDrops = s.host.formatDrops ∧
    (setGaugeMode p new s).host.queueDrops = s.host.queueDrops ∧
    (setGaugeMode p new s).host.attention = s.host.attention := by
  simp only [setGaugeMode]
  (repeat' split) <;> simp

/-- What `discardSample` leaves as it was. -/
@[simp] theorem discardSample_frame (p : Gauge) (s : State) :
    (discardSample p s).power = s.power ∧
    (discardSample p s).now = s.now ∧
    (discardSample p s).straps = s.straps ∧
    (discardSample p s).rateStraps = s.rateStraps ∧
    (discardSample p s).mill = s.mill ∧
    (discardSample p s).stands = s.stands ∧
    (discardSample p s).track = s.track ∧
    (discardSample p s).store = s.store ∧
    (discardSample p s).demands = s.demands ∧
    (discardSample p s).actuators = s.actuators ∧
    (discardSample p s).trips = s.trips ∧
    (discardSample p s).nodes = s.nodes ∧
    (discardSample p s).link = s.link ∧
    (discardSample p s).host = s.host ∧
    (discardSample p s).pending = s.pending := by
  simp only [discardSample]
  simp

/-- What `attributeEntry` leaves as it was. -/
@[simp] theorem attributeEntry_frame (thickness : Nat) (s : State) :
    (attributeEntry thickness s).power = s.power ∧
    (attributeEntry thickness s).now = s.now ∧
    (attributeEntry thickness s).straps = s.straps ∧
    (attributeEntry thickness s).rateStraps = s.rateStraps ∧
    (attributeEntry thickness s).mill = s.mill ∧
    (attributeEntry thickness s).stands = s.stands ∧
    (attributeEntry thickness s).store = s.store ∧
    (attributeEntry thickness s).demands = s.demands ∧
    (attributeEntry thickness s).actuators = s.actuators ∧
    (attributeEntry thickness s).trips = s.trips ∧
    (attributeEntry thickness s).nodes = s.nodes ∧
    (attributeEntry thickness s).link = s.link ∧
    (attributeEntry thickness s).host = s.host ∧
    (attributeEntry thickness s).pending = s.pending := by
  simp only [attributeEntry]
  (repeat' split) <;> simp

/-- What `attributeAfter` leaves as it was. -/
@[simp] theorem attributeAfter_frame (i : Stand) (thickness : Nat) (s : State) :
    (attributeAfter i thickness s).power = s.power ∧
    (attributeAfter i thickness s).now = s.now ∧
    (attributeAfter i thickness s).straps = s.straps ∧
    (attributeAfter i thickness s).rateStraps = s.rateStraps ∧
    (attributeAfter i thickness s).mill = s.mill ∧
    (attributeAfter i thickness s).stands = s.stands ∧
    (attributeAfter i thickness s).store = s.store ∧
    (attributeAfter i thickness s).demands = s.demands ∧
    (attributeAfter i thickness s).actuators = s.actuators ∧
    (attributeAfter i thickness s).trips = s.trips ∧
    (attributeAfter i thickness s).nodes = s.nodes ∧
    (attributeAfter i thickness s).link = s.link ∧
    (attributeAfter i thickness s).host = s.host ∧
    (attributeAfter i thickness s).pending = s.pending := by
  simp only [attributeAfter]
  (repeat' split) <;> simp

/-- What `attributeSample` leaves as it was. -/
@[simp] theorem attributeSample_frame (p : Gauge) (thickness : Nat) (s : State) :
    (attributeSample p thickness s).power = s.power ∧
    (attributeSample p thickness s).now = s.now ∧
    (attributeSample p thickness s).straps = s.straps ∧
    (attributeSample p thickness s).rateStraps = s.rateStraps ∧
    (attributeSample p thickness s).mill = s.mill ∧
    (attributeSample p thickness s).stands = s.stands ∧
    (attributeSample p thickness s).store = s.store ∧
    (attributeSample p thickness s).demands = s.demands ∧
    (attributeSample p thickness s).actuators = s.actuators ∧
    (attributeSample p thickness s).trips = s.trips ∧
    (attributeSample p thickness s).nodes = s.nodes ∧
    (attributeSample p thickness s).link = s.link ∧
    (attributeSample p thickness s).host = s.host ∧
    (attributeSample p thickness s).pending = s.pending := by
  simp only [attributeSample]
  (repeat' split) <;> simp

/-- What `takeSample` leaves as it was. -/
@[simp] theorem takeSample_frame (p : Gauge) (r : GaugeSample) (s : State) :
    (takeSample p r s).power = s.power ∧
    (takeSample p r s).now = s.now ∧
    (takeSample p r s).straps = s.straps ∧
    (takeSample p r s).rateStraps = s.rateStraps ∧
    (takeSample p r s).mill = s.mill ∧
    (takeSample p r s).stands = s.stands ∧
    (takeSample p r s).store = s.store ∧
    (takeSample p r s).demands = s.demands ∧
    (takeSample p r s).actuators = s.actuators ∧
    (takeSample p r s).trips = s.trips ∧
    (takeSample p r s).nodes = s.nodes ∧
    (takeSample p r s).link = s.link ∧
    (takeSample p r s).pending = s.pending ∧
    (takeSample p r s).host.asm = s.host.asm ∧
    (takeSample p r s).host.content = s.host.content ∧
    (takeSample p r s).host.inputQueue = s.host.inputQueue ∧
    (takeSample p r s).host.reply = s.host.reply ∧
    (takeSample p r s).host.crcDrops = s.host.crcDrops ∧
    (takeSample p r s).host.formatDrops = s.host.formatDrops ∧
    (takeSample p r s).host.queueDrops = s.host.queueDrops ∧
    (takeSample p r s).host.attention = s.host.attention := by
  simp only [takeSample]
  (repeat' split) <;> simp

/-- What `gaugeLost` leaves as it was. -/
@[simp] theorem gaugeLost_frame (p : Gauge) (s : State) :
    (gaugeLost p s).power = s.power ∧
    (gaugeLost p s).now = s.now ∧
    (gaugeLost p s).straps = s.straps ∧
    (gaugeLost p s).rateStraps = s.rateStraps ∧
    (gaugeLost p s).mill = s.mill ∧
    (gaugeLost p s).stands = s.stands ∧
    (gaugeLost p s).track = s.track ∧
    (gaugeLost p s).store = s.store ∧
    (gaugeLost p s).demands = s.demands ∧
    (gaugeLost p s).actuators = s.actuators ∧
    (gaugeLost p s).trips = s.trips ∧
    (gaugeLost p s).nodes = s.nodes ∧
    (gaugeLost p s).link = s.link ∧
    (gaugeLost p s).pending = s.pending ∧
    (gaugeLost p s).host.asm = s.host.asm ∧
    (gaugeLost p s).host.content = s.host.content ∧
    (gaugeLost p s).host.inputQueue = s.host.inputQueue ∧
    (gaugeLost p s).host.reply = s.host.reply ∧
    (gaugeLost p s).host.crcDrops = s.host.crcDrops ∧
    (gaugeLost p s).host.formatDrops = s.host.formatDrops ∧
    (gaugeLost p s).host.queueDrops = s.host.queueDrops ∧
    (gaugeLost p s).host.attention = s.host.attention := by
  simp only [gaugeLost]
  simp

/-- What `finalise` leaves as it was. -/
@[simp] theorem finalise_frame (i : Stand) (x : Cell) (s : State) :
    (finalise i x s).power = s.power ∧
    (finalise i x s).now = s.now ∧
    (finalise i x s).straps = s.straps ∧
    (finalise i x s).rateStraps = s.rateStraps ∧
    (finalise i x s).mill = s.mill ∧
    (finalise i x s).stands = s.stands ∧
    (finalise i x s).gauges = s.gauges ∧
    (finalise i x s).store = s.store ∧
    (finalise i x s).trips = s.trips ∧
    (finalise i x s).nodes = s.nodes ∧
    (finalise i x s).link = s.link ∧
    (finalise i x s).pending = s.pending ∧
    (finalise i x s).host.asm = s.host.asm ∧
    (finalise i x s).host.content = s.host.content ∧
    (finalise i x s).host.inputQueue = s.host.inputQueue ∧
    (finalise i x s).host.reply = s.host.reply ∧
    (finalise i x s).host.crcDrops = s.host.crcDrops ∧
    (finalise i x s).host.formatDrops = s.host.formatDrops ∧
    (finalise i x s).host.queueDrops = s.host.queueDrops ∧
    (finalise i x s).host.attention = s.host.attention := by
  simp only [finalise]
  (repeat' split) <;> simp

/-- What `formMassFlow` leaves as it was. -/
@[simp] theorem formMassFlow_frame (i : Stand) (x : Cell) (stampY : Nat) (s : State) :
    (formMassFlow i x stampY s).power = s.power ∧
    (formMassFlow i x stampY s).now = s.now ∧
    (formMassFlow i x stampY s).straps = s.straps ∧
    (formMassFlow i x stampY s).rateStraps = s.rateStraps ∧
    (formMassFlow i x stampY s).mill = s.mill ∧
    (formMassFlow i x stampY s).stands = s.stands ∧
    (formMassFlow i x stampY s).gauges = s.gauges ∧
    (formMassFlow i x stampY s).store = s.store ∧
    (formMassFlow i x stampY s).trips = s.trips ∧
    (formMassFlow i x stampY s).nodes = s.nodes ∧
    (formMassFlow i x stampY s).link = s.link ∧
    (formMassFlow i x stampY s).pending = s.pending ∧
    (formMassFlow i x stampY s).host.asm = s.host.asm ∧
    (formMassFlow i x stampY s).host.content = s.host.content ∧
    (formMassFlow i x stampY s).host.inputQueue = s.host.inputQueue ∧
    (formMassFlow i x stampY s).host.reply = s.host.reply ∧
    (formMassFlow i x stampY s).host.crcDrops = s.host.crcDrops ∧
    (formMassFlow i x stampY s).host.formatDrops = s.host.formatDrops ∧
    (formMassFlow i x stampY s).host.queueDrops = s.host.queueDrops ∧
    (formMassFlow i x stampY s).host.attention = s.host.attention := by
  simp only [formMassFlow]
  (repeat' split) <;> simp

/-- What `growLength` leaves as it was. -/
@[simp] theorem growLength_frame (p : Gauge) (amount : Nat) (s : State) :
    (growLength p amount s).power = s.power ∧
    (growLength p amount s).now = s.now ∧
    (growLength p amount s).straps = s.straps ∧
    (growLength p amount s).rateStraps = s.rateStraps ∧
    (growLength p amount s).mill = s.mill ∧
    (growLength p amount s).stands = s.stands ∧
    (growLength p amount s).track = s.track ∧
    (growLength p amount s).store = s.store ∧
    (growLength p amount s).demands = s.demands ∧
    (growLength p amount s).actuators = s.actuators ∧
    (growLength p amount s).trips = s.trips ∧
    (growLength p amount s).nodes = s.nodes ∧
    (growLength p amount s).link = s.link ∧
    (growLength p amount s).pending = s.pending ∧
    (growLength p amount s).host.asm = s.host.asm ∧
    (growLength p amount s).host.content = s.host.content ∧
    (growLength p amount s).host.inputQueue = s.host.inputQueue ∧
    (growLength p amount s).host.reply = s.host.reply ∧
    (growLength p amount s).host.crcDrops = s.host.crcDrops ∧
    (growLength p amount s).host.formatDrops = s.host.formatDrops ∧
    (growLength p amount s).host.queueDrops = s.host.queueDrops ∧
    (growLength p amount s).host.attention = s.host.attention := by
  simp only [growLength]
  (repeat' split) <;> simp

/-- What `takeStdOutcome` leaves as it was. -/
@[simp] theorem takeStdOutcome_frame (p : Gauge) (o : Handed) (s : State) :
    (takeStdOutcome p o s).power = s.power ∧
    (takeStdOutcome p o s).now = s.now ∧
    (takeStdOutcome p o s).straps = s.straps ∧
    (takeStdOutcome p o s).rateStraps = s.rateStraps ∧
    (takeStdOutcome p o s).mill = s.mill ∧
    (takeStdOutcome p o s).stands = s.stands ∧
    (takeStdOutcome p o s).track = s.track ∧
    (takeStdOutcome p o s).store = s.store ∧
    (takeStdOutcome p o s).demands = s.demands ∧
    (takeStdOutcome p o s).actuators = s.actuators ∧
    (takeStdOutcome p o s).trips = s.trips ∧
    (takeStdOutcome p o s).nodes = s.nodes ∧
    (takeStdOutcome p o s).link = s.link ∧
    (takeStdOutcome p o s).pending = s.pending ∧
    (takeStdOutcome p o s).host.asm = s.host.asm ∧
    (takeStdOutcome p o s).host.content = s.host.content ∧
    (takeStdOutcome p o s).host.inputQueue = s.host.inputQueue ∧
    (takeStdOutcome p o s).host.reply = s.host.reply ∧
    (takeStdOutcome p o s).host.crcDrops = s.host.crcDrops ∧
    (takeStdOutcome p o s).host.formatDrops = s.host.formatDrops ∧
    (takeStdOutcome p o s).host.queueDrops = s.host.queueDrops ∧
    (takeStdOutcome p o s).host.attention = s.host.attention := by
  simp only [takeStdOutcome]
  (repeat' split) <;> simp

/-- What `startGauges` leaves as it was. -/
@[simp] theorem startGauges_frame (s : State) :
    (startGauges s).power = s.power ∧
    (startGauges s).now = s.now ∧
    (startGauges s).straps = s.straps ∧
    (startGauges s).rateStraps = s.rateStraps ∧
    (startGauges s).mill = s.mill ∧
    (startGauges s).stands = s.stands ∧
    (startGauges s).track = s.track ∧
    (startGauges s).store = s.store ∧
    (startGauges s).demands = s.demands ∧
    (startGauges s).actuators = s.actuators ∧
    (startGauges s).trips = s.trips ∧
    (startGauges s).nodes = s.nodes ∧
    (startGauges s).link = s.link ∧
    (startGauges s).host = s.host ∧
    (startGauges s).pending = s.pending := by
  simp only [startGauges]
  exact ⟨foldl_power _ (by intros; simp) _ _,
    foldl_now _ (by intros; simp) _ _,
    foldl_straps _ (by intros; simp) _ _,
    foldl_rateStraps _ (by intros; simp) _ _,
    foldl_mill _ (by intros; simp) _ _,
    foldl_stands _ (by intros; simp) _ _,
    foldl_track _ (by intros; simp) _ _,
    foldl_store _ (by intros; simp) _ _,
    foldl_demands _ (by intros; simp) _ _,
    foldl_actuators _ (by intros; simp) _ _,
    foldl_trips _ (by intros; simp) _ _,
    foldl_nodes _ (by intros; simp) _ _,
    foldl_link _ (by intros; simp) _ _,
    foldl_host _ (by intros; simp) _ _,
    foldl_pending _ (by intros; simp) _ _⟩

/-- What `orderStd` leaves as it was. -/
@[simp] theorem orderStd_frame (p : Gauge) (s : State) :
    (orderStd p s).power = s.power ∧
    (orderStd p s).now = s.now ∧
    (orderStd p s).straps = s.straps ∧
    (orderStd p s).rateStraps = s.rateStraps ∧
    (orderStd p s).mill = s.mill ∧
    (orderStd p s).stands = s.stands ∧
    (orderStd p s).track = s.track ∧
    (orderStd p s).store = s.store ∧
    (orderStd p s).demands = s.demands ∧
    (orderStd p s).actuators = s.actuators ∧
    (orderStd p s).trips = s.trips ∧
    (orderStd p s).nodes = s.nodes ∧
    (orderStd p s).link = s.link ∧
    (orderStd p s).host = s.host ∧
    (orderStd p s).pending = s.pending := by
  simp only [orderStd]
  simp

/-- What `closeForming` leaves as it was. -/
@[simp] theorem closeForming_frame (f : FormingCell) (l0 : Nat) (new : FormingCell) (s : State) :
    (closeForming f l0 new s).power = s.power ∧
    (closeForming f l0 new s).now = s.now ∧
    (closeForming f l0 new s).straps = s.straps ∧
    (closeForming f l0 new s).rateStraps = s.rateStraps ∧
    (closeForming f l0 new s).mill = s.mill ∧
    (closeForming f l0 new s).stands = s.stands ∧
    (closeForming f l0 new s).gauges = s.gauges ∧
    (closeForming f l0 new s).store = s.store ∧
    (closeForming f l0 new s).demands = s.demands ∧
    (closeForming f l0 new s).actuators = s.actuators ∧
    (closeForming f l0 new s).trips = s.trips ∧
    (closeForming f l0 new s).nodes = s.nodes ∧
    (closeForming f l0 new s).link = s.link ∧
    (closeForming f l0 new s).host = s.host ∧
    (closeForming f l0 new s).pending = s.pending := by
  simp only [closeForming]
  (repeat' split) <;> simp

/-- What `closeHere` leaves as it was. -/
@[simp] theorem closeHere_frame (f : FormingCell) (s : State) :
    (closeHere f s).power = s.power ∧
    (closeHere f s).now = s.now ∧
    (closeHere f s).straps = s.straps ∧
    (closeHere f s).rateStraps = s.rateStraps ∧
    (closeHere f s).mill = s.mill ∧
    (closeHere f s).stands = s.stands ∧
    (closeHere f s).gauges = s.gauges ∧
    (closeHere f s).store = s.store ∧
    (closeHere f s).demands = s.demands ∧
    (closeHere f s).actuators = s.actuators ∧
    (closeHere f s).trips = s.trips ∧
    (closeHere f s).nodes = s.nodes ∧
    (closeHere f s).link = s.link ∧
    (closeHere f s).host = s.host ∧
    (closeHere f s).pending = s.pending := by
  simp only [closeHere]
  simp

/-- What `closeStep` leaves as it was. -/
@[simp] theorem closeStep_frame (s : State) :
    (closeStep s).power = s.power ∧
    (closeStep s).now = s.now ∧
    (closeStep s).straps = s.straps ∧
    (closeStep s).rateStraps = s.rateStraps ∧
    (closeStep s).mill = s.mill ∧
    (closeStep s).stands = s.stands ∧
    (closeStep s).gauges = s.gauges ∧
    (closeStep s).store = s.store ∧
    (closeStep s).demands = s.demands ∧
    (closeStep s).actuators = s.actuators ∧
    (closeStep s).trips = s.trips ∧
    (closeStep s).nodes = s.nodes ∧
    (closeStep s).link = s.link ∧
    (closeStep s).pending = s.pending ∧
    (closeStep s).host.asm = s.host.asm ∧
    (closeStep s).host.content = s.host.content ∧
    (closeStep s).host.inputQueue = s.host.inputQueue ∧
    (closeStep s).host.reply = s.host.reply ∧
    (closeStep s).host.crcDrops = s.host.crcDrops ∧
    (closeStep s).host.formatDrops = s.host.formatDrops ∧
    (closeStep s).host.queueDrops = s.host.queueDrops ∧
    (closeStep s).host.attention = s.host.attention := by
  simp only [closeStep]
  (repeat' split) <;> simp

/-- What `signalApproach` leaves as it was. -/
@[simp] theorem signalApproach_frame (i : Stand) (y : Cell) (s : State) :
    (signalApproach i y s).power = s.power ∧
    (signalApproach i y s).now = s.now ∧
    (signalApproach i y s).straps = s.straps ∧
    (signalApproach i y s).rateStraps = s.rateStraps ∧
    (signalApproach i y s).mill = s.mill ∧
    (signalApproach i y s).stands = s.stands ∧
    (signalApproach i y s).gauges = s.gauges ∧
    (signalApproach i y s).store = s.store ∧
    (signalApproach i y s).actuators = s.actuators ∧
    (signalApproach i y s).trips = s.trips ∧
    (signalApproach i y s).nodes = s.nodes ∧
    (signalApproach i y s).link = s.link ∧
    (signalApproach i y s).host = s.host ∧
    (signalApproach i y s).pending = s.pending := by
  simp only [signalApproach]
  simp

/-- What `threadingDone` leaves as it was. -/
@[simp] theorem threadingDone_frame (i : Stand) (y : Cell) (s : State) :
    (threadingDone i y s).power = s.power ∧
    (threadingDone i y s).now = s.now ∧
    (threadingDone i y s).straps = s.straps ∧
    (threadingDone i y s).rateStraps = s.rateStraps ∧
    (threadingDone i y s).mill = s.mill ∧
    (threadingDone i y s).stands = s.stands ∧
    (threadingDone i y s).gauges = s.gauges ∧
    (threadingDone i y s).store = s.store ∧
    (threadingDone i y s).demands = s.demands ∧
    (threadingDone i y s).actuators = s.actuators ∧
    (threadingDone i y s).trips = s.trips ∧
    (threadingDone i y s).nodes = s.nodes ∧
    (threadingDone i y s).link = s.link ∧
    (threadingDone i y s).pending = s.pending ∧
    (threadingDone i y s).host.asm = s.host.asm ∧
    (threadingDone i y s).host.content = s.host.content ∧
    (threadingDone i y s).host.inputQueue = s.host.inputQueue ∧
    (threadingDone i y s).host.reply = s.host.reply ∧
    (threadingDone i y s).host.crcDrops = s.host.crcDrops ∧
    (threadingDone i y s).host.formatDrops = s.host.formatDrops ∧
    (threadingDone i y s).host.queueDrops = s.host.queueDrops ∧
    (threadingDone i y s).host.attention = s.host.attention := by
  simp only [threadingDone]
  (repeat' split) <;> simp

/-- What `bite` leaves as it was. -/
@[simp] theorem bite_frame (i : Stand) (y : Cell) (s : State) :
    (bite i y s).power = s.power ∧
    (bite i y s).now = s.now ∧
    (bite i y s).straps = s.straps ∧
    (bite i y s).rateStraps = s.rateStraps ∧
    (bite i y s).mill = s.mill ∧
    (bite i y s).stands = s.stands ∧
    (bite i y s).gauges = s.gauges ∧
    (bite i y s).trips = s.trips ∧
    (bite i y s).nodes = s.nodes ∧
    (bite i y s).link = s.link ∧
    (bite i y s).pending = s.pending ∧
    (bite i y s).host.asm = s.host.asm ∧
    (bite i y s).host.content = s.host.content ∧
    (bite i y s).host.inputQueue = s.host.inputQueue ∧
    (bite i y s).host.reply = s.host.reply ∧
    (bite i y s).host.crcDrops = s.host.crcDrops ∧
    (bite i y s).host.formatDrops = s.host.formatDrops ∧
    (bite i y s).host.queueDrops = s.host.queueDrops ∧
    (bite i y s).host.attention = s.host.attention := by
  simp only [bite]
  (repeat' split) <;> simp

/-- What `biteLoop` leaves as it was. -/
@[simp] theorem biteLoop_frame (i : Stand) (fuel : Nat) (s : State) :
    (biteLoop i fuel s).power = s.power ∧
    (biteLoop i fuel s).now = s.now ∧
    (biteLoop i fuel s).straps = s.straps ∧
    (biteLoop i fuel s).rateStraps = s.rateStraps ∧
    (biteLoop i fuel s).mill = s.mill ∧
    (biteLoop i fuel s).stands = s.stands ∧
    (biteLoop i fuel s).gauges = s.gauges ∧
    (biteLoop i fuel s).trips = s.trips ∧
    (biteLoop i fuel s).nodes = s.nodes ∧
    (biteLoop i fuel s).link = s.link ∧
    (biteLoop i fuel s).pending = s.pending ∧
    (biteLoop i fuel s).host.asm = s.host.asm ∧
    (biteLoop i fuel s).host.content = s.host.content ∧
    (biteLoop i fuel s).host.inputQueue = s.host.inputQueue ∧
    (biteLoop i fuel s).host.reply = s.host.reply ∧
    (biteLoop i fuel s).host.crcDrops = s.host.crcDrops ∧
    (biteLoop i fuel s).host.formatDrops = s.host.formatDrops ∧
    (biteLoop i fuel s).host.queueDrops = s.host.queueDrops ∧
    (biteLoop i fuel s).host.attention = s.host.attention := by
  induction fuel generalizing s with
  | zero => simp [biteLoop]
  | succ n ih =>
    simp only [biteLoop]
    (repeat' split) <;> simp [ih]

/-- What `cobbleCheck` leaves as it was. -/
@[simp] theorem cobbleCheck_frame (i : Stand) (s : State) :
    (cobbleCheck i s).power = s.power ∧
    (cobbleCheck i s).now = s.now ∧
    (cobbleCheck i s).straps = s.straps ∧
    (cobbleCheck i s).rateStraps = s.rateStraps ∧
    (cobbleCheck i s).mill = s.mill ∧
    (cobbleCheck i s).stands = s.stands ∧
    (cobbleCheck i s).gauges = s.gauges ∧
    (cobbleCheck i s).store = s.store ∧
    (cobbleCheck i s).demands = s.demands ∧
    (cobbleCheck i s).nodes = s.nodes ∧
    (cobbleCheck i s).link = s.link ∧
    (cobbleCheck i s).pending = s.pending ∧
    (cobbleCheck i s).host.asm = s.host.asm ∧
    (cobbleCheck i s).host.content = s.host.content ∧
    (cobbleCheck i s).host.inputQueue = s.host.inputQueue ∧
    (cobbleCheck i s).host.reply = s.host.reply ∧
    (cobbleCheck i s).host.crcDrops = s.host.crcDrops ∧
    (cobbleCheck i s).host.formatDrops = s.host.formatDrops ∧
    (cobbleCheck i s).host.queueDrops = s.host.queueDrops ∧
    (cobbleCheck i s).host.attention = s.host.attention := by
  simp only [cobbleCheck]
  (repeat' split) <;> simp

/-- What `biteStep` leaves as it was. -/
@[simp] theorem biteStep_frame (i : Stand) (s : State) :
    (biteStep i s).power = s.power ∧
    (biteStep i s).now = s.now ∧
    (biteStep i s).straps = s.straps ∧
    (biteStep i s).rateStraps = s.rateStraps ∧
    (biteStep i s).mill = s.mill ∧
    (biteStep i s).stands = s.stands ∧
    (biteStep i s).gauges = s.gauges ∧
    (biteStep i s).nodes = s.nodes ∧
    (biteStep i s).link = s.link ∧
    (biteStep i s).pending = s.pending ∧
    (biteStep i s).host.asm = s.host.asm ∧
    (biteStep i s).host.content = s.host.content ∧
    (biteStep i s).host.inputQueue = s.host.inputQueue ∧
    (biteStep i s).host.reply = s.host.reply ∧
    (biteStep i s).host.crcDrops = s.host.crcDrops ∧
    (biteStep i s).host.formatDrops = s.host.formatDrops ∧
    (biteStep i s).host.queueDrops = s.host.queueDrops ∧
    (biteStep i s).host.attention = s.host.attention := by
  simp only [biteStep]
  simp

/-- What `confirmHead` leaves as it was. -/
@[simp] theorem confirmHead_frame (i : Stand) (force : Nat) (s : State) :
    (confirmHead i force s).power = s.power ∧
    (confirmHead i force s).now = s.now ∧
    (confirmHead i force s).straps = s.straps ∧
    (confirmHead i force s).rateStraps = s.rateStraps ∧
    (confirmHead i force s).mill = s.mill ∧
    (confirmHead i force s).stands = s.stands ∧
    (confirmHead i force s).gauges = s.gauges ∧
    (confirmHead i force s).trips = s.trips ∧
    (confirmHead i force s).nodes = s.nodes ∧
    (confirmHead i force s).link = s.link ∧
    (confirmHead i force s).pending = s.pending ∧
    (confirmHead i force s).host.asm = s.host.asm ∧
    (confirmHead i force s).host.content = s.host.content ∧
    (confirmHead i force s).host.inputQueue = s.host.inputQueue ∧
    (confirmHead i force s).host.reply = s.host.reply ∧
    (confirmHead i force s).host.crcDrops = s.host.crcDrops ∧
    (confirmHead i force s).host.formatDrops = s.host.formatDrops ∧
    (confirmHead i force s).host.queueDrops = s.host.queueDrops ∧
    (confirmHead i force s).host.attention = s.host.attention := by
  simp only [confirmHead]
  (repeat' split) <;> simp

/-- What `passageStep` leaves as it was. -/
@[simp] theorem passageStep_frame (i : Stand) (before : Nat) (s : State) :
    (passageStep i before s).power = s.power ∧
    (passageStep i before s).now = s.now ∧
    (passageStep i before s).straps = s.straps ∧
    (passageStep i before s).rateStraps = s.rateStraps ∧
    (passageStep i before s).mill = s.mill ∧
    (passageStep i before s).stands = s.stands ∧
    (passageStep i before s).gauges = s.gauges ∧
    (passageStep i before s).store = s.store ∧
    (passageStep i before s).trips = s.trips ∧
    (passageStep i before s).nodes = s.nodes ∧
    (passageStep i before s).link = s.link ∧
    (passageStep i before s).pending = s.pending ∧
    (passageStep i before s).host.asm = s.host.asm ∧
    (passageStep i before s).host.content = s.host.content ∧
    (passageStep i before s).host.inputQueue = s.host.inputQueue ∧
    (passageStep i before s).host.reply = s.host.reply ∧
    (passageStep i before s).host.crcDrops = s.host.crcDrops ∧
    (passageStep i before s).host.formatDrops = s.host.formatDrops ∧
    (passageStep i before s).host.queueDrops = s.host.queueDrops ∧
    (passageStep i before s).host.attention = s.host.attention := by
  simp only [passageStep]
  exact ⟨foldl_power _ (by intros; (repeat' split) <;> simp) _ _,
    foldl_now _ (by intros; (repeat' split) <;> simp) _ _,
    foldl_straps _ (by intros; (repeat' split) <;> simp) _ _,
    foldl_rateStraps _ (by intros; (repeat' split) <;> simp) _ _,
    foldl_mill _ (by intros; (repeat' split) <;> simp) _ _,
    foldl_stands _ (by intros; (repeat' split) <;> simp) _ _,
    foldl_gauges _ (by intros; (repeat' split) <;> simp) _ _,
    foldl_store _ (by intros; (repeat' split) <;> simp) _ _,
    foldl_trips _ (by intros; (repeat' split) <;> simp) _ _,
    foldl_nodes _ (by intros; (repeat' split) <;> simp) _ _,
    foldl_link _ (by intros; (repeat' split) <;> simp) _ _,
    foldl_pending _ (by intros; (repeat' split) <;> simp) _ _,
    foldl_host_asm _ (by intros; (repeat' split) <;> simp) _ _,
    foldl_host_content _ (by intros; (repeat' split) <;> simp) _ _,
    foldl_host_inputQueue _ (by intros; (repeat' split) <;> simp) _ _,
    foldl_host_reply _ (by intros; (repeat' split) <;> simp) _ _,
    foldl_host_crcDrops _ (by intros; (repeat' split) <;> simp) _ _,
    foldl_host_formatDrops _ (by intros; (repeat' split) <;> simp) _ _,
    foldl_host_queueDrops _ (by intros; (repeat' split) <;> simp) _ _,
    foldl_host_attention _ (by intros; (repeat' split) <;> simp) _ _⟩

/-- What `approachStep` leaves as it was. -/
@[simp] theorem approachStep_frame (i : Stand) (s : State) :
    (approachStep i s).power = s.power ∧
    (approachStep i s).now = s.now ∧
    (approachStep i s).straps = s.straps ∧
    (approachStep i s).rateStraps = s.rateStraps ∧
    (approachStep i s).mill = s.mill ∧
    (approachStep i s).stands = s.stands ∧
    (approachStep i s).gauges = s.gauges ∧
    (approachStep i s).store = s.store ∧
    (approachStep i s).actuators = s.actuators ∧
    (approachStep i s).trips = s.trips ∧
    (approachStep i s).nodes = s.nodes ∧
    (approachStep i s).link = s.link ∧
    (approachStep i s).host = s.host ∧
    (approachStep i s).pending = s.pending := by
  simp only [approachStep]
  simp [foldl_power, foldl_now, foldl_straps, foldl_rateStraps, foldl_mill, foldl_stands, foldl_gauges, foldl_store, foldl_actuators, foldl_trips, foldl_nodes, foldl_link, foldl_host, foldl_pending]

/-- What `afterClosure` leaves as it was. -/
@[simp] theorem afterClosure_frame (s : State) :
    (afterClosure s).power = s.power ∧
    (afterClosure s).now = s.now ∧
    (afterClosure s).straps = s.straps ∧
    (afterClosure s).rateStraps = s.rateStraps ∧
    (afterClosure s).mill = s.mill ∧
    (afterClosure s).stands = s.stands ∧
    (afterClosure s).gauges = s.gauges ∧
    (afterClosure s).nodes = s.nodes ∧
    (afterClosure s).link = s.link ∧
    (afterClosure s).pending = s.pending ∧
    (afterClosure s).host.asm = s.host.asm ∧
    (afterClosure s).host.content = s.host.content ∧
    (afterClosure s).host.inputQueue = s.host.inputQueue ∧
    (afterClosure s).host.reply = s.host.reply ∧
    (afterClosure s).host.crcDrops = s.host.crcDrops ∧
    (afterClosure s).host.formatDrops = s.host.formatDrops ∧
    (afterClosure s).host.queueDrops = s.host.queueDrops ∧
    (afterClosure s).host.attention = s.host.attention := by
  simp only [afterClosure]
  simp

/-- What `offerRecord` leaves as it was. -/
@[simp] theorem offerRecord_frame (s : State) :
    (offerRecord s).power = s.power ∧
    (offerRecord s).now = s.now ∧
    (offerRecord s).straps = s.straps ∧
    (offerRecord s).rateStraps = s.rateStraps ∧
    (offerRecord s).mill = s.mill ∧
    (offerRecord s).stands = s.stands ∧
    (offerRecord s).gauges = s.gauges ∧
    (offerRecord s).nodes = s.nodes ∧
    (offerRecord s).link = s.link ∧
    (offerRecord s).pending = s.pending ∧
    (offerRecord s).host.asm = s.host.asm ∧
    (offerRecord s).host.content = s.host.content ∧
    (offerRecord s).host.inputQueue = s.host.inputQueue ∧
    (offerRecord s).host.reply = s.host.reply ∧
    (offerRecord s).host.crcDrops = s.host.crcDrops ∧
    (offerRecord s).host.formatDrops = s.host.formatDrops ∧
    (offerRecord s).host.queueDrops = s.host.queueDrops ∧
    (offerRecord s).host.attention = s.host.attention := by
  simp only [offerRecord]
  (repeat' split) <;> simp

/-- What `retireLoop` leaves as it was. -/
@[simp] theorem retireLoop_frame (z : Zone) (fuel : Nat) (s : State) :
    (retireLoop z fuel s).power = s.power ∧
    (retireLoop z fuel s).now = s.now ∧
    (retireLoop z fuel s).straps = s.straps ∧
    (retireLoop z fuel s).rateStraps = s.rateStraps ∧
    (retireLoop z fuel s).mill = s.mill ∧
    (retireLoop z fuel s).stands = s.stands ∧
    (retireLoop z fuel s).gauges = s.gauges ∧
    (retireLoop z fuel s).nodes = s.nodes ∧
    (retireLoop z fuel s).link = s.link ∧
    (retireLoop z fuel s).pending = s.pending ∧
    (retireLoop z fuel s).host.asm = s.host.asm ∧
    (retireLoop z fuel s).host.content = s.host.content ∧
    (retireLoop z fuel s).host.inputQueue = s.host.inputQueue ∧
    (retireLoop z fuel s).host.reply = s.host.reply ∧
    (retireLoop z fuel s).host.crcDrops = s.host.crcDrops ∧
    (retireLoop z fuel s).host.formatDrops = s.host.formatDrops ∧
    (retireLoop z fuel s).host.queueDrops = s.host.queueDrops ∧
    (retireLoop z fuel s).host.attention = s.host.attention := by
  induction fuel generalizing s with
  | zero => simp [retireLoop]
  | succ n ih =>
    simp only [retireLoop]
    (repeat' split) <;> simp [ih]

/-- What `advanceSteps` leaves as it was. -/
@[simp] theorem advanceSteps_frame (z : Zone) (before : Nat) (s : State) :
    (advanceSteps z before s).power = s.power ∧
    (advanceSteps z before s).now = s.now ∧
    (advanceSteps z before s).straps = s.straps ∧
    (advanceSteps z before s).rateStraps = s.rateStraps ∧
    (advanceSteps z before s).mill = s.mill ∧
    (advanceSteps z before s).stands = s.stands ∧
    (advanceSteps z before s).gauges = s.gauges ∧
    (advanceSteps z before s).nodes = s.nodes ∧
    (advanceSteps z before s).link = s.link ∧
    (advanceSteps z before s).pending = s.pending ∧
    (advanceSteps z before s).host.asm = s.host.asm ∧
    (advanceSteps z before s).host.content = s.host.content ∧
    (advanceSteps z before s).host.inputQueue = s.host.inputQueue ∧
    (advanceSteps z before s).host.reply = s.host.reply ∧
    (advanceSteps z before s).host.crcDrops = s.host.crcDrops ∧
    (advanceSteps z before s).host.formatDrops = s.host.formatDrops ∧
    (advanceSteps z before s).host.queueDrops = s.host.queueDrops ∧
    (advanceSteps z before s).host.attention = s.host.attention := by
  simp only [advanceSteps]
  (repeat' split) <;> simp

/-- What `testsAfter` leaves as it was. -/
@[simp] theorem testsAfter_frame (z : Zone) (s : State) :
    (testsAfter z s).power = s.power ∧
    (testsAfter z s).now = s.now ∧
    (testsAfter z s).straps = s.straps ∧
    (testsAfter z s).rateStraps = s.rateStraps ∧
    (testsAfter z s).mill = s.mill ∧
    (testsAfter z s).stands = s.stands ∧
    (testsAfter z s).track = s.track ∧
    (testsAfter z s).store = s.store ∧
    (testsAfter z s).demands = s.demands ∧
    (testsAfter z s).actuators = s.actuators ∧
    (testsAfter z s).trips = s.trips ∧
    (testsAfter z s).nodes = s.nodes ∧
    (testsAfter z s).link = s.link ∧
    (testsAfter z s).host = s.host ∧
    (testsAfter z s).pending = s.pending := by
  simp only [testsAfter]
  (repeat' split) <;> simp

/-- What `advance` leaves as it was. -/
@[simp] theorem advance_frame (z : Zone) (increment : Nat) (s : State) :
    (advance z increment s).power = s.power ∧
    (advance z increment s).now = s.now ∧
    (advance z increment s).straps = s.straps ∧
    (advance z increment s).rateStraps = s.rateStraps ∧
    (advance z increment s).mill = s.mill ∧
    (advance z increment s).stands = s.stands ∧
    (advance z increment s).nodes = s.nodes ∧
    (advance z increment s).link = s.link ∧
    (advance z increment s).pending = s.pending ∧
    (advance z increment s).host.asm = s.host.asm ∧
    (advance z increment s).host.content = s.host.content ∧
    (advance z increment s).host.inputQueue = s.host.inputQueue ∧
    (advance z increment s).host.reply = s.host.reply ∧
    (advance z increment s).host.crcDrops = s.host.crcDrops ∧
    (advance z increment s).host.formatDrops = s.host.formatDrops ∧
    (advance z increment s).host.queueDrops = s.host.queueDrops ∧
    (advance z increment s).host.attention = s.host.attention := by
  simp only [advance]
  (repeat' split) <;> simp

/-- What `takeWeld` leaves as it was. -/
@[simp] theorem takeWeld_frame (s : State) :
    (takeWeld s).power = s.power ∧
    (takeWeld s).now = s.now ∧
    (takeWeld s).straps = s.straps ∧
    (takeWeld s).rateStraps = s.rateStraps ∧
    (takeWeld s).mill = s.mill ∧
    (takeWeld s).stands = s.stands ∧
    (takeWeld s).demands = s.demands ∧
    (takeWeld s).actuators = s.actuators ∧
    (takeWeld s).trips = s.trips ∧
    (takeWeld s).nodes = s.nodes ∧
    (takeWeld s).link = s.link ∧
    (takeWeld s).pending = s.pending ∧
    (takeWeld s).host.asm = s.host.asm ∧
    (takeWeld s).host.content = s.host.content ∧
    (takeWeld s).host.inputQueue = s.host.inputQueue ∧
    (takeWeld s).host.reply = s.host.reply ∧
    (takeWeld s).host.crcDrops = s.host.crcDrops ∧
    (takeWeld s).host.formatDrops = s.host.formatDrops ∧
    (takeWeld s).host.queueDrops = s.host.queueDrops ∧
    (takeWeld s).host.attention = s.host.attention := by
  simp only [takeWeld]
  (repeat' split) <;> simp

/-- What `trackStand` leaves as it was. -/
@[simp] theorem trackStand_frame (i : Stand) (r : StandReport) (s : State) :
    (trackStand i r s).power = s.power ∧
    (trackStand i r s).now = s.now ∧
    (trackStand i r s).straps = s.straps ∧
    (trackStand i r s).rateStraps = s.rateStraps ∧
    (trackStand i r s).mill = s.mill ∧
    (trackStand i r s).stands = s.stands ∧
    (trackStand i r s).nodes = s.nodes ∧
    (trackStand i r s).link = s.link ∧
    (trackStand i r s).pending = s.pending ∧
    (trackStand i r s).host.asm = s.host.asm ∧
    (trackStand i r s).host.content = s.host.content ∧
    (trackStand i r s).host.inputQueue = s.host.inputQueue ∧
    (trackStand i r s).host.reply = s.host.reply ∧
    (trackStand i r s).host.crcDrops = s.host.crcDrops ∧
    (trackStand i r s).host.formatDrops = s.host.formatDrops ∧
    (trackStand i r s).host.queueDrops = s.host.queueDrops ∧
    (trackStand i r s).host.attention = s.host.attention := by
  simp only [trackStand]
  simp

/-- What `trackEntry` leaves as it was. -/
@[simp] theorem trackEntry_frame (r : EntryReport) (s : State) :
    (trackEntry r s).power = s.power ∧
    (trackEntry r s).now = s.now ∧
    (trackEntry r s).straps = s.straps ∧
    (trackEntry r s).rateStraps = s.rateStraps ∧
    (trackEntry r s).mill = s.mill ∧
    (trackEntry r s).stands = s.stands ∧
    (trackEntry r s).nodes = s.nodes ∧
    (trackEntry r s).link = s.link ∧
    (trackEntry r s).pending = s.pending ∧
    (trackEntry r s).host.asm = s.host.asm ∧
    (trackEntry r s).host.content = s.host.content ∧
    (trackEntry r s).host.inputQueue = s.host.inputQueue ∧
    (trackEntry r s).host.reply = s.host.reply ∧
    (trackEntry r s).host.crcDrops = s.host.crcDrops ∧
    (trackEntry r s).host.formatDrops = s.host.formatDrops ∧
    (trackEntry r s).host.queueDrops = s.host.queueDrops ∧
    (trackEntry r s).host.attention = s.host.attention := by
  simp only [trackEntry]
  (repeat' split) <;> simp

/-- What `tensionReading` leaves as it was. -/
@[simp] theorem tensionReading_frame (z : Fin 5) (tension : Nat) (s : State) :
    (tensionReading z tension s).power = s.power ∧
    (tensionReading z tension s).now = s.now ∧
    (tensionReading z tension s).straps = s.straps ∧
    (tensionReading z tension s).rateStraps = s.rateStraps ∧
    (tensionReading z tension s).mill = s.mill ∧
    (tensionReading z tension s).stands = s.stands ∧
    (tensionReading z tension s).track = s.track ∧
    (tensionReading z tension s).gauges = s.gauges ∧
    (tensionReading z tension s).store = s.store ∧
    (tensionReading z tension s).demands = s.demands ∧
    (tensionReading z tension s).nodes = s.nodes ∧
    (tensionReading z tension s).link = s.link ∧
    (tensionReading z tension s).pending = s.pending ∧
    (tensionReading z tension s).host.asm = s.host.asm ∧
    (tensionReading z tension s).host.content = s.host.content ∧
    (tensionReading z tension s).host.inputQueue = s.host.inputQueue ∧
    (tensionReading z tension s).host.reply = s.host.reply ∧
    (tensionReading z tension s).host.crcDrops = s.host.crcDrops ∧
    (tensionReading z tension s).host.formatDrops = s.host.formatDrops ∧
    (tensionReading z tension s).host.queueDrops = s.host.queueDrops ∧
    (tensionReading z tension s).host.attention = s.host.attention := by
  simp only [tensionReading]
  (repeat' split) <;> simp

/-- What `protectStand` leaves as it was. -/
@[simp] theorem protectStand_frame (i : Stand) (r : StandReport) (s : State) :
    (protectStand i r s).power = s.power ∧
    (protectStand i r s).now = s.now ∧
    (protectStand i r s).straps = s.straps ∧
    (protectStand i r s).rateStraps = s.rateStraps ∧
    (protectStand i r s).mill = s.mill ∧
    (protectStand i r s).stands = s.stands ∧
    (protectStand i r s).track = s.track ∧
    (protectStand i r s).gauges = s.gauges ∧
    (protectStand i r s).store = s.store ∧
    (protectStand i r s).demands = s.demands ∧
    (protectStand i r s).nodes = s.nodes ∧
    (protectStand i r s).link = s.link ∧
    (protectStand i r s).pending = s.pending ∧
    (protectStand i r s).host.asm = s.host.asm ∧
    (protectStand i r s).host.content = s.host.content ∧
    (protectStand i r s).host.inputQueue = s.host.inputQueue ∧
    (protectStand i r s).host.reply = s.host.reply ∧
    (protectStand i r s).host.crcDrops = s.host.crcDrops ∧
    (protectStand i r s).host.formatDrops = s.host.formatDrops ∧
    (protectStand i r s).host.queueDrops = s.host.queueDrops ∧
    (protectStand i r s).host.attention = s.host.attention := by
  simp only [protectStand]
  (repeat' split) <;> simp

/-- What `protectEntry` leaves as it was. -/
@[simp] theorem protectEntry_frame (r : EntryReport) (s : State) :
    (protectEntry r s).power = s.power ∧
    (protectEntry r s).now = s.now ∧
    (protectEntry r s).straps = s.straps ∧
    (protectEntry r s).rateStraps = s.rateStraps ∧
    (protectEntry r s).mill = s.mill ∧
    (protectEntry r s).stands = s.stands ∧
    (protectEntry r s).track = s.track ∧
    (protectEntry r s).gauges = s.gauges ∧
    (protectEntry r s).store = s.store ∧
    (protectEntry r s).demands = s.demands ∧
    (protectEntry r s).nodes = s.nodes ∧
    (protectEntry r s).link = s.link ∧
    (protectEntry r s).pending = s.pending ∧
    (protectEntry r s).host.asm = s.host.asm ∧
    (protectEntry r s).host.content = s.host.content ∧
    (protectEntry r s).host.inputQueue = s.host.inputQueue ∧
    (protectEntry r s).host.reply = s.host.reply ∧
    (protectEntry r s).host.crcDrops = s.host.crcDrops ∧
    (protectEntry r s).host.formatDrops = s.host.formatDrops ∧
    (protectEntry r s).host.queueDrops = s.host.queueDrops ∧
    (protectEntry r s).host.attention = s.host.attention := by
  simp only [protectEntry]
  simp

/-- What `estopChange` leaves as it was. -/
@[simp] theorem estopChange_frame (x : Fin 8) (low : Bool) (s : State) :
    (estopChange x low s).power = s.power ∧
    (estopChange x low s).now = s.now ∧
    (estopChange x low s).straps = s.straps ∧
    (estopChange x low s).rateStraps = s.rateStraps ∧
    (estopChange x low s).mill = s.mill ∧
    (estopChange x low s).stands = s.stands ∧
    (estopChange x low s).track = s.track ∧
    (estopChange x low s).gauges = s.gauges ∧
    (estopChange x low s).store = s.store ∧
    (estopChange x low s).demands = s.demands ∧
    (estopChange x low s).nodes = s.nodes ∧
    (estopChange x low s).link = s.link ∧
    (estopChange x low s).pending = s.pending ∧
    (estopChange x low s).host.asm = s.host.asm ∧
    (estopChange x low s).host.content = s.host.content ∧
    (estopChange x low s).host.inputQueue = s.host.inputQueue ∧
    (estopChange x low s).host.reply = s.host.reply ∧
    (estopChange x low s).host.crcDrops = s.host.crcDrops ∧
    (estopChange x low s).host.formatDrops = s.host.formatDrops ∧
    (estopChange x low s).host.queueDrops = s.host.queueDrops ∧
    (estopChange x low s).host.attention = s.host.attention := by
  simp only [estopChange]
  (repeat' split) <;> simp

/-- What `clearTripTable` leaves as it was. -/
@[simp] theorem clearTripTable_frame (s : State) :
    (clearTripTable s).power = s.power ∧
    (clearTripTable s).now = s.now ∧
    (clearTripTable s).straps = s.straps ∧
    (clearTripTable s).rateStraps = s.rateStraps ∧
    (clearTripTable s).mill = s.mill ∧
    (clearTripTable s).stands = s.stands ∧
    (clearTripTable s).track = s.track ∧
    (clearTripTable s).gauges = s.gauges ∧
    (clearTripTable s).store = s.store ∧
    (clearTripTable s).demands = s.demands ∧
    (clearTripTable s).actuators = s.actuators ∧
    (clearTripTable s).nodes = s.nodes ∧
    (clearTripTable s).pending = s.pending ∧
    (clearTripTable s).host.asm = s.host.asm ∧
    (clearTripTable s).host.content = s.host.content ∧
    (clearTripTable s).host.inputQueue = s.host.inputQueue ∧
    (clearTripTable s).host.reply = s.host.reply ∧
    (clearTripTable s).host.crcDrops = s.host.crcDrops ∧
    (clearTripTable s).host.formatDrops = s.host.formatDrops ∧
    (clearTripTable s).host.queueDrops = s.host.queueDrops ∧
    (clearTripTable s).host.attention = s.host.attention := by
  simp only [clearTripTable]
  simp

/-- What `raisePressed` leaves as it was. -/
@[simp] theorem raisePressed_frame (s : State) :
    (raisePressed s).power = s.power ∧
    (raisePressed s).now = s.now ∧
    (raisePressed s).straps = s.straps ∧
    (raisePressed s).rateStraps = s.rateStraps ∧
    (raisePressed s).mill = s.mill ∧
    (raisePressed s).stands = s.stands ∧
    (raisePressed s).track = s.track ∧
    (raisePressed s).gauges = s.gauges ∧
    (raisePressed s).store = s.store ∧
    (raisePressed s).demands = s.demands ∧
    (raisePressed s).nodes = s.nodes ∧
    (raisePressed s).link = s.link ∧
    (raisePressed s).pending = s.pending ∧
    (raisePressed s).host.asm = s.host.asm ∧
    (raisePressed s).host.content = s.host.content ∧
    (raisePressed s).host.inputQueue = s.host.inputQueue ∧
    (raisePressed s).host.reply = s.host.reply ∧
    (raisePressed s).host.crcDrops = s.host.crcDrops ∧
    (raisePressed s).host.formatDrops = s.host.formatDrops ∧
    (raisePressed s).host.queueDrops = s.host.queueDrops ∧
    (raisePressed s).host.attention = s.host.attention := by
  simp only [raisePressed]
  simp [foldl_power, foldl_now, foldl_straps, foldl_rateStraps, foldl_mill, foldl_stands, foldl_track, foldl_gauges, foldl_store, foldl_demands, foldl_nodes, foldl_link, foldl_pending, foldl_host_asm, foldl_host_content, foldl_host_inputQueue, foldl_host_reply, foldl_host_crcDrops, foldl_host_formatDrops, foldl_host_queueDrops, foldl_host_attention, apply_ite State.power, apply_ite State.now, apply_ite State.straps, apply_ite State.rateStraps, apply_ite State.mill, apply_ite State.stands, apply_ite State.track, apply_ite State.gauges, apply_ite State.store, apply_ite State.demands, apply_ite State.nodes, apply_ite State.link, apply_ite State.pending, apply_ite State.host, apply_ite HostPort.asm, apply_ite HostPort.content, apply_ite HostPort.inputQueue, apply_ite HostPort.reply, apply_ite HostPort.crcDrops, apply_ite HostPort.formatDrops, apply_ite HostPort.queueDrops, apply_ite HostPort.attention]

/-- What `giveRole` leaves as it was. -/
@[simp] theorem giveRole_frame (a : Node) (r : Role) (s : State) :
    (giveRole a r s).power = s.power ∧
    (giveRole a r s).now = s.now ∧
    (giveRole a r s).straps = s.straps ∧
    (giveRole a r s).rateStraps = s.rateStraps ∧
    (giveRole a r s).mill = s.mill ∧
    (giveRole a r s).stands = s.stands ∧
    (giveRole a r s).track = s.track ∧
    (giveRole a r s).gauges = s.gauges ∧
    (giveRole a r s).store = s.store ∧
    (giveRole a r s).demands = s.demands ∧
    (giveRole a r s).actuators = s.actuators ∧
    (giveRole a r s).trips = s.trips ∧
    (giveRole a r s).link = s.link ∧
    (giveRole a r s).host = s.host ∧
    (giveRole a r s).pending = s.pending := by
  simp only [giveRole]
  (repeat' split) <;> simp

/-- What `dropRole` leaves as it was. -/
@[simp] theorem dropRole_frame (r : Role) (s : State) :
    (dropRole r s).power = s.power ∧
    (dropRole r s).now = s.now ∧
    (dropRole r s).straps = s.straps ∧
    (dropRole r s).rateStraps = s.rateStraps ∧
    (dropRole r s).mill = s.mill ∧
    (dropRole r s).stands = s.stands ∧
    (dropRole r s).track = s.track ∧
    (dropRole r s).gauges = s.gauges ∧
    (dropRole r s).store = s.store ∧
    (dropRole r s).demands = s.demands ∧
    (dropRole r s).actuators = s.actuators ∧
    (dropRole r s).trips = s.trips ∧
    (dropRole r s).link = s.link ∧
    (dropRole r s).host = s.host ∧
    (dropRole r s).pending = s.pending := by
  simp only [dropRole]
  (repeat' split) <;> simp

/-- What `frameArrived` leaves as it was. -/
@[simp] theorem frameArrived_frame (a : Node) (s : State) :
    (frameArrived a s).power = s.power ∧
    (frameArrived a s).now = s.now ∧
    (frameArrived a s).straps = s.straps ∧
    (frameArrived a s).rateStraps = s.rateStraps ∧
    (frameArrived a s).mill = s.mill ∧
    (frameArrived a s).stands = s.stands ∧
    (frameArrived a s).track = s.track ∧
    (frameArrived a s).gauges = s.gauges ∧
    (frameArrived a s).store = s.store ∧
    (frameArrived a s).demands = s.demands ∧
    (frameArrived a s).actuators = s.actuators ∧
    (frameArrived a s).trips = s.trips ∧
    (frameArrived a s).link = s.link ∧
    (frameArrived a s).pending = s.pending ∧
    (frameArrived a s).host.asm = s.host.asm ∧
    (frameArrived a s).host.content = s.host.content ∧
    (frameArrived a s).host.inputQueue = s.host.inputQueue ∧
    (frameArrived a s).host.reply = s.host.reply ∧
    (frameArrived a s).host.crcDrops = s.host.crcDrops ∧
    (frameArrived a s).host.formatDrops = s.host.formatDrops ∧
    (frameArrived a s).host.queueDrops = s.host.queueDrops ∧
    (frameArrived a s).host.attention = s.host.attention := by
  simp only [frameArrived]
  (repeat' split) <;> simp

/-- What `loseNode` leaves as it was. -/
@[simp] theorem loseNode_frame (a : Node) (cause : Int) (s : State) :
    (loseNode a cause s).power = s.power ∧
    (loseNode a cause s).now = s.now ∧
    (loseNode a cause s).straps = s.straps ∧
    (loseNode a cause s).rateStraps = s.rateStraps ∧
    (loseNode a cause s).mill = s.mill ∧
    (loseNode a cause s).stands = s.stands ∧
    (loseNode a cause s).track = s.track ∧
    (loseNode a cause s).store = s.store ∧
    (loseNode a cause s).demands = s.demands ∧
    (loseNode a cause s).link = s.link ∧
    (loseNode a cause s).pending = s.pending ∧
    (loseNode a cause s).host.asm = s.host.asm ∧
    (loseNode a cause s).host.content = s.host.content ∧
    (loseNode a cause s).host.inputQueue = s.host.inputQueue ∧
    (loseNode a cause s).host.reply = s.host.reply ∧
    (loseNode a cause s).host.crcDrops = s.host.crcDrops ∧
    (loseNode a cause s).host.formatDrops = s.host.formatDrops ∧
    (loseNode a cause s).host.queueDrops = s.host.queueDrops ∧
    (loseNode a cause s).host.attention = s.host.attention := by
  simp only [loseNode]
  (repeat' split) <;> simp

/-- What `countFailure` leaves as it was. -/
@[simp] theorem countFailure_frame (a : Node) (s : State) :
    (countFailure a s).power = s.power ∧
    (countFailure a s).now = s.now ∧
    (countFailure a s).straps = s.straps ∧
    (countFailure a s).rateStraps = s.rateStraps ∧
    (countFailure a s).mill = s.mill ∧
    (countFailure a s).stands = s.stands ∧
    (countFailure a s).track = s.track ∧
    (countFailure a s).store = s.store ∧
    (countFailure a s).demands = s.demands ∧
    (countFailure a s).link = s.link ∧
    (countFailure a s).pending = s.pending ∧
    (countFailure a s).host.asm = s.host.asm ∧
    (countFailure a s).host.content = s.host.content ∧
    (countFailure a s).host.inputQueue = s.host.inputQueue ∧
    (countFailure a s).host.reply = s.host.reply ∧
    (countFailure a s).host.crcDrops = s.host.crcDrops ∧
    (countFailure a s).host.formatDrops = s.host.formatDrops ∧
    (countFailure a s).host.queueDrops = s.host.queueDrops ∧
    (countFailure a s).host.attention = s.host.attention := by
  simp only [countFailure]
  (repeat' split) <;> simp

/-- What `silenceTest` leaves as it was. -/
@[simp] theorem silenceTest_frame (a : Node) (s : State) :
    (silenceTest a s).power = s.power ∧
    (silenceTest a s).now = s.now ∧
    (silenceTest a s).straps = s.straps ∧
    (silenceTest a s).rateStraps = s.rateStraps ∧
    (silenceTest a s).mill = s.mill ∧
    (silenceTest a s).stands = s.stands ∧
    (silenceTest a s).track = s.track ∧
    (silenceTest a s).store = s.store ∧
    (silenceTest a s).demands = s.demands ∧
    (silenceTest a s).link = s.link ∧
    (silenceTest a s).pending = s.pending ∧
    (silenceTest a s).host.asm = s.host.asm ∧
    (silenceTest a s).host.content = s.host.content ∧
    (silenceTest a s).host.inputQueue = s.host.inputQueue ∧
    (silenceTest a s).host.reply = s.host.reply ∧
    (silenceTest a s).host.crcDrops = s.host.crcDrops ∧
    (silenceTest a s).host.formatDrops = s.host.formatDrops ∧
    (silenceTest a s).host.queueDrops = s.host.queueDrops ∧
    (silenceTest a s).host.attention = s.host.attention := by
  simp only [silenceTest]
  (repeat' split) <;> simp

/-- What `allSilenceTests` leaves as it was. -/
@[simp] theorem allSilenceTests_frame (s : State) :
    (allSilenceTests s).power = s.power ∧
    (allSilenceTests s).now = s.now ∧
    (allSilenceTests s).straps = s.straps ∧
    (allSilenceTests s).rateStraps = s.rateStraps ∧
    (allSilenceTests s).mill = s.mill ∧
    (allSilenceTests s).stands = s.stands ∧
    (allSilenceTests s).track = s.track ∧
    (allSilenceTests s).store = s.store ∧
    (allSilenceTests s).demands = s.demands ∧
    (allSilenceTests s).link = s.link ∧
    (allSilenceTests s).pending = s.pending ∧
    (allSilenceTests s).host.asm = s.host.asm ∧
    (allSilenceTests s).host.content = s.host.content ∧
    (allSilenceTests s).host.inputQueue = s.host.inputQueue ∧
    (allSilenceTests s).host.reply = s.host.reply ∧
    (allSilenceTests s).host.crcDrops = s.host.crcDrops ∧
    (allSilenceTests s).host.formatDrops = s.host.formatDrops ∧
    (allSilenceTests s).host.queueDrops = s.host.queueDrops ∧
    (allSilenceTests s).host.attention = s.host.attention := by
  simp only [allSilenceTests]
  simp [foldl_power, foldl_now, foldl_straps, foldl_rateStraps, foldl_mill, foldl_stands, foldl_track, foldl_store, foldl_demands, foldl_link, foldl_pending, foldl_host_asm, foldl_host_content, foldl_host_inputQueue, foldl_host_reply, foldl_host_crcDrops, foldl_host_formatDrops, foldl_host_queueDrops, foldl_host_attention]

/-- What `targetFailures` leaves as it was. -/
@[simp] theorem targetFailures_frame (e : TxnEnd) (target : Option Node) (s : State) :
    (targetFailures e target s).power = s.power ∧
    (targetFailures e target s).now = s.now ∧
    (targetFailures e target s).straps = s.straps ∧
    (targetFailures e target s).rateStraps = s.rateStraps ∧
    (targetFailures e target s).mill = s.mill ∧
    (targetFailures e target s).stands = s.stands ∧
    (targetFailures e target s).track = s.track ∧
    (targetFailures e target s).store = s.store ∧
    (targetFailures e target s).demands = s.demands ∧
    (targetFailures e target s).link = s.link ∧
    (targetFailures e target s).pending = s.pending ∧
    (targetFailures e target s).host.asm = s.host.asm ∧
    (targetFailures e target s).host.content = s.host.content ∧
    (targetFailures e target s).host.inputQueue = s.host.inputQueue ∧
    (targetFailures e target s).host.reply = s.host.reply ∧
    (targetFailures e target s).host.crcDrops = s.host.crcDrops ∧
    (targetFailures e target s).host.formatDrops = s.host.formatDrops ∧
    (targetFailures e target s).host.queueDrops = s.host.queueDrops ∧
    (targetFailures e target s).host.attention = s.host.attention := by
  simp only [targetFailures]
  (repeat' split) <;> simp

/-- What `handOn` leaves as it was. -/
@[simp] theorem handOn_frame (item : Item) (e : TxnEnd) (s : State) :
    (handOn item e s).power = s.power ∧
    (handOn item e s).now = s.now ∧
    (handOn item e s).straps = s.straps ∧
    (handOn item e s).rateStraps = s.rateStraps ∧
    (handOn item e s).mill = s.mill ∧
    (handOn item e s).stands = s.stands ∧
    (handOn item e s).track = s.track ∧
    (handOn item e s).store = s.store ∧
    (handOn item e s).demands = s.demands ∧
    (handOn item e s).nodes = s.nodes ∧
    (handOn item e s).link = s.link ∧
    (handOn item e s).pending = s.pending ∧
    (handOn item e s).host.asm = s.host.asm ∧
    (handOn item e s).host.content = s.host.content ∧
    (handOn item e s).host.inputQueue = s.host.inputQueue ∧
    (handOn item e s).host.reply = s.host.reply ∧
    (handOn item e s).host.crcDrops = s.host.crcDrops ∧
    (handOn item e s).host.formatDrops = s.host.formatDrops ∧
    (handOn item e s).host.queueDrops = s.host.queueDrops ∧
    (handOn item e s).host.attention = s.host.attention := by
  simp only [handOn]
  (repeat' split) <;> simp

/-- What `releaseLink` leaves as it was. -/
@[simp] theorem releaseLink_frame (s : State) :
    (releaseLink s).power = s.power ∧
    (releaseLink s).now = s.now ∧
    (releaseLink s).straps = s.straps ∧
    (releaseLink s).rateStraps = s.rateStraps ∧
    (releaseLink s).mill = s.mill ∧
    (releaseLink s).stands = s.stands ∧
    (releaseLink s).track = s.track ∧
    (releaseLink s).gauges = s.gauges ∧
    (releaseLink s).store = s.store ∧
    (releaseLink s).demands = s.demands ∧
    (releaseLink s).actuators = s.actuators ∧
    (releaseLink s).trips = s.trips ∧
    (releaseLink s).nodes = s.nodes ∧
    (releaseLink s).host = s.host ∧
    (releaseLink s).pending = s.pending := by
  simp only [releaseLink]
  simp

/-- What `endTxn` leaves as it was. -/
@[simp] theorem endTxn_frame (f : InFlight) (e : TxnEnd) (s : State) :
    (endTxn f e s).power = s.power ∧
    (endTxn f e s).now = s.now ∧
    (endTxn f e s).straps = s.straps ∧
    (endTxn f e s).rateStraps = s.rateStraps ∧
    (endTxn f e s).mill = s.mill ∧
    (endTxn f e s).stands = s.stands ∧
    (endTxn f e s).track = s.track ∧
    (endTxn f e s).store = s.store ∧
    (endTxn f e s).demands = s.demands ∧
    (endTxn f e s).pending = s.pending ∧
    (endTxn f e s).host.asm = s.host.asm ∧
    (endTxn f e s).host.content = s.host.content ∧
    (endTxn f e s).host.inputQueue = s.host.inputQueue ∧
    (endTxn f e s).host.reply = s.host.reply ∧
    (endTxn f e s).host.crcDrops = s.host.crcDrops ∧
    (endTxn f e s).host.formatDrops = s.host.formatDrops ∧
    (endTxn f e s).host.queueDrops = s.host.queueDrops ∧
    (endTxn f e s).host.attention = s.host.attention := by
  simp only [endTxn]
  simp

/-- What `abandonForUrgent` leaves as it was. -/
@[simp] theorem abandonForUrgent_frame (s : State) :
    (abandonForUrgent s).power = s.power ∧
    (abandonForUrgent s).now = s.now ∧
    (abandonForUrgent s).straps = s.straps ∧
    (abandonForUrgent s).rateStraps = s.rateStraps ∧
    (abandonForUrgent s).mill = s.mill ∧
    (abandonForUrgent s).stands = s.stands ∧
    (abandonForUrgent s).track = s.track ∧
    (abandonForUrgent s).store = s.store ∧
    (abandonForUrgent s).demands = s.demands ∧
    (abandonForUrgent s).pending = s.pending ∧
    (abandonForUrgent s).host.asm = s.host.asm ∧
    (abandonForUrgent s).host.content = s.host.content ∧
    (abandonForUrgent s).host.inputQueue = s.host.inputQueue ∧
    (abandonForUrgent s).host.reply = s.host.reply ∧
    (abandonForUrgent s).host.crcDrops = s.host.crcDrops ∧
    (abandonForUrgent s).host.formatDrops = s.host.formatDrops ∧
    (abandonForUrgent s).host.queueDrops = s.host.queueDrops ∧
    (abandonForUrgent s).host.attention = s.host.attention := by
  simp only [abandonForUrgent]
  (repeat' split) <;> simp

/-- What `opportunity` leaves as it was. -/
@[simp] theorem opportunity_frame (s : State) :
    (opportunity s).power = s.power ∧
    (opportunity s).now = s.now ∧
    (opportunity s).straps = s.straps ∧
    (opportunity s).rateStraps = s.rateStraps ∧
    (opportunity s).mill = s.mill ∧
    (opportunity s).stands = s.stands ∧
    (opportunity s).track = s.track ∧
    (opportunity s).gauges = s.gauges ∧
    (opportunity s).store = s.store ∧
    (opportunity s).demands = s.demands ∧
    (opportunity s).actuators = s.actuators ∧
    (opportunity s).trips = s.trips ∧
    (opportunity s).nodes = s.nodes ∧
    (opportunity s).host = s.host ∧
    (opportunity s).pending = s.pending := by
  simp only [opportunity]
  (repeat' split) <;> simp

/-- What `markInFlight` leaves as it was. -/
@[simp] theorem markInFlight_frame (item : Item) (s : State) :
    (markInFlight item s).power = s.power ∧
    (markInFlight item s).now = s.now ∧
    (markInFlight item s).straps = s.straps ∧
    (markInFlight item s).rateStraps = s.rateStraps ∧
    (markInFlight item s).mill = s.mill ∧
    (markInFlight item s).stands = s.stands ∧
    (markInFlight item s).track = s.track ∧
    (markInFlight item s).store = s.store ∧
    (markInFlight item s).demands = s.demands ∧
    (markInFlight item s).trips = s.trips ∧
    (markInFlight item s).nodes = s.nodes ∧
    (markInFlight item s).link = s.link ∧
    (markInFlight item s).host = s.host ∧
    (markInFlight item s).pending = s.pending := by
  simp only [markInFlight]
  (repeat' split) <;> simp

/-- What `winArbitration` leaves as it was. -/
@[simp] theorem winArbitration_frame (nodeContended : Bool) (s : State) :
    (winArbitration nodeContended s).power = s.power ∧
    (winArbitration nodeContended s).now = s.now ∧
    (winArbitration nodeContended s).straps = s.straps ∧
    (winArbitration nodeContended s).rateStraps = s.rateStraps ∧
    (winArbitration nodeContended s).mill = s.mill ∧
    (winArbitration nodeContended s).stands = s.stands ∧
    (winArbitration nodeContended s).track = s.track ∧
    (winArbitration nodeContended s).store = s.store ∧
    (winArbitration nodeContended s).demands = s.demands ∧
    (winArbitration nodeContended s).trips = s.trips ∧
    (winArbitration nodeContended s).nodes = s.nodes ∧
    (winArbitration nodeContended s).host = s.host ∧
    (winArbitration nodeContended s).pending = s.pending := by
  simp only [winArbitration]
  (repeat' split) <;> simp

/-- What `nodeWins` leaves as it was. -/
@[simp] theorem nodeWins_frame (urgent : Bool) (address : BitVec 4) (s : State) :
    (nodeWins urgent address s).power = s.power ∧
    (nodeWins urgent address s).now = s.now ∧
    (nodeWins urgent address s).straps = s.straps ∧
    (nodeWins urgent address s).rateStraps = s.rateStraps ∧
    (nodeWins urgent address s).mill = s.mill ∧
    (nodeWins urgent address s).stands = s.stands ∧
    (nodeWins urgent address s).track = s.track ∧
    (nodeWins urgent address s).gauges = s.gauges ∧
    (nodeWins urgent address s).store = s.store ∧
    (nodeWins urgent address s).demands = s.demands ∧
    (nodeWins urgent address s).actuators = s.actuators ∧
    (nodeWins urgent address s).trips = s.trips ∧
    (nodeWins urgent address s).nodes = s.nodes ∧
    (nodeWins urgent address s).host = s.host ∧
    (nodeWins urgent address s).pending = s.pending := by
  simp only [nodeWins]
  (repeat' split) <;> simp

/-- What `releaseHold` leaves as it was. -/
@[simp] theorem releaseHold_frame (s : State) :
    (releaseHold s).power = s.power ∧
    (releaseHold s).now = s.now ∧
    (releaseHold s).straps = s.straps ∧
    (releaseHold s).rateStraps = s.rateStraps ∧
    (releaseHold s).mill = s.mill ∧
    (releaseHold s).stands = s.stands ∧
    (releaseHold s).track = s.track ∧
    (releaseHold s).gauges = s.gauges ∧
    (releaseHold s).store = s.store ∧
    (releaseHold s).demands = s.demands ∧
    (releaseHold s).actuators = s.actuators ∧
    (releaseHold s).trips = s.trips ∧
    (releaseHold s).nodes = s.nodes ∧
    (releaseHold s).host = s.host ∧
    (releaseHold s).pending = s.pending := by
  simp only [releaseHold]
  (repeat' split) <;> simp

/-- What `frameSent` leaves as it was. -/
@[simp] theorem frameSent_frame (s : State) :
    (frameSent s).power = s.power ∧
    (frameSent s).now = s.now ∧
    (frameSent s).straps = s.straps ∧
    (frameSent s).rateStraps = s.rateStraps ∧
    (frameSent s).mill = s.mill ∧
    (frameSent s).stands = s.stands ∧
    (frameSent s).track = s.track ∧
    (frameSent s).gauges = s.gauges ∧
    (frameSent s).store = s.store ∧
    (frameSent s).demands = s.demands ∧
    (frameSent s).actuators = s.actuators ∧
    (frameSent s).trips = s.trips ∧
    (frameSent s).nodes = s.nodes ∧
    (frameSent s).host = s.host ∧
    (frameSent s).pending = s.pending := by
  simp only [frameSent]
  (repeat' split) <;> simp

/-- What `broadcastSent` leaves as it was. -/
@[simp] theorem broadcastSent_frame (s : State) :
    (broadcastSent s).power = s.power ∧
    (broadcastSent s).now = s.now ∧
    (broadcastSent s).straps = s.straps ∧
    (broadcastSent s).rateStraps = s.rateStraps ∧
    (broadcastSent s).mill = s.mill ∧
    (broadcastSent s).stands = s.stands ∧
    (broadcastSent s).track = s.track ∧
    (broadcastSent s).gauges = s.gauges ∧
    (broadcastSent s).store = s.store ∧
    (broadcastSent s).demands = s.demands ∧
    (broadcastSent s).actuators = s.actuators ∧
    (broadcastSent s).nodes = s.nodes ∧
    (broadcastSent s).host = s.host ∧
    (broadcastSent s).pending = s.pending := by
  simp only [broadcastSent]
  (repeat' split) <;> simp

/-- What `responseByte` leaves as it was. -/
@[simp] theorem responseByte_frame (b : Byte) (parity : Bool) (s : State) :
    (responseByte b parity s).power = s.power ∧
    (responseByte b parity s).now = s.now ∧
    (responseByte b parity s).straps = s.straps ∧
    (responseByte b parity s).rateStraps = s.rateStraps ∧
    (responseByte b parity s).mill = s.mill ∧
    (responseByte b parity s).stands = s.stands ∧
    (responseByte b parity s).track = s.track ∧
    (responseByte b parity s).store = s.store ∧
    (responseByte b parity s).demands = s.demands ∧
    (responseByte b parity s).pending = s.pending ∧
    (responseByte b parity s).host.asm = s.host.asm ∧
    (responseByte b parity s).host.content = s.host.content ∧
    (responseByte b parity s).host.inputQueue = s.host.inputQueue ∧
    (responseByte b parity s).host.reply = s.host.reply ∧
    (responseByte b parity s).host.crcDrops = s.host.crcDrops ∧
    (responseByte b parity s).host.formatDrops = s.host.formatDrops ∧
    (responseByte b parity s).host.queueDrops = s.host.queueDrops ∧
    (responseByte b parity s).host.attention = s.host.attention := by
  simp only [responseByte]
  (repeat' split) <;> simp

/-- What `responseExpiry` leaves as it was. -/
@[simp] theorem responseExpiry_frame (elapsedUs : Nat) (s : State) :
    (responseExpiry elapsedUs s).power = s.power ∧
    (responseExpiry elapsedUs s).now = s.now ∧
    (responseExpiry elapsedUs s).straps = s.straps ∧
    (responseExpiry elapsedUs s).rateStraps = s.rateStraps ∧
    (responseExpiry elapsedUs s).mill = s.mill ∧
    (responseExpiry elapsedUs s).stands = s.stands ∧
    (responseExpiry elapsedUs s).track = s.track ∧
    (responseExpiry elapsedUs s).store = s.store ∧
    (responseExpiry elapsedUs s).demands = s.demands ∧
    (responseExpiry elapsedUs s).pending = s.pending ∧
    (responseExpiry elapsedUs s).host.asm = s.host.asm ∧
    (responseExpiry elapsedUs s).host.content = s.host.content ∧
    (responseExpiry elapsedUs s).host.inputQueue = s.host.inputQueue ∧
    (responseExpiry elapsedUs s).host.reply = s.host.reply ∧
    (responseExpiry elapsedUs s).host.crcDrops = s.host.crcDrops ∧
    (responseExpiry elapsedUs s).host.formatDrops = s.host.formatDrops ∧
    (responseExpiry elapsedUs s).host.queueDrops = s.host.queueDrops ∧
    (responseExpiry elapsedUs s).host.attention = s.host.attention := by
  simp only [responseExpiry]
  (repeat' split) <;> simp

/-- What `deliverStand` leaves as it was. -/
@[simp] theorem deliverStand_frame (a : Node) (i : Stand) (r : StandReport) (s : State) :
    (deliverStand a i r s).power = s.power ∧
    (deliverStand a i r s).now = s.now ∧
    (deliverStand a i r s).straps = s.straps ∧
    (deliverStand a i r s).rateStraps = s.rateStraps ∧
    (deliverStand a i r s).mill = s.mill ∧
    (deliverStand a i r s).stands = s.stands ∧
    (deliverStand a i r s).link = s.link ∧
    (deliverStand a i r s).pending = s.pending ∧
    (deliverStand a i r s).host.asm = s.host.asm ∧
    (deliverStand a i r s).host.content = s.host.content ∧
    (deliverStand a i r s).host.inputQueue = s.host.inputQueue ∧
    (deliverStand a i r s).host.reply = s.host.reply ∧
    (deliverStand a i r s).host.crcDrops = s.host.crcDrops ∧
    (deliverStand a i r s).host.formatDrops = s.host.formatDrops ∧
    (deliverStand a i r s).host.queueDrops = s.host.queueDrops ∧
    (deliverStand a i r s).host.attention = s.host.attention := by
  simp only [deliverStand]
  simp

/-- What `deliverEntry` leaves as it was. -/
@[simp] theorem deliverEntry_frame (a : Node) (r : EntryReport) (s : State) :
    (deliverEntry a r s).power = s.power ∧
    (deliverEntry a r s).now = s.now ∧
    (deliverEntry a r s).straps = s.straps ∧
    (deliverEntry a r s).rateStraps = s.rateStraps ∧
    (deliverEntry a r s).mill = s.mill ∧
    (deliverEntry a r s).stands = s.stands ∧
    (deliverEntry a r s).link = s.link ∧
    (deliverEntry a r s).pending = s.pending ∧
    (deliverEntry a r s).host.asm = s.host.asm ∧
    (deliverEntry a r s).host.content = s.host.content ∧
    (deliverEntry a r s).host.inputQueue = s.host.inputQueue ∧
    (deliverEntry a r s).host.reply = s.host.reply ∧
    (deliverEntry a r s).host.crcDrops = s.host.crcDrops ∧
    (deliverEntry a r s).host.formatDrops = s.host.formatDrops ∧
    (deliverEntry a r s).host.queueDrops = s.host.queueDrops ∧
    (deliverEntry a r s).host.attention = s.host.attention := by
  simp only [deliverEntry]
  simp

/-- What `deliverSample` leaves as it was. -/
@[simp] theorem deliverSample_frame (a : Node) (p : Gauge) (r : GaugeSample) (s : State) :
    (deliverSample a p r s).power = s.power ∧
    (deliverSample a p r s).now = s.now ∧
    (deliverSample a p r s).straps = s.straps ∧
    (deliverSample a p r s).rateStraps = s.rateStraps ∧
    (deliverSample a p r s).mill = s.mill ∧
    (deliverSample a p r s).stands = s.stands ∧
    (deliverSample a p r s).store = s.store ∧
    (deliverSample a p r s).demands = s.demands ∧
    (deliverSample a p r s).actuators = s.actuators ∧
    (deliverSample a p r s).trips = s.trips ∧
    (deliverSample a p r s).link = s.link ∧
    (deliverSample a p r s).pending = s.pending ∧
    (deliverSample a p r s).host.asm = s.host.asm ∧
    (deliverSample a p r s).host.content = s.host.content ∧
    (deliverSample a p r s).host.inputQueue = s.host.inputQueue ∧
    (deliverSample a p r s).host.reply = s.host.reply ∧
    (deliverSample a p r s).host.crcDrops = s.host.crcDrops ∧
    (deliverSample a p r s).host.formatDrops = s.host.formatDrops ∧
    (deliverSample a p r s).host.queueDrops = s.host.queueDrops ∧
    (deliverSample a p r s).host.attention = s.host.attention := by
  simp only [deliverSample]
  simp

/-- What `rejectFrame` leaves as it was. -/
@[simp] theorem rejectFrame_frame (sender : BitVec 4) (s : State) :
    (rejectFrame sender s).power = s.power ∧
    (rejectFrame sender s).now = s.now ∧
    (rejectFrame sender s).straps = s.straps ∧
    (rejectFrame sender s).rateStraps = s.rateStraps ∧
    (rejectFrame sender s).mill = s.mill ∧
    (rejectFrame sender s).stands = s.stands ∧
    (rejectFrame sender s).track = s.track ∧
    (rejectFrame sender s).store = s.store ∧
    (rejectFrame sender s).demands = s.demands ∧
    (rejectFrame sender s).pending = s.pending ∧
    (rejectFrame sender s).host.asm = s.host.asm ∧
    (rejectFrame sender s).host.content = s.host.content ∧
    (rejectFrame sender s).host.inputQueue = s.host.inputQueue ∧
    (rejectFrame sender s).host.reply = s.host.reply ∧
    (rejectFrame sender s).host.crcDrops = s.host.crcDrops ∧
    (rejectFrame sender s).host.formatDrops = s.host.formatDrops ∧
    (rejectFrame sender s).host.queueDrops = s.host.queueDrops ∧
    (rejectFrame sender s).host.attention = s.host.attention := by
  simp only [rejectFrame]
  (repeat' split) <;> simp

/-- What `receiveFrame` leaves as it was. -/
@[simp] theorem receiveFrame_frame (f : NodeFrame) (s : State) :
    (receiveFrame f s).power = s.power ∧
    (receiveFrame f s).now = s.now ∧
    (receiveFrame f s).straps = s.straps ∧
    (receiveFrame f s).rateStraps = s.rateStraps ∧
    (receiveFrame f s).mill = s.mill ∧
    (receiveFrame f s).stands = s.stands ∧
    (receiveFrame f s).pending = s.pending ∧
    (receiveFrame f s).host.asm = s.host.asm ∧
    (receiveFrame f s).host.content = s.host.content ∧
    (receiveFrame f s).host.inputQueue = s.host.inputQueue ∧
    (receiveFrame f s).host.reply = s.host.reply ∧
    (receiveFrame f s).host.crcDrops = s.host.crcDrops ∧
    (receiveFrame f s).host.formatDrops = s.host.formatDrops ∧
    (receiveFrame f s).host.queueDrops = s.host.queueDrops ∧
    (receiveFrame f s).host.attention = s.host.attention := by
  simp only [receiveFrame]
  (repeat' split) <;> simp

/-- What `startPulse` leaves as it was. -/
@[simp] theorem startPulse_frame (s : State) :
    (startPulse s).power = s.power ∧
    (startPulse s).now = s.now ∧
    (startPulse s).straps = s.straps ∧
    (startPulse s).rateStraps = s.rateStraps ∧
    (startPulse s).mill = s.mill ∧
    (startPulse s).stands = s.stands ∧
    (startPulse s).track = s.track ∧
    (startPulse s).store = s.store ∧
    (startPulse s).demands = s.demands ∧
    (startPulse s).pending = s.pending ∧
    (startPulse s).host.asm = s.host.asm ∧
    (startPulse s).host.content = s.host.content ∧
    (startPulse s).host.inputQueue = s.host.inputQueue ∧
    (startPulse s).host.reply = s.host.reply ∧
    (startPulse s).host.crcDrops = s.host.crcDrops ∧
    (startPulse s).host.formatDrops = s.host.formatDrops ∧
    (startPulse s).host.queueDrops = s.host.queueDrops ∧
    (startPulse s).host.attention = s.host.attention := by
  simp only [startPulse]
  split <;> (try simp only [endTxn_frame]) <;> exact ⟨(foldl_power _ (by intros; simp) _ _).trans rfl,
    (foldl_now _ (by intros; simp) _ _).trans rfl,
    (foldl_straps _ (by intros; simp) _ _).trans rfl,
    (foldl_rateStraps _ (by intros; simp) _ _).trans rfl,
    (foldl_mill _ (by intros; simp) _ _).trans rfl,
    (foldl_stands _ (by intros; simp) _ _).trans rfl,
    (foldl_track _ (by intros; simp) _ _).trans rfl,
    (foldl_store _ (by intros; simp) _ _).trans rfl,
    (foldl_demands _ (by intros; simp) _ _).trans rfl,
    (foldl_pending _ (by intros; simp) _ _).trans rfl,
    (foldl_host_asm _ (by intros; simp) _ _).trans rfl,
    (foldl_host_content _ (by intros; simp) _ _).trans rfl,
    (foldl_host_inputQueue _ (by intros; simp) _ _).trans rfl,
    (foldl_host_reply _ (by intros; simp) _ _).trans rfl,
    (foldl_host_crcDrops _ (by intros; simp) _ _).trans rfl,
    (foldl_host_formatDrops _ (by intros; simp) _ _).trans rfl,
    (foldl_host_queueDrops _ (by intros; simp) _ _).trans rfl,
    (foldl_host_attention _ (by intros; simp) _ _).trans rfl⟩

/-- What `stuckDetected` leaves as it was. -/
@[simp] theorem stuckDetected_frame (heldUs : Nat) (s : State) :
    (stuckDetected heldUs s).power = s.power ∧
    (stuckDetected heldUs s).now = s.now ∧
    (stuckDetected heldUs s).straps = s.straps ∧
    (stuckDetected heldUs s).rateStraps = s.rateStraps ∧
    (stuckDetected heldUs s).mill = s.mill ∧
    (stuckDetected heldUs s).stands = s.stands ∧
    (stuckDetected heldUs s).track = s.track ∧
    (stuckDetected heldUs s).store = s.store ∧
    (stuckDetected heldUs s).demands = s.demands ∧
    (stuckDetected heldUs s).pending = s.pending ∧
    (stuckDetected heldUs s).host.asm = s.host.asm ∧
    (stuckDetected heldUs s).host.content = s.host.content ∧
    (stuckDetected heldUs s).host.inputQueue = s.host.inputQueue ∧
    (stuckDetected heldUs s).host.reply = s.host.reply ∧
    (stuckDetected heldUs s).host.crcDrops = s.host.crcDrops ∧
    (stuckDetected heldUs s).host.formatDrops = s.host.formatDrops ∧
    (stuckDetected heldUs s).host.queueDrops = s.host.queueDrops ∧
    (stuckDetected heldUs s).host.attention = s.host.attention := by
  simp only [stuckDetected]
  (repeat' split) <;> simp

/-- What `pulseEnd` leaves as it was. -/
@[simp] theorem pulseEnd_frame (s : State) :
    (pulseEnd s).power = s.power ∧
    (pulseEnd s).now = s.now ∧
    (pulseEnd s).straps = s.straps ∧
    (pulseEnd s).rateStraps = s.rateStraps ∧
    (pulseEnd s).mill = s.mill ∧
    (pulseEnd s).stands = s.stands ∧
    (pulseEnd s).track = s.track ∧
    (pulseEnd s).gauges = s.gauges ∧
    (pulseEnd s).store = s.store ∧
    (pulseEnd s).demands = s.demands ∧
    (pulseEnd s).actuators = s.actuators ∧
    (pulseEnd s).trips = s.trips ∧
    (pulseEnd s).nodes = s.nodes ∧
    (pulseEnd s).host = s.host ∧
    (pulseEnd s).pending = s.pending := by
  simp only [pulseEnd]
  (repeat' split) <;> simp

/-- What `forgetDrive` leaves as it was. -/
@[simp] theorem forgetDrive_frame (a : Node) (r : Role) (s : State) :
    (forgetDrive a r s).power = s.power ∧
    (forgetDrive a r s).now = s.now ∧
    (forgetDrive a r s).straps = s.straps ∧
    (forgetDrive a r s).rateStraps = s.rateStraps ∧
    (forgetDrive a r s).mill = s.mill ∧
    (forgetDrive a r s).stands = s.stands ∧
    (forgetDrive a r s).track = s.track ∧
    (forgetDrive a r s).gauges = s.gauges ∧
    (forgetDrive a r s).store = s.store ∧
    (forgetDrive a r s).demands = s.demands ∧
    (forgetDrive a r s).actuators = s.actuators ∧
    (forgetDrive a r s).nodes = s.nodes ∧
    (forgetDrive a r s).link = s.link ∧
    (forgetDrive a r s).host = s.host ∧
    (forgetDrive a r s).pending = s.pending := by
  simp only [forgetDrive]
  (repeat' split) <;> simp

/-- What `removeStand` leaves as it was. -/
@[simp] theorem removeStand_frame (i : Stand) (s : State) :
    (removeStand i s).power = s.power ∧
    (removeStand i s).now = s.now ∧
    (removeStand i s).straps = s.straps ∧
    (removeStand i s).rateStraps = s.rateStraps ∧
    (removeStand i s).mill = s.mill ∧
    (removeStand i s).track = s.track ∧
    (removeStand i s).gauges = s.gauges ∧
    (removeStand i s).store = s.store ∧
    (removeStand i s).trips = s.trips ∧
    (removeStand i s).link = s.link ∧
    (removeStand i s).host = s.host ∧
    (removeStand i s).pending = s.pending := by
  simp only [removeStand]
  simp

/-- What `removeGauge` leaves as it was. -/
@[simp] theorem removeGauge_frame (p : Gauge) (s : State) :
    (removeGauge p s).power = s.power ∧
    (removeGauge p s).now = s.now ∧
    (removeGauge p s).straps = s.straps ∧
    (removeGauge p s).rateStraps = s.rateStraps ∧
    (removeGauge p s).mill = s.mill ∧
    (removeGauge p s).stands = s.stands ∧
    (removeGauge p s).track = s.track ∧
    (removeGauge p s).store = s.store ∧
    (removeGauge p s).demands = s.demands ∧
    (removeGauge p s).actuators = s.actuators ∧
    (removeGauge p s).trips = s.trips ∧
    (removeGauge p s).link = s.link ∧
    (removeGauge p s).host = s.host ∧
    (removeGauge p s).pending = s.pending := by
  simp only [removeGauge]
  simp

/-- What `millEffect` leaves as it was. -/
@[simp] theorem millEffect_frame (p : MillParams) (a : Node) (s : State) :
    (millEffect p a s).power = s.power ∧
    (millEffect p a s).now = s.now ∧
    (millEffect p a s).straps = s.straps ∧
    (millEffect p a s).rateStraps = s.rateStraps ∧
    (millEffect p a s).track = s.track ∧
    (millEffect p a s).store = s.store ∧
    (millEffect p a s).link = s.link ∧
    (millEffect p a s).pending = s.pending ∧
    (millEffect p a s).host.asm = s.host.asm ∧
    (millEffect p a s).host.content = s.host.content ∧
    (millEffect p a s).host.inputQueue = s.host.inputQueue ∧
    (millEffect p a s).host.reply = s.host.reply ∧
    (millEffect p a s).host.crcDrops = s.host.crcDrops ∧
    (millEffect p a s).host.formatDrops = s.host.formatDrops ∧
    (millEffect p a s).host.queueDrops = s.host.queueDrops ∧
    (millEffect p a s).host.attention = s.host.attention := by
  simp only [millEffect]
  simp [foldl_power, foldl_now, foldl_straps, foldl_rateStraps, foldl_track, foldl_store, foldl_link, foldl_pending, foldl_host_asm, foldl_host_content, foldl_host_inputQueue, foldl_host_reply, foldl_host_crcDrops, foldl_host_formatDrops, foldl_host_queueDrops, foldl_host_attention, apply_ite State.power, apply_ite State.now, apply_ite State.straps, apply_ite State.rateStraps, apply_ite State.track, apply_ite State.store, apply_ite State.link, apply_ite State.pending, apply_ite State.host]

/-- What `serveConfigureMill` leaves as it was. -/
@[simp] theorem serveConfigureMill_frame (p : MillParams) (s : State) :
    (serveConfigureMill p s).1.power = s.power ∧
    (serveConfigureMill p s).1.now = s.now ∧
    (serveConfigureMill p s).1.straps = s.straps ∧
    (serveConfigureMill p s).1.rateStraps = s.rateStraps ∧
    (serveConfigureMill p s).1.track = s.track ∧
    (serveConfigureMill p s).1.store = s.store ∧
    (serveConfigureMill p s).1.link = s.link ∧
    (serveConfigureMill p s).1.pending = s.pending ∧
    (serveConfigureMill p s).1.host.asm = s.host.asm ∧
    (serveConfigureMill p s).1.host.content = s.host.content ∧
    (serveConfigureMill p s).1.host.inputQueue = s.host.inputQueue ∧
    (serveConfigureMill p s).1.host.reply = s.host.reply ∧
    (serveConfigureMill p s).1.host.crcDrops = s.host.crcDrops ∧
    (serveConfigureMill p s).1.host.formatDrops = s.host.formatDrops ∧
    (serveConfigureMill p s).1.host.queueDrops = s.host.queueDrops ∧
    (serveConfigureMill p s).1.host.attention = s.host.attention := by
  simp only [serveConfigureMill, accept, refuse, badParam]
  (repeat' split) <;> simp

/-- What `standEffect` leaves as it was. -/
@[simp] theorem standEffect_frame (p : StandParams) (i : Stand) (a : Node) (s : State) :
    (standEffect p i a s).power = s.power ∧
    (standEffect p i a s).now = s.now ∧
    (standEffect p i a s).straps = s.straps ∧
    (standEffect p i a s).rateStraps = s.rateStraps ∧
    (standEffect p i a s).mill = s.mill ∧
    (standEffect p i a s).track = s.track ∧
    (standEffect p i a s).gauges = s.gauges ∧
    (standEffect p i a s).store = s.store ∧
    (standEffect p i a s).link = s.link ∧
    (standEffect p i a s).pending = s.pending ∧
    (standEffect p i a s).host.asm = s.host.asm ∧
    (standEffect p i a s).host.content = s.host.content ∧
    (standEffect p i a s).host.inputQueue = s.host.inputQueue ∧
    (standEffect p i a s).host.reply = s.host.reply ∧
    (standEffect p i a s).host.crcDrops = s.host.crcDrops ∧
    (standEffect p i a s).host.formatDrops = s.host.formatDrops ∧
    (standEffect p i a s).host.queueDrops = s.host.queueDrops ∧
    (standEffect p i a s).host.attention = s.host.attention := by
  simp only [standEffect]
  simp

/-- What `serveConfigureStand` leaves as it was. -/
@[simp] theorem serveConfigureStand_frame (p : StandParams) (s : State) :
    (serveConfigureStand p s).1.power = s.power ∧
    (serveConfigureStand p s).1.now = s.now ∧
    (serveConfigureStand p s).1.straps = s.straps ∧
    (serveConfigureStand p s).1.rateStraps = s.rateStraps ∧
    (serveConfigureStand p s).1.mill = s.mill ∧
    (serveConfigureStand p s).1.track = s.track ∧
    (serveConfigureStand p s).1.gauges = s.gauges ∧
    (serveConfigureStand p s).1.store = s.store ∧
    (serveConfigureStand p s).1.link = s.link ∧
    (serveConfigureStand p s).1.pending = s.pending ∧
    (serveConfigureStand p s).1.host.asm = s.host.asm ∧
    (serveConfigureStand p s).1.host.content = s.host.content ∧
    (serveConfigureStand p s).1.host.inputQueue = s.host.inputQueue ∧
    (serveConfigureStand p s).1.host.reply = s.host.reply ∧
    (serveConfigureStand p s).1.host.crcDrops = s.host.crcDrops ∧
    (serveConfigureStand p s).1.host.formatDrops = s.host.formatDrops ∧
    (serveConfigureStand p s).1.host.queueDrops = s.host.queueDrops ∧
    (serveConfigureStand p s).1.host.attention = s.host.attention := by
  simp only [serveConfigureStand, accept, refuse, badParam]
  (repeat' split) <;> simp

/-- What `serveConfigureGauge` leaves as it was. -/
@[simp] theorem serveConfigureGauge_frame (p : GaugeParams) (s : State) :
    (serveConfigureGauge p s).1.power = s.power ∧
    (serveConfigureGauge p s).1.now = s.now ∧
    (serveConfigureGauge p s).1.straps = s.straps ∧
    (serveConfigureGauge p s).1.rateStraps = s.rateStraps ∧
    (serveConfigureGauge p s).1.mill = s.mill ∧
    (serveConfigureGauge p s).1.stands = s.stands ∧
    (serveConfigureGauge p s).1.track = s.track ∧
    (serveConfigureGauge p s).1.store = s.store ∧
    (serveConfigureGauge p s).1.demands = s.demands ∧
    (serveConfigureGauge p s).1.actuators = s.actuators ∧
    (serveConfigureGauge p s).1.trips = s.trips ∧
    (serveConfigureGauge p s).1.link = s.link ∧
    (serveConfigureGauge p s).1.host = s.host ∧
    (serveConfigureGauge p s).1.pending = s.pending := by
  simp only [serveConfigureGauge, accept, refuse, badParam]
  (repeat' split) <;> simp

/-- What `serveStatus` leaves as it was. -/
@[simp] theorem serveStatus_frame (clear : Byte) (s : State) :
    (serveStatus clear s).1.power = s.power ∧
    (serveStatus clear s).1.now = s.now ∧
    (serveStatus clear s).1.straps = s.straps ∧
    (serveStatus clear s).1.rateStraps = s.rateStraps ∧
    (serveStatus clear s).1.mill = s.mill ∧
    (serveStatus clear s).1.stands = s.stands ∧
    (serveStatus clear s).1.track = s.track ∧
    (serveStatus clear s).1.gauges = s.gauges ∧
    (serveStatus clear s).1.store = s.store ∧
    (serveStatus clear s).1.demands = s.demands ∧
    (serveStatus clear s).1.actuators = s.actuators ∧
    (serveStatus clear s).1.trips = s.trips ∧
    (serveStatus clear s).1.nodes = s.nodes ∧
    (serveStatus clear s).1.link = s.link ∧
    (serveStatus clear s).1.pending = s.pending := by
  simp only [serveStatus, accept, badParam]
  (repeat' split) <;> simp

/-- What `serveReadEvents` leaves as it was. -/
@[simp] theorem serveReadEvents_frame (max : Byte) (s : State) :
    (serveReadEvents max s).1.power = s.power ∧
    (serveReadEvents max s).1.now = s.now ∧
    (serveReadEvents max s).1.straps = s.straps ∧
    (serveReadEvents max s).1.rateStraps = s.rateStraps ∧
    (serveReadEvents max s).1.mill = s.mill ∧
    (serveReadEvents max s).1.stands = s.stands ∧
    (serveReadEvents max s).1.track = s.track ∧
    (serveReadEvents max s).1.gauges = s.gauges ∧
    (serveReadEvents max s).1.store = s.store ∧
    (serveReadEvents max s).1.demands = s.demands ∧
    (serveReadEvents max s).1.actuators = s.actuators ∧
    (serveReadEvents max s).1.trips = s.trips ∧
    (serveReadEvents max s).1.nodes = s.nodes ∧
    (serveReadEvents max s).1.link = s.link ∧
    (serveReadEvents max s).1.pending = s.pending := by
  simp only [serveReadEvents, accept, badParam]
  (repeat' split) <;> simp

/-- What `serveAttention` leaves as it was. -/
@[simp] theorem serveAttention_frame (level : Byte) (s : State) :
    (serveAttention level s).1.power = s.power ∧
    (serveAttention level s).1.now = s.now ∧
    (serveAttention level s).1.straps = s.straps ∧
    (serveAttention level s).1.rateStraps = s.rateStraps ∧
    (serveAttention level s).1.mill = s.mill ∧
    (serveAttention level s).1.stands = s.stands ∧
    (serveAttention level s).1.track = s.track ∧
    (serveAttention level s).1.gauges = s.gauges ∧
    (serveAttention level s).1.store = s.store ∧
    (serveAttention level s).1.demands = s.demands ∧
    (serveAttention level s).1.actuators = s.actuators ∧
    (serveAttention level s).1.trips = s.trips ∧
    (serveAttention level s).1.nodes = s.nodes ∧
    (serveAttention level s).1.link = s.link ∧
    (serveAttention level s).1.pending = s.pending := by
  simp only [serveAttention, accept, badParam]
  (repeat' split) <;> simp

/-- What `serveRestart` leaves as it was. -/
@[simp] theorem serveRestart_frame (s : State) :
    (serveRestart s).1.power = s.power ∧
    (serveRestart s).1.now = s.now ∧
    (serveRestart s).1.straps = s.straps ∧
    (serveRestart s).1.rateStraps = s.rateStraps ∧
    (serveRestart s).1.mill = s.mill ∧
    (serveRestart s).1.stands = s.stands ∧
    (serveRestart s).1.track = s.track ∧
    (serveRestart s).1.gauges = s.gauges ∧
    (serveRestart s).1.store = s.store ∧
    (serveRestart s).1.demands = s.demands ∧
    (serveRestart s).1.actuators = s.actuators ∧
    (serveRestart s).1.trips = s.trips ∧
    (serveRestart s).1.nodes = s.nodes ∧
    (serveRestart s).1.link = s.link ∧
    (serveRestart s).1.host = s.host ∧
    (serveRestart s).1.pending = s.pending := by
  simp only [serveRestart, accept]
  simp

/-- What `openRun` leaves as it was. -/
@[simp] theorem openRun_frame (p : Product) (coil : BitVec 32) (s : State) :
    (openRun p coil s).power = s.power ∧
    (openRun p coil s).now = s.now ∧
    (openRun p coil s).straps = s.straps ∧
    (openRun p coil s).rateStraps = s.rateStraps ∧
    (openRun p coil s).mill = s.mill ∧
    (openRun p coil s).stands = s.stands ∧
    (openRun p coil s).gauges = s.gauges ∧
    (openRun p coil s).store = s.store ∧
    (openRun p coil s).demands = s.demands ∧
    (openRun p coil s).actuators = s.actuators ∧
    (openRun p coil s).trips = s.trips ∧
    (openRun p coil s).nodes = s.nodes ∧
    (openRun p coil s).link = s.link ∧
    (openRun p coil s).host = s.host ∧
    (openRun p coil s).pending = s.pending := by
  simp only [openRun]
  simp

/-- What `startEffect` leaves as it was. -/
@[simp] theorem startEffect_frame (p : Product) (coil : BitVec 32) (s : State) :
    (startEffect p coil s).power = s.power ∧
    (startEffect p coil s).now = s.now ∧
    (startEffect p coil s).straps = s.straps ∧
    (startEffect p coil s).rateStraps = s.rateStraps ∧
    (startEffect p coil s).mill = s.mill ∧
    (startEffect p coil s).stands = s.stands ∧
    (startEffect p coil s).trips = s.trips ∧
    (startEffect p coil s).nodes = s.nodes ∧
    (startEffect p coil s).link = s.link ∧
    (startEffect p coil s).pending = s.pending ∧
    (startEffect p coil s).host.asm = s.host.asm ∧
    (startEffect p coil s).host.content = s.host.content ∧
    (startEffect p coil s).host.inputQueue = s.host.inputQueue ∧
    (startEffect p coil s).host.reply = s.host.reply ∧
    (startEffect p coil s).host.crcDrops = s.host.crcDrops ∧
    (startEffect p coil s).host.formatDrops = s.host.formatDrops ∧
    (startEffect p coil s).host.queueDrops = s.host.queueDrops ∧
    (startEffect p coil s).host.attention = s.host.attention := by
  simp only [startEffect]
  simp

/-- What `serveStart` leaves as it was. -/
@[simp] theorem serveStart_frame (product : Byte) (coil : BitVec 32) (s : State) :
    (serveStart product coil s).1.power = s.power ∧
    (serveStart product coil s).1.now = s.now ∧
    (serveStart product coil s).1.straps = s.straps ∧
    (serveStart product coil s).1.rateStraps = s.rateStraps ∧
    (serveStart product coil s).1.mill = s.mill ∧
    (serveStart product coil s).1.stands = s.stands ∧
    (serveStart product coil s).1.trips = s.trips ∧
    (serveStart product coil s).1.nodes = s.nodes ∧
    (serveStart product coil s).1.link = s.link ∧
    (serveStart product coil s).1.pending = s.pending ∧
    (serveStart product coil s).1.host.asm = s.host.asm ∧
    (serveStart product coil s).1.host.content = s.host.content ∧
    (serveStart product coil s).1.host.inputQueue = s.host.inputQueue ∧
    (serveStart product coil s).1.host.reply = s.host.reply ∧
    (serveStart product coil s).1.host.crcDrops = s.host.crcDrops ∧
    (serveStart product coil s).1.host.formatDrops = s.host.formatDrops ∧
    (serveStart product coil s).1.host.queueDrops = s.host.queueDrops ∧
    (serveStart product coil s).1.host.attention = s.host.attention := by
  simp only [serveStart, accept, refuse, badParam]
  (repeat' split) <;> simp

/-- What `closeRun` leaves as it was. -/
@[simp] theorem closeRun_frame (s : State) :
    (closeRun s).power = s.power ∧
    (closeRun s).now = s.now ∧
    (closeRun s).straps = s.straps ∧
    (closeRun s).rateStraps = s.rateStraps ∧
    (closeRun s).mill = s.mill ∧
    (closeRun s).stands = s.stands ∧
    (closeRun s).gauges = s.gauges ∧
    (closeRun s).store = s.store ∧
    (closeRun s).demands = s.demands ∧
    (closeRun s).actuators = s.actuators ∧
    (closeRun s).trips = s.trips ∧
    (closeRun s).nodes = s.nodes ∧
    (closeRun s).link = s.link ∧
    (closeRun s).host = s.host ∧
    (closeRun s).pending = s.pending := by
  simp only [closeRun]
  simp

/-- What `stopEffect` leaves as it was. -/
@[simp] theorem stopEffect_frame (s : State) :
    (stopEffect s).power = s.power ∧
    (stopEffect s).now = s.now ∧
    (stopEffect s).straps = s.straps ∧
    (stopEffect s).rateStraps = s.rateStraps ∧
    (stopEffect s).mill = s.mill ∧
    (stopEffect s).stands = s.stands ∧
    (stopEffect s).trips = s.trips ∧
    (stopEffect s).nodes = s.nodes ∧
    (stopEffect s).link = s.link ∧
    (stopEffect s).host = s.host ∧
    (stopEffect s).pending = s.pending := by
  simp only [stopEffect]
  simp

/-- What `serveStop` leaves as it was. -/
@[simp] theorem serveStop_frame (s : State) :
    (serveStop s).1.power = s.power ∧
    (serveStop s).1.now = s.now ∧
    (serveStop s).1.straps = s.straps ∧
    (serveStop s).1.rateStraps = s.rateStraps ∧
    (serveStop s).1.mill = s.mill ∧
    (serveStop s).1.stands = s.stands ∧
    (serveStop s).1.trips = s.trips ∧
    (serveStop s).1.nodes = s.nodes ∧
    (serveStop s).1.link = s.link ∧
    (serveStop s).1.host = s.host ∧
    (serveStop s).1.pending = s.pending := by
  simp only [serveStop, accept, refuse]
  (repeat' split) <;> simp

/-- What `serveReadCells` leaves as it was. -/
@[simp] theorem serveReadCells_frame (first : BitVec 48) (count selector : Byte) (s : State) :
    (serveReadCells first count selector s).1.power = s.power ∧
    (serveReadCells first count selector s).1.now = s.now ∧
    (serveReadCells first count selector s).1.straps = s.straps ∧
    (serveReadCells first count selector s).1.rateStraps = s.rateStraps ∧
    (serveReadCells first count selector s).1.mill = s.mill ∧
    (serveReadCells first count selector s).1.stands = s.stands ∧
    (serveReadCells first count selector s).1.track = s.track ∧
    (serveReadCells first count selector s).1.gauges = s.gauges ∧
    (serveReadCells first count selector s).1.store = s.store ∧
    (serveReadCells first count selector s).1.demands = s.demands ∧
    (serveReadCells first count selector s).1.actuators = s.actuators ∧
    (serveReadCells first count selector s).1.trips = s.trips ∧
    (serveReadCells first count selector s).1.nodes = s.nodes ∧
    (serveReadCells first count selector s).1.link = s.link ∧
    (serveReadCells first count selector s).1.host = s.host ∧
    (serveReadCells first count selector s).1.pending = s.pending := by
  simp only [serveReadCells, accept, badParam]
  (repeat' split) <;> simp

/-- What `serveStandardize` leaves as it was. -/
@[simp] theorem serveStandardize_frame (position : Byte) (s : State) :
    (serveStandardize position s).1.power = s.power ∧
    (serveStandardize position s).1.now = s.now ∧
    (serveStandardize position s).1.straps = s.straps ∧
    (serveStandardize position s).1.rateStraps = s.rateStraps ∧
    (serveStandardize position s).1.mill = s.mill ∧
    (serveStandardize position s).1.stands = s.stands ∧
    (serveStandardize position s).1.track = s.track ∧
    (serveStandardize position s).1.store = s.store ∧
    (serveStandardize position s).1.demands = s.demands ∧
    (serveStandardize position s).1.actuators = s.actuators ∧
    (serveStandardize position s).1.trips = s.trips ∧
    (serveStandardize position s).1.nodes = s.nodes ∧
    (serveStandardize position s).1.link = s.link ∧
    (serveStandardize position s).1.host = s.host ∧
    (serveStandardize position s).1.pending = s.pending := by
  simp only [serveStandardize, accept, refuse, badParam]
  (repeat' split) <;> simp

/-- What `serveReadGauges` leaves as it was. -/
@[simp] theorem serveReadGauges_frame (s : State) :
    (serveReadGauges s).1.power = s.power ∧
    (serveReadGauges s).1.now = s.now ∧
    (serveReadGauges s).1.straps = s.straps ∧
    (serveReadGauges s).1.rateStraps = s.rateStraps ∧
    (serveReadGauges s).1.mill = s.mill ∧
    (serveReadGauges s).1.stands = s.stands ∧
    (serveReadGauges s).1.track = s.track ∧
    (serveReadGauges s).1.gauges = s.gauges ∧
    (serveReadGauges s).1.store = s.store ∧
    (serveReadGauges s).1.demands = s.demands ∧
    (serveReadGauges s).1.actuators = s.actuators ∧
    (serveReadGauges s).1.trips = s.trips ∧
    (serveReadGauges s).1.nodes = s.nodes ∧
    (serveReadGauges s).1.link = s.link ∧
    (serveReadGauges s).1.host = s.host ∧
    (serveReadGauges s).1.pending = s.pending := by
  simp only [serveReadGauges, accept]
  simp

/-- What `writeProduct` leaves as it was. -/
@[simp] theorem writeProduct_frame (i : Product) (e : ProductEntry) (s : State) :
    (writeProduct i e s).power = s.power ∧
    (writeProduct i e s).now = s.now ∧
    (writeProduct i e s).straps = s.straps ∧
    (writeProduct i e s).rateStraps = s.rateStraps ∧
    (writeProduct i e s).mill = s.mill ∧
    (writeProduct i e s).stands = s.stands ∧
    (writeProduct i e s).track = s.track ∧
    (writeProduct i e s).gauges = s.gauges ∧
    (writeProduct i e s).demands = s.demands ∧
    (writeProduct i e s).actuators = s.actuators ∧
    (writeProduct i e s).trips = s.trips ∧
    (writeProduct i e s).nodes = s.nodes ∧
    (writeProduct i e s).link = s.link ∧
    (writeProduct i e s).host = s.host ∧
    (writeProduct i e s).pending = s.pending := by
  simp only [writeProduct]
  simp

/-- What `serveLoad` leaves as it was. -/
@[simp] theorem serveLoad_frame (p : ProductParams) (s : State) :
    (serveLoad p s).1.power = s.power ∧
    (serveLoad p s).1.now = s.now ∧
    (serveLoad p s).1.straps = s.straps ∧
    (serveLoad p s).1.rateStraps = s.rateStraps ∧
    (serveLoad p s).1.mill = s.mill ∧
    (serveLoad p s).1.stands = s.stands ∧
    (serveLoad p s).1.track = s.track ∧
    (serveLoad p s).1.gauges = s.gauges ∧
    (serveLoad p s).1.demands = s.demands ∧
    (serveLoad p s).1.actuators = s.actuators ∧
    (serveLoad p s).1.trips = s.trips ∧
    (serveLoad p s).1.nodes = s.nodes ∧
    (serveLoad p s).1.link = s.link ∧
    (serveLoad p s).1.host = s.host ∧
    (serveLoad p s).1.pending = s.pending := by
  simp only [serveLoad, accept, refuse, badParam]
  (repeat' split) <;> simp

/-- What `serveErase` leaves as it was. -/
@[simp] theorem serveErase_frame (index : Byte) (s : State) :
    (serveErase index s).1.power = s.power ∧
    (serveErase index s).1.now = s.now ∧
    (serveErase index s).1.straps = s.straps ∧
    (serveErase index s).1.rateStraps = s.rateStraps ∧
    (serveErase index s).1.mill = s.mill ∧
    (serveErase index s).1.stands = s.stands ∧
    (serveErase index s).1.track = s.track ∧
    (serveErase index s).1.gauges = s.gauges ∧
    (serveErase index s).1.demands = s.demands ∧
    (serveErase index s).1.actuators = s.actuators ∧
    (serveErase index s).1.trips = s.trips ∧
    (serveErase index s).1.nodes = s.nodes ∧
    (serveErase index s).1.link = s.link ∧
    (serveErase index s).1.host = s.host ∧
    (serveErase index s).1.pending = s.pending := by
  simp only [serveErase, accept, refuse, badParam]
  (repeat' split) <;> simp

/-- What `serveReadProduct` leaves as it was. -/
@[simp] theorem serveReadProduct_frame (view index : Byte) (s : State) :
    (serveReadProduct view index s).1.power = s.power ∧
    (serveReadProduct view index s).1.now = s.now ∧
    (serveReadProduct view index s).1.straps = s.straps ∧
    (serveReadProduct view index s).1.rateStraps = s.rateStraps ∧
    (serveReadProduct view index s).1.mill = s.mill ∧
    (serveReadProduct view index s).1.stands = s.stands ∧
    (serveReadProduct view index s).1.track = s.track ∧
    (serveReadProduct view index s).1.gauges = s.gauges ∧
    (serveReadProduct view index s).1.store = s.store ∧
    (serveReadProduct view index s).1.demands = s.demands ∧
    (serveReadProduct view index s).1.actuators = s.actuators ∧
    (serveReadProduct view index s).1.trips = s.trips ∧
    (serveReadProduct view index s).1.nodes = s.nodes ∧
    (serveReadProduct view index s).1.link = s.link ∧
    (serveReadProduct view index s).1.host = s.host ∧
    (serveReadProduct view index s).1.pending = s.pending := by
  simp only [serveReadProduct, accept, badParam]
  (repeat' split) <;> simp

/-- What `serveAppend` leaves as it was. -/
@[simp] theorem serveAppend_frame (coil : BitVec 32) (product : Byte) (s : State) :
    (serveAppend coil product s).1.power = s.power ∧
    (serveAppend coil product s).1.now = s.now ∧
    (serveAppend coil product s).1.straps = s.straps ∧
    (serveAppend coil product s).1.rateStraps = s.rateStraps ∧
    (serveAppend coil product s).1.mill = s.mill ∧
    (serveAppend coil product s).1.stands = s.stands ∧
    (serveAppend coil product s).1.track = s.track ∧
    (serveAppend coil product s).1.gauges = s.gauges ∧
    (serveAppend coil product s).1.demands = s.demands ∧
    (serveAppend coil product s).1.actuators = s.actuators ∧
    (serveAppend coil product s).1.trips = s.trips ∧
    (serveAppend coil product s).1.nodes = s.nodes ∧
    (serveAppend coil product s).1.link = s.link ∧
    (serveAppend coil product s).1.host = s.host ∧
    (serveAppend coil product s).1.pending = s.pending := by
  simp only [serveAppend, accept, refuse, badParam]
  (repeat' split) <;> simp

/-- What `serveClearCoils` leaves as it was. -/
@[simp] theorem serveClearCoils_frame (s : State) :
    (serveClearCoils s).1.power = s.power ∧
    (serveClearCoils s).1.now = s.now ∧
    (serveClearCoils s).1.straps = s.straps ∧
    (serveClearCoils s).1.rateStraps = s.rateStraps ∧
    (serveClearCoils s).1.mill = s.mill ∧
    (serveClearCoils s).1.stands = s.stands ∧
    (serveClearCoils s).1.track = s.track ∧
    (serveClearCoils s).1.gauges = s.gauges ∧
    (serveClearCoils s).1.demands = s.demands ∧
    (serveClearCoils s).1.actuators = s.actuators ∧
    (serveClearCoils s).1.trips = s.trips ∧
    (serveClearCoils s).1.nodes = s.nodes ∧
    (serveClearCoils s).1.link = s.link ∧
    (serveClearCoils s).1.host = s.host ∧
    (serveClearCoils s).1.pending = s.pending := by
  simp only [serveClearCoils, accept]
  simp

/-- What `offsetEffect` leaves as it was. -/
@[simp] theorem offsetEffect_frame (i : Stand) (o : Int) (s : State) :
    (offsetEffect i o s).power = s.power ∧
    (offsetEffect i o s).now = s.now ∧
    (offsetEffect i o s).straps = s.straps ∧
    (offsetEffect i o s).rateStraps = s.rateStraps ∧
    (offsetEffect i o s).mill = s.mill ∧
    (offsetEffect i o s).stands = s.stands ∧
    (offsetEffect i o s).track = s.track ∧
    (offsetEffect i o s).gauges = s.gauges ∧
    (offsetEffect i o s).store = s.store ∧
    (offsetEffect i o s).trips = s.trips ∧
    (offsetEffect i o s).nodes = s.nodes ∧
    (offsetEffect i o s).link = s.link ∧
    (offsetEffect i o s).pending = s.pending ∧
    (offsetEffect i o s).host.asm = s.host.asm ∧
    (offsetEffect i o s).host.content = s.host.content ∧
    (offsetEffect i o s).host.inputQueue = s.host.inputQueue ∧
    (offsetEffect i o s).host.reply = s.host.reply ∧
    (offsetEffect i o s).host.crcDrops = s.host.crcDrops ∧
    (offsetEffect i o s).host.formatDrops = s.host.formatDrops ∧
    (offsetEffect i o s).host.queueDrops = s.host.queueDrops ∧
    (offsetEffect i o s).host.attention = s.host.attention := by
  simp only [offsetEffect]
  (repeat' split) <;> simp

/-- What `serveOffset` leaves as it was. -/
@[simp] theorem serveOffset_frame (stand : Byte) (offset : BitVec 16) (s : State) :
    (serveOffset stand offset s).1.power = s.power ∧
    (serveOffset stand offset s).1.now = s.now ∧
    (serveOffset stand offset s).1.straps = s.straps ∧
    (serveOffset stand offset s).1.rateStraps = s.rateStraps ∧
    (serveOffset stand offset s).1.mill = s.mill ∧
    (serveOffset stand offset s).1.stands = s.stands ∧
    (serveOffset stand offset s).1.track = s.track ∧
    (serveOffset stand offset s).1.gauges = s.gauges ∧
    (serveOffset stand offset s).1.store = s.store ∧
    (serveOffset stand offset s).1.trips = s.trips ∧
    (serveOffset stand offset s).1.nodes = s.nodes ∧
    (serveOffset stand offset s).1.link = s.link ∧
    (serveOffset stand offset s).1.pending = s.pending ∧
    (serveOffset stand offset s).1.host.asm = s.host.asm ∧
    (serveOffset stand offset s).1.host.content = s.host.content ∧
    (serveOffset stand offset s).1.host.inputQueue = s.host.inputQueue ∧
    (serveOffset stand offset s).1.host.reply = s.host.reply ∧
    (serveOffset stand offset s).1.host.crcDrops = s.host.crcDrops ∧
    (serveOffset stand offset s).1.host.formatDrops = s.host.formatDrops ∧
    (serveOffset stand offset s).1.host.queueDrops = s.host.queueDrops ∧
    (serveOffset stand offset s).1.host.attention = s.host.attention := by
  simp only [serveOffset, accept, refuse, badParam]
  (repeat' split) <;> simp

/-- What `zeroTrim` leaves as it was. -/
@[simp] theorem zeroTrim_frame (i : Stand) (s : State) :
    (zeroTrim i s).power = s.power ∧
    (zeroTrim i s).now = s.now ∧
    (zeroTrim i s).straps = s.straps ∧
    (zeroTrim i s).rateStraps = s.rateStraps ∧
    (zeroTrim i s).mill = s.mill ∧
    (zeroTrim i s).stands = s.stands ∧
    (zeroTrim i s).track = s.track ∧
    (zeroTrim i s).gauges = s.gauges ∧
    (zeroTrim i s).store = s.store ∧
    (zeroTrim i s).trips = s.trips ∧
    (zeroTrim i s).nodes = s.nodes ∧
    (zeroTrim i s).link = s.link ∧
    (zeroTrim i s).pending = s.pending ∧
    (zeroTrim i s).host.asm = s.host.asm ∧
    (zeroTrim i s).host.content = s.host.content ∧
    (zeroTrim i s).host.inputQueue = s.host.inputQueue ∧
    (zeroTrim i s).host.reply = s.host.reply ∧
    (zeroTrim i s).host.crcDrops = s.host.crcDrops ∧
    (zeroTrim i s).host.formatDrops = s.host.formatDrops ∧
    (zeroTrim i s).host.queueDrops = s.host.queueDrops ∧
    (zeroTrim i s).host.attention = s.host.attention := by
  simp only [zeroTrim]
  simp

/-- What `trimEffect` leaves as it was. -/
@[simp] theorem trimEffect_frame (is : List Stand) (s : State) :
    (trimEffect is s).1.power = s.power ∧
    (trimEffect is s).1.now = s.now ∧
    (trimEffect is s).1.straps = s.straps ∧
    (trimEffect is s).1.rateStraps = s.rateStraps ∧
    (trimEffect is s).1.mill = s.mill ∧
    (trimEffect is s).1.stands = s.stands ∧
    (trimEffect is s).1.track = s.track ∧
    (trimEffect is s).1.gauges = s.gauges ∧
    (trimEffect is s).1.store = s.store ∧
    (trimEffect is s).1.trips = s.trips ∧
    (trimEffect is s).1.nodes = s.nodes ∧
    (trimEffect is s).1.link = s.link ∧
    (trimEffect is s).1.pending = s.pending ∧
    (trimEffect is s).1.host.asm = s.host.asm ∧
    (trimEffect is s).1.host.content = s.host.content ∧
    (trimEffect is s).1.host.inputQueue = s.host.inputQueue ∧
    (trimEffect is s).1.host.reply = s.host.reply ∧
    (trimEffect is s).1.host.crcDrops = s.host.crcDrops ∧
    (trimEffect is s).1.host.formatDrops = s.host.formatDrops ∧
    (trimEffect is s).1.host.queueDrops = s.host.queueDrops ∧
    (trimEffect is s).1.host.attention = s.host.attention := by
  simp only [trimEffect, accept]
  simp [foldl_power, foldl_now, foldl_straps, foldl_rateStraps, foldl_mill, foldl_stands, foldl_track, foldl_gauges, foldl_store, foldl_trips, foldl_nodes, foldl_link, foldl_pending, foldl_host_asm, foldl_host_content, foldl_host_inputQueue, foldl_host_reply, foldl_host_crcDrops, foldl_host_formatDrops, foldl_host_queueDrops, foldl_host_attention]

/-- What `serveResetTrim` leaves as it was. -/
@[simp] theorem serveResetTrim_frame (selector : Byte) (s : State) :
    (serveResetTrim selector s).1.power = s.power ∧
    (serveResetTrim selector s).1.now = s.now ∧
    (serveResetTrim selector s).1.straps = s.straps ∧
    (serveResetTrim selector s).1.rateStraps = s.rateStraps ∧
    (serveResetTrim selector s).1.mill = s.mill ∧
    (serveResetTrim selector s).1.stands = s.stands ∧
    (serveResetTrim selector s).1.track = s.track ∧
    (serveResetTrim selector s).1.gauges = s.gauges ∧
    (serveResetTrim selector s).1.store = s.store ∧
    (serveResetTrim selector s).1.trips = s.trips ∧
    (serveResetTrim selector s).1.nodes = s.nodes ∧
    (serveResetTrim selector s).1.link = s.link ∧
    (serveResetTrim selector s).1.pending = s.pending ∧
    (serveResetTrim selector s).1.host.asm = s.host.asm ∧
    (serveResetTrim selector s).1.host.content = s.host.content ∧
    (serveResetTrim selector s).1.host.inputQueue = s.host.inputQueue ∧
    (serveResetTrim selector s).1.host.reply = s.host.reply ∧
    (serveResetTrim selector s).1.host.crcDrops = s.host.crcDrops ∧
    (serveResetTrim selector s).1.host.formatDrops = s.host.formatDrops ∧
    (serveResetTrim selector s).1.host.queueDrops = s.host.queueDrops ∧
    (serveResetTrim selector s).1.host.attention = s.host.attention := by
  simp only [serveResetTrim, refuse, badParam]
  (repeat' split) <;> simp

/-- What `engageEffect` leaves as it was. -/
@[simp] theorem engageEffect_frame (i : Stand) (s : State) :
    (engageEffect i s).power = s.power ∧
    (engageEffect i s).now = s.now ∧
    (engageEffect i s).straps = s.straps ∧
    (engageEffect i s).rateStraps = s.rateStraps ∧
    (engageEffect i s).mill = s.mill ∧
    (engageEffect i s).stands = s.stands ∧
    (engageEffect i s).track = s.track ∧
    (engageEffect i s).gauges = s.gauges ∧
    (engageEffect i s).store = s.store ∧
    (engageEffect i s).demands = s.demands ∧
    (engageEffect i s).trips = s.trips ∧
    (engageEffect i s).nodes = s.nodes ∧
    (engageEffect i s).link = s.link ∧
    (engageEffect i s).host = s.host ∧
    (engageEffect i s).pending = s.pending := by
  simp only [engageEffect]
  simp

/-- What `serveEngage` leaves as it was. -/
@[simp] theorem serveEngage_frame (stand : Byte) (s : State) :
    (serveEngage stand s).1.power = s.power ∧
    (serveEngage stand s).1.now = s.now ∧
    (serveEngage stand s).1.straps = s.straps ∧
    (serveEngage stand s).1.rateStraps = s.rateStraps ∧
    (serveEngage stand s).1.mill = s.mill ∧
    (serveEngage stand s).1.stands = s.stands ∧
    (serveEngage stand s).1.track = s.track ∧
    (serveEngage stand s).1.gauges = s.gauges ∧
    (serveEngage stand s).1.store = s.store ∧
    (serveEngage stand s).1.demands = s.demands ∧
    (serveEngage stand s).1.trips = s.trips ∧
    (serveEngage stand s).1.nodes = s.nodes ∧
    (serveEngage stand s).1.link = s.link ∧
    (serveEngage stand s).1.host = s.host ∧
    (serveEngage stand s).1.pending = s.pending := by
  simp only [serveEngage, accept, refuse, badParam]
  (repeat' split) <;> simp

/-- What `openEffect` leaves as it was. -/
@[simp] theorem openEffect_frame (is : List Stand) (s : State) :
    (openEffect is s).power = s.power ∧
    (openEffect is s).now = s.now ∧
    (openEffect is s).straps = s.straps ∧
    (openEffect is s).rateStraps = s.rateStraps ∧
    (openEffect is s).mill = s.mill ∧
    (openEffect is s).stands = s.stands ∧
    (openEffect is s).track = s.track ∧
    (openEffect is s).gauges = s.gauges ∧
    (openEffect is s).store = s.store ∧
    (openEffect is s).demands = s.demands ∧
    (openEffect is s).trips = s.trips ∧
    (openEffect is s).nodes = s.nodes ∧
    (openEffect is s).link = s.link ∧
    (openEffect is s).host = s.host ∧
    (openEffect is s).pending = s.pending := by
  simp only [openEffect]
  simp [foldl_power, foldl_now, foldl_straps, foldl_rateStraps, foldl_mill, foldl_stands, foldl_track, foldl_gauges, foldl_store, foldl_demands, foldl_trips, foldl_nodes, foldl_link, foldl_host, foldl_pending, apply_ite State.power, apply_ite State.now, apply_ite State.straps, apply_ite State.rateStraps, apply_ite State.mill, apply_ite State.stands, apply_ite State.track, apply_ite State.gauges, apply_ite State.store, apply_ite State.demands, apply_ite State.trips, apply_ite State.nodes, apply_ite State.link, apply_ite State.host, apply_ite State.pending]

/-- What `serveOpen` leaves as it was. -/
@[simp] theorem serveOpen_frame (selector : Byte) (s : State) :
    (serveOpen selector s).1.power = s.power ∧
    (serveOpen selector s).1.now = s.now ∧
    (serveOpen selector s).1.straps = s.straps ∧
    (serveOpen selector s).1.rateStraps = s.rateStraps ∧
    (serveOpen selector s).1.mill = s.mill ∧
    (serveOpen selector s).1.stands = s.stands ∧
    (serveOpen selector s).1.track = s.track ∧
    (serveOpen selector s).1.gauges = s.gauges ∧
    (serveOpen selector s).1.store = s.store ∧
    (serveOpen selector s).1.demands = s.demands ∧
    (serveOpen selector s).1.trips = s.trips ∧
    (serveOpen selector s).1.nodes = s.nodes ∧
    (serveOpen selector s).1.link = s.link ∧
    (serveOpen selector s).1.host = s.host ∧
    (serveOpen selector s).1.pending = s.pending := by
  simp only [serveOpen, accept, badParam]
  (repeat' split) <;> simp

/-- What `serveReadStand` leaves as it was. -/
@[simp] theorem serveReadStand_frame (stand : Byte) (s : State) :
    (serveReadStand stand s).1.power = s.power ∧
    (serveReadStand stand s).1.now = s.now ∧
    (serveReadStand stand s).1.straps = s.straps ∧
    (serveReadStand stand s).1.rateStraps = s.rateStraps ∧
    (serveReadStand stand s).1.mill = s.mill ∧
    (serveReadStand stand s).1.stands = s.stands ∧
    (serveReadStand stand s).1.track = s.track ∧
    (serveReadStand stand s).1.gauges = s.gauges ∧
    (serveReadStand stand s).1.store = s.store ∧
    (serveReadStand stand s).1.demands = s.demands ∧
    (serveReadStand stand s).1.actuators = s.actuators ∧
    (serveReadStand stand s).1.trips = s.trips ∧
    (serveReadStand stand s).1.nodes = s.nodes ∧
    (serveReadStand stand s).1.link = s.link ∧
    (serveReadStand stand s).1.host = s.host ∧
    (serveReadStand stand s).1.pending = s.pending := by
  simp only [serveReadStand, accept, badParam]
  (repeat' split) <;> simp

/-- What `serveConfigureTrip` leaves as it was. -/
@[simp] theorem serveConfigureTrip_frame (index cls affected : Byte) (s : State) :
    (serveConfigureTrip index cls affected s).1.power = s.power ∧
    (serveConfigureTrip index cls affected s).1.now = s.now ∧
    (serveConfigureTrip index cls affected s).1.straps = s.straps ∧
    (serveConfigureTrip index cls affected s).1.rateStraps = s.rateStraps ∧
    (serveConfigureTrip index cls affected s).1.mill = s.mill ∧
    (serveConfigureTrip index cls affected s).1.stands = s.stands ∧
    (serveConfigureTrip index cls affected s).1.track = s.track ∧
    (serveConfigureTrip index cls affected s).1.gauges = s.gauges ∧
    (serveConfigureTrip index cls affected s).1.store = s.store ∧
    (serveConfigureTrip index cls affected s).1.demands = s.demands ∧
    (serveConfigureTrip index cls affected s).1.actuators = s.actuators ∧
    (serveConfigureTrip index cls affected s).1.nodes = s.nodes ∧
    (serveConfigureTrip index cls affected s).1.link = s.link ∧
    (serveConfigureTrip index cls affected s).1.host = s.host ∧
    (serveConfigureTrip index cls affected s).1.pending = s.pending := by
  simp only [serveConfigureTrip, accept, refuse, badParam]
  (repeat' split) <;> simp

/-- What `serveTripRequest` leaves as it was. -/
@[simp] theorem serveTripRequest_frame (reason : BitVec 16) (s : State) :
    (serveTripRequest reason s).1.power = s.power ∧
    (serveTripRequest reason s).1.now = s.now ∧
    (serveTripRequest reason s).1.straps = s.straps ∧
    (serveTripRequest reason s).1.rateStraps = s.rateStraps ∧
    (serveTripRequest reason s).1.mill = s.mill ∧
    (serveTripRequest reason s).1.stands = s.stands ∧
    (serveTripRequest reason s).1.track = s.track ∧
    (serveTripRequest reason s).1.gauges = s.gauges ∧
    (serveTripRequest reason s).1.store = s.store ∧
    (serveTripRequest reason s).1.demands = s.demands ∧
    (serveTripRequest reason s).1.nodes = s.nodes ∧
    (serveTripRequest reason s).1.link = s.link ∧
    (serveTripRequest reason s).1.pending = s.pending ∧
    (serveTripRequest reason s).1.host.asm = s.host.asm ∧
    (serveTripRequest reason s).1.host.content = s.host.content ∧
    (serveTripRequest reason s).1.host.inputQueue = s.host.inputQueue ∧
    (serveTripRequest reason s).1.host.reply = s.host.reply ∧
    (serveTripRequest reason s).1.host.crcDrops = s.host.crcDrops ∧
    (serveTripRequest reason s).1.host.formatDrops = s.host.formatDrops ∧
    (serveTripRequest reason s).1.host.queueDrops = s.host.queueDrops ∧
    (serveTripRequest reason s).1.host.attention = s.host.attention := by
  simp only [serveTripRequest, accept]
  simp

/-- What `serveClearTrips` leaves as it was. -/
@[simp] theorem serveClearTrips_frame (s : State) :
    (serveClearTrips s).1.power = s.power ∧
    (serveClearTrips s).1.now = s.now ∧
    (serveClearTrips s).1.straps = s.straps ∧
    (serveClearTrips s).1.rateStraps = s.rateStraps ∧
    (serveClearTrips s).1.mill = s.mill ∧
    (serveClearTrips s).1.stands = s.stands ∧
    (serveClearTrips s).1.track = s.track ∧
    (serveClearTrips s).1.gauges = s.gauges ∧
    (serveClearTrips s).1.store = s.store ∧
    (serveClearTrips s).1.demands = s.demands ∧
    (serveClearTrips s).1.actuators = s.actuators ∧
    (serveClearTrips s).1.nodes = s.nodes ∧
    (serveClearTrips s).1.pending = s.pending ∧
    (serveClearTrips s).1.host.asm = s.host.asm ∧
    (serveClearTrips s).1.host.content = s.host.content ∧
    (serveClearTrips s).1.host.inputQueue = s.host.inputQueue ∧
    (serveClearTrips s).1.host.reply = s.host.reply ∧
    (serveClearTrips s).1.host.crcDrops = s.host.crcDrops ∧
    (serveClearTrips s).1.host.formatDrops = s.host.formatDrops ∧
    (serveClearTrips s).1.host.queueDrops = s.host.queueDrops ∧
    (serveClearTrips s).1.host.attention = s.host.attention := by
  simp only [serveClearTrips, accept]
  (repeat' split) <;> simp

/-- What `markReported` leaves as it was. -/
@[simp] theorem markReported_frame (ks : List Source) (s : State) :
    (markReported ks s).power = s.power ∧
    (markReported ks s).now = s.now ∧
    (markReported ks s).straps = s.straps ∧
    (markReported ks s).rateStraps = s.rateStraps ∧
    (markReported ks s).mill = s.mill ∧
    (markReported ks s).stands = s.stands ∧
    (markReported ks s).track = s.track ∧
    (markReported ks s).gauges = s.gauges ∧
    (markReported ks s).store = s.store ∧
    (markReported ks s).demands = s.demands ∧
    (markReported ks s).actuators = s.actuators ∧
    (markReported ks s).nodes = s.nodes ∧
    (markReported ks s).link = s.link ∧
    (markReported ks s).host = s.host ∧
    (markReported ks s).pending = s.pending := by
  simp only [markReported]
  simp

/-- What `serveReadTrips` leaves as it was. -/
@[simp] theorem serveReadTrips_frame (view first : Byte) (s : State) :
    (serveReadTrips view first s).1.power = s.power ∧
    (serveReadTrips view first s).1.now = s.now ∧
    (serveReadTrips view first s).1.straps = s.straps ∧
    (serveReadTrips view first s).1.rateStraps = s.rateStraps ∧
    (serveReadTrips view first s).1.mill = s.mill ∧
    (serveReadTrips view first s).1.stands = s.stands ∧
    (serveReadTrips view first s).1.track = s.track ∧
    (serveReadTrips view first s).1.gauges = s.gauges ∧
    (serveReadTrips view first s).1.store = s.store ∧
    (serveReadTrips view first s).1.demands = s.demands ∧
    (serveReadTrips view first s).1.actuators = s.actuators ∧
    (serveReadTrips view first s).1.nodes = s.nodes ∧
    (serveReadTrips view first s).1.link = s.link ∧
    (serveReadTrips view first s).1.host = s.host ∧
    (serveReadTrips view first s).1.pending = s.pending := by
  simp only [serveReadTrips, accept, badParam]
  (repeat' split) <;> simp

/-- What `serveResetLink` leaves as it was. -/
@[simp] theorem serveResetLink_frame (s : State) :
    (serveResetLink s).1.power = s.power ∧
    (serveResetLink s).1.now = s.now ∧
    (serveResetLink s).1.straps = s.straps ∧
    (serveResetLink s).1.rateStraps = s.rateStraps ∧
    (serveResetLink s).1.mill = s.mill ∧
    (serveResetLink s).1.stands = s.stands ∧
    (serveResetLink s).1.track = s.track ∧
    (serveResetLink s).1.store = s.store ∧
    (serveResetLink s).1.demands = s.demands ∧
    (serveResetLink s).1.pending = s.pending ∧
    (serveResetLink s).1.host.asm = s.host.asm ∧
    (serveResetLink s).1.host.content = s.host.content ∧
    (serveResetLink s).1.host.inputQueue = s.host.inputQueue ∧
    (serveResetLink s).1.host.reply = s.host.reply ∧
    (serveResetLink s).1.host.crcDrops = s.host.crcDrops ∧
    (serveResetLink s).1.host.formatDrops = s.host.formatDrops ∧
    (serveResetLink s).1.host.queueDrops = s.host.queueDrops ∧
    (serveResetLink s).1.host.attention = s.host.attention := by
  simp only [serveResetLink, accept]
  (repeat' split) <;> simp

/-- What `serveReadNodes` leaves as it was. -/
@[simp] theorem serveReadNodes_frame (clear : Byte) (s : State) :
    (serveReadNodes clear s).1.power = s.power ∧
    (serveReadNodes clear s).1.now = s.now ∧
    (serveReadNodes clear s).1.straps = s.straps ∧
    (serveReadNodes clear s).1.rateStraps = s.rateStraps ∧
    (serveReadNodes clear s).1.mill = s.mill ∧
    (serveReadNodes clear s).1.stands = s.stands ∧
    (serveReadNodes clear s).1.track = s.track ∧
    (serveReadNodes clear s).1.gauges = s.gauges ∧
    (serveReadNodes clear s).1.store = s.store ∧
    (serveReadNodes clear s).1.demands = s.demands ∧
    (serveReadNodes clear s).1.actuators = s.actuators ∧
    (serveReadNodes clear s).1.trips = s.trips ∧
    (serveReadNodes clear s).1.nodes = s.nodes ∧
    (serveReadNodes clear s).1.host = s.host ∧
    (serveReadNodes clear s).1.pending = s.pending := by
  simp only [serveReadNodes, accept, badParam]
  (repeat' split) <;> simp

end Sys2Proof.Machine
end

