-- ==== Sys2Proof/Laws/Ops.lean ====
section
/-! SUPPORT. What each shared operation does, said once: an event raised, a stand opened, a trip raised,
a transaction abandoned, a role looked up, a request taken. -/

namespace Sys2Proof.Machine

/-! ### Lists of all places -/

@[simp] theorem mem_allStands (i : Stand) : i ∈ allStands := by decide +revert
@[simp] theorem mem_allGauges (p : Gauge) : p ∈ allGauges := by decide +revert
@[simp] theorem mem_allNodes (a : Node) : a ∈ allNodes := by decide +revert
@[simp] theorem mem_allSources (k : Source) : k ∈ allSources := by decide +revert
@[simp] theorem mem_allLines (x : Fin 8) : x ∈ allLines := by decide +revert

theorem allStands_eq : allStands = List.finRange 5 := by decide
theorem allNodes_eq : allNodes = List.finRange 15 := by decide
theorem allSources_eq : allSources = List.finRange 32 := by decide

/-- Reading a changed table at an index of the table's own kind. -/
theorem upd_at {α : Type} {n : Nat} (v : Vector α n) (i j : Fin n) (f : α → α) :
    (upd v i f)[j] = if j = i then f v[j] else v[j] := by
  simp [Fin.ext_iff]

/-- Reading a table with one place set, at an index of the table's own kind. -/
theorem set_at {α : Type} {n : Nat} (v : Vector α n) (i j : Fin n) (x : α) :
    (v.set i.val x)[j] = if j = i then x else v[j] := by
  simp [Vector.getElem_set, Fin.ext_iff, eq_comm]

/-- Two tables that agree at every place are equal. -/
theorem table_ext {α : Type} {n : Nat} {v w : Vector α n} (h : ∀ i : Fin n, v[i] = w[i]) : v = w :=
  Vector.ext fun i hi => h ⟨i, hi⟩

/-! ### Events -/

/-- An event raised into a queue with room joins its tail. -/
theorem raise_room (c : EventCode) (sub : Subject) (n : Option Nat) (v : Int) (s : State)
    (h : s.host.events.length < 48) :
    raise c sub n v s = s.onHost fun p =>
      { p with events := p.events ++ [⟨c, sub, n, BitVec.ofInt 32 v, s.now⟩] } := by
  simp [raise, State.onHost, h]

/-- An event raised into a full queue sets the overrun flag. -/
theorem raise_full (c : EventCode) (sub : Subject) (n : Option Nat) (v : Int) (s : State)
    (h : 48 ≤ s.host.events.length) :
    raise c sub n v s = s.onHost fun p => { p with overrun := true } := by
  simp [raise, State.onHost, Nat.not_lt.mpr h]

/-! ### Slots and the link -/

/-- With no transaction of the part in flight, an urgent slot is filled exactly when urgent work waits. -/
theorem urgentFilled_iff (s : State) (h : s.link.inFlight = none) :
    urgentFilled s = true ↔ UrgentWaits s := by
  simp only [urgentFilled, stopFilled, stopOnLink, h, Bool.false_or, Bool.or_eq_true,
    decide_eq_true_eq, UrgentWaits, List.any_eq_true, mem_allStands, true_and]
  refine or_congr Iff.rfl (exists_congr fun i => ?_)
  simp only [openFilled]
  cases s.actuators[i].work with
  | none => simp
  | some w => simp

/-- A normal slot is filled exactly when normal work waits. -/
theorem normalFilled_iff (s : State) : normalFilled s = true ↔ NormalWaits s := by
  simp only [normalFilled, Bool.or_eq_true, List.any_eq_true, mem_allStands, mem_allGauges, true_and,
    NormalWaits, stdFilled, decide_eq_true_eq]
  refine or_congr (exists_congr fun i => ?_) Iff.rfl
  simp only [gapFilled]
  cases s.actuators[i].work with
  | none => simp
  | some w => simp

/-- Without a transaction of the part in flight nothing is abandoned. -/
theorem abandon_of_none (s : State) (h : s.link.inFlight = none) : abandonForUrgent s = s := by
  simp [abandonForUrgent, h]

/-- A settled state has nothing to abandon. -/
theorem abandon_of_settled (s : State) (h : Settled s) : abandonForUrgent s = s := by
  unfold abandonForUrgent
  split
  · rfl
  · rename_i f hf
    refine if_neg fun hc => ?_
    have := h f hf hc.1
    simp [this] at hc

theorem settled_of_none (s : State) (h : s.link.inFlight = none) : Settled s := by
  intro f hf; simp [h] at hf

/-- Settled speaks of the link's transaction, the stop levels and the stands' work alone. -/
theorem settled_congr (s t : State) (hl : t.link.inFlight = s.link.inFlight)
    (ht : t.trips.stopWanted = s.trips.stopWanted) (hs : t.trips.stopSent = s.trips.stopSent)
    (ha : ∀ i : Stand, t.actuators[i].work = s.actuators[i].work) :
    Settled t ↔ Settled s := by
  have hu : urgentFilled t = urgentFilled s := by
    simp only [urgentFilled, stopFilled, stopOnLink, hl, ht, hs]
    refine congrArg _ (List.any_congr rfl fun i => ?_)
    simp only [openFilled, ha]
  simp only [Settled, hl, hu]

/-- An event taken by a part that runs. -/
theorem whileRunning_running (f : State → State) (s : State) (h : s.power = .running) :
    whileRunning f s = .next (abandonForUrgent (f s)) := by simp [whileRunning, h]

/-- An event that a part held in reset or without supply does not take. -/
theorem whileRunning_held (f : State → State) (s : State) (h : s.power ≠ .running) :
    whileRunning f s = .next s := by simp [whileRunning, h]

/-! ### Roles -/

/-- Where each role is held once, looking a role up finds its holder. -/
theorem roleNode_eq (s : State) (r : Role) (a : Node) (h : RolesUnique s) (hr : r ≠ .none)
    (ha : s.nodes[a].role = r) : roleNode s r = some a := by
  unfold roleNode
  cases hf : allNodes.find? fun a => decide (s.nodes[a].role = r) with
  | none => exact absurd (List.find?_eq_none.mp hf a (mem_allNodes a)) (by simp [-Fin.getElem_fin, ha])
  | some b =>
    have hb := List.find?_some hf
    simp only [decide_eq_true_eq] at hb
    exact congrArg some (h b a (hb.trans ha.symm) (by rw [hb]; exact hr))

/-- No address holds the role, so looking it up finds none. -/
theorem roleNode_none (s : State) (r : Role) (h : ∀ a : Node, s.nodes[a].role ≠ r) :
    roleNode s r = none := by
  simp only [roleNode, List.find?_eq_none, decide_eq_true_eq]
  exact fun a _ => h a

/-- What looking a role up finds holds the role. -/
theorem roleNode_holds (s : State) (r : Role) (a : Node) (h : roleNode s r = some a) :
    s.nodes[a].role = r := by
  simpa using List.find?_some h

/-! ### Opening a stand -/

/-- A stand put into opening takes the fields of `openingOf`, and nothing else changes. -/
theorem putIntoOpening_eq (i : Stand) (s : State) :
    putIntoOpening i s = { s with actuators := s.actuators.set i.val (openingOf s i) } := by
  simp only [putIntoOpening, buildWork, State.onActuator, State.mk.injEq, true_and, and_true]
  refine table_ext fun j => ?_
  simp only [upd_at, set_at]
  by_cases h : j = i
  · subst h; simp [openingOf]
  · simp [h]

/-- The fold of `openNamed` leaves each stand opened when a stand of the list names it, else as it was. -/
theorem openFold_actuators (p : Stand → Bool) (q : ActState → Bool) (is : List Stand) (s : State)
    (h : is.Nodup) (j : Stand) :
    (is.foldl (fun s i => if p i && q s.actuators[i].state then putIntoOpening i s else s) s).actuators[j]
      = if j ∈ is ∧ p j = true ∧ q s.actuators[j].state = true then openingOf s j
        else s.actuators[j] := by
  induction is generalizing s with
  | nil => simp
  | cons i is ih =>
    obtain ⟨hi, hn⟩ := List.nodup_cons.mp h
    rw [List.foldl_cons, ih _ hn]
    by_cases e : j = i
    · subst e
      by_cases hc : (p j && q s.actuators[j].state) = true
      · rw [if_pos hc]
        rw [Bool.and_eq_true] at hc
        rw [if_neg (fun h => hi h.1), if_pos ⟨List.mem_cons_self, hc⟩, putIntoOpening_eq, set_at,
          if_pos rfl]
      · rw [if_neg hc]
        rw [Bool.and_eq_true] at hc
        rw [if_neg (fun h => hi h.1), if_neg (fun h => hc h.2)]
    · have hj : (j ∈ i :: is) = (j ∈ is) := by simp [e]
      have ha : (if (p i && q s.actuators[i].state) = true then putIntoOpening i s
          else s).actuators[j] = s.actuators[j] := by
        split
        · rw [putIntoOpening_eq, set_at, if_neg e]
        · rfl
      have ho : openingOf (if (p i && q s.actuators[i].state) = true then putIntoOpening i s
          else s) j = openingOf s j := by
        split
        · simp only [openingOf, putIntoOpening_eq, set_at, if_neg e]
        · rfl
      rw [ha, ho]
      exact if_congr (by simp [e]) rfl rfl

/-- A latch opens exactly the stands it names that are in TRAVEL, SETTLE, HOLD or RELEASED. -/
theorem openNamed_actuators (set : BitVec 5) (s : State) (j : Stand) :
    (openNamed set s).actuators[j] =
      if set.getLsbD j.val = true ∧ openedByTrip s.actuators[j].state = true then openingOf s j
      else s.actuators[j] := by
  have := openFold_actuators (fun i => set.getLsbD i.val) openedByTrip allStands s (by decide) j
  simpa [openNamed] using this

/-- An Open Stand opens exactly the selected stands that its rule opens. -/
theorem openEffect_actuators (is : List Stand) (s : State) (h : is.Nodup) (j : Stand) :
    (openEffect is s).actuators[j] =
      if j ∈ is ∧ openedByHost s.actuators[j].state = true then openingOf s j
      else s.actuators[j] := by
  have := openFold_actuators (fun _ => true) openedByHost is s h j
  simpa [openEffect] using this

/-! ### Trips -/

/-- The order of the stop levels, by cases of what is wanted already. -/
theorem wantStop_stopWanted (l : StopLevel) (s : State) :
    (wantStop l s).trips = { s.trips with
      stopWanted := if stopRank s.trips.stopWanted < stopRank l then l else s.trips.stopWanted } := rfl

/-- The confirmation test changes the confirm state, its timer and the events alone, and only from
WAITING while every counted node confirms. -/
theorem confirmTest_trips (s : State) : (confirmTest s).trips =
    if s.trips.confirm = .waiting ∧ confirmHolds s = true then
      { s.trips with confirm := .confirmed, confirmT := none } else s.trips := by
  unfold confirmTest
  split <;> simp [raise]

theorem confirmTest_actuators (s : State) : (confirmTest s).actuators = s.actuators := by simp

/-- What a latch sets going leaves the records as they are. -/
theorem latchActions_records (k : Source) (s : State) :
    (latchActions k s).trips.records = s.trips.records := by
  unfold latchActions startConfirm
  cases s.trips.records[k].cls <;> simp [wantStop_stopWanted]
  split <;> simp [confirmTest_trips, wantStop_stopWanted]
  split <;> rfl

/-- A source raised: its record latches with the next rank, or only counts, and no other record moves. -/
theorem raiseTrip_records (src : TripSource) (detail : Nat) (s : State) :
    (raiseTrip src detail s).trips.records =
      upd s.trips.records (sourceIndex src) fun r =>
        if r.latched then { r with count := min 255 (r.count + 1) }
        else { r with latched := true, rank := latchedCount s + 1, time := s.now, count := 1,
                      reported := false, detail := detail } := by
  refine table_ext fun j => ?_
  simp only [raiseTrip]
  split
  · rename_i h
    simp only [recount, State.onTrips_trips, satAdd, upd_at]
    split
    · subst_vars; rw [if_pos h]
    · rfl
  · rename_i h
    simp only [latch, latchActions_records, State.onTrips_trips, upd_at]
    split
    · subst_vars; rw [if_neg h]
    · rfl

/-- What a latch sets going opens exactly the stands its record names and its rule opens. -/
theorem latchActions_actuators (k : Source) (s : State) (j : Stand) :
    (latchActions k s).actuators[j] =
      if s.trips.records[k].affected.getLsbD j.val = true ∧
          openedByTrip s.actuators[j].state = true then openingOf s j else s.actuators[j] := by
  rw [← openNamed_actuators]
  unfold latchActions startConfirm
  cases s.trips.records[k].cls
  · simp only []
    split <;> simp
  · simp

/-- A raise that latches opens the stands its record names; a raise that only counts opens none. -/
theorem raiseTrip_actuators (src : TripSource) (detail : Nat) (s : State) (j : Stand) :
    (raiseTrip src detail s).actuators[j] =
      if s.trips.records[sourceIndex src].latched = false ∧
          s.trips.records[sourceIndex src].affected.getLsbD j.val = true ∧
          openedByTrip s.actuators[j].state = true
      then openingOf s j else s.actuators[j] := by
  by_cases h : s.trips.records[sourceIndex src].latched = true
  · have e : raiseTrip src detail s = recount (sourceIndex src) s := if_pos h
    rw [e, if_neg (by rw [h]; simp)]
    rfl
  · have e : raiseTrip src detail s = latch (sourceIndex src) detail s := if_neg h
    rw [Bool.not_eq_true] at h
    simp only [e, latch, latchActions_actuators, State.onTrips_trips, State.onTrips_actuators, upd_at,
      if_true, h, true_and]
    rfl

/-! ### A new target (R110, R112, R116) -/

/-- In TRAVEL with no step, or a QUEUED one, the wanted step is kept where it is QUEUED, and else built. -/
theorem applyTravel_queued (i : Stand) (s : State) (t : Int) (ht : s.actuators[i].t = some t)
    (hq : ∀ w, s.actuators[i].work = some w → w.phase = .queued) :
    applyTravel i s =
      if s.actuators[i].work.map (·.cmd) =
        some (.travel (wantedStep s.actuators[i].p t s.stands[i].maxStep)) then s
      else buildWork i (.travel (wantedStep s.actuators[i].p t s.stands[i].maxStep)) s := by
  simp only [applyTravel, ht]
  cases hw : s.actuators[i].work with
  | none => simp
  | some w => simp [hq w hw]

/-- A step IN_FLIGHT or MOVING is not changed (R112). -/
theorem applyTravel_busy (i : Stand) (s : State) (h : workBusy s i true = true) :
    applyTravel i s = s := by
  simp only [workBusy] at h
  simp only [applyTravel]
  cases hw : s.actuators[i].work with
  | none => simp [hw, -Fin.getElem_fin] at h
  | some w =>
    rw [hw] at h
    cases s.actuators[i].t with
    | none => rfl
    | some t => cases hp : w.phase <;> simp [hp] at h ⊢

/-- In HOLD at the target a trim is dropped and nothing is built (R116). -/
theorem applyHold_there (i : Stand) (s : State) (h : s.actuators[i].t = some s.actuators[i].p) :
    applyHold i s = dropWork i s := by
  simp [applyHold, h, -Fin.getElem_fin]

/-- In HOLD within the band the wanted trim is kept where it is QUEUED, and else built (R116). -/
theorem applyHold_band (i : Stand) (s : State) (t : Int) (ht : s.actuators[i].t = some t)
    (hp : t ≠ s.actuators[i].p) (hm : s.stands[i].mode = .band)
    (hb : (t - s.actuators[i].c).natAbs ≤ s.stands[i].band)
    (hq : ∀ w, s.actuators[i].work = some w → w.phase = .queued) :
    applyHold i s =
      if s.actuators[i].work.map (·.cmd) = some (.trim (t - s.actuators[i].c)) then s
      else buildWork i (.trim (t - s.actuators[i].c)) s := by
  simp only [applyHold, ht, if_neg hp, if_pos (And.intro hm hb)]
  cases hw : s.actuators[i].work with
  | none => simp
  | some w => simp [hq w hw]

/-- In HOLD beyond the band, or in mode DIRECT, the stand travels (R116). -/
theorem applyHold_beyond (i : Stand) (s : State) (t : Int) (ht : s.actuators[i].t = some t)
    (hp : t ≠ s.actuators[i].p)
    (hb : ¬ (s.stands[i].mode = .band ∧ (t - s.actuators[i].c).natAbs ≤ s.stands[i].band)) :
    applyHold i s = enterTravel i s := by
  simp only [applyHold, ht, if_neg hp, if_neg hb]

/-! ### HOLD of other parties (R161, R176) -/

/-- HOLD asserted by another party during a LINK-RESET pulse is only seen, not answered (R176). -/
theorem nodeWins_resetting (urgent : Bool) (address : BitVec 4) (s : State)
    (h : s.link.state = .resetting) :
    nodeWins urgent address s = s.onLink fun l => { l with holdOther := true } := by
  simp [nodeWins, h]

/-- A node's win on a link that another party or the part holds changes nothing. -/
theorem nodeWins_held (urgent : Bool) (address : BitVec 4) (s : State)
    (h : s.link.state = .node ∨ s.link.state = .part) : nodeWins urgent address s = s := by
  rcases h with h | h <;> simp [nodeWins, h]

/-! ### Requests -/

/-- The state with a request in hand and the assembler IDLE: what `serve` is given when no other is in
hand. -/
def taken (tag : Byte) (r : Request) (s : State) : State :=
  s.onHost fun p => { p with asm := .idle, content := [], inputQueue := [⟨tag, r⟩] }

/-- A request that finds no other in hand is taken at once: it is served on the state with it in hand, a
transaction that its urgent work ends is ended, and its reply is on the line. -/
theorem submit_ready (tag : Byte) (r : Request) (s : State) (h : s.host.inputQueue = []) :
    submit tag r s =
      (abandonForUrgent (serve r (taken tag r s)).1).onHost fun p =>
        { p with
          reply := some ⟨tag, requestCode r, resultByte (serve r (taken tag r s)).2.code,
            (serve r (taken tag r s)).2.payload⟩ } := by
  simp [submit, takeHead, h, State.onHost, taken]

/-- A request that its rule answers without a change to the state. -/
theorem submit_unchanged (tag : Byte) (r : Request) (res : ResultCode) (payload : List Byte)
    (s : State) (h : Ready s) (hs : serve r (taken tag r s) = (taken tag r s, ⟨res, payload⟩)) :
    submit tag r s = answered tag r res payload s := by
  have hset : Settled (taken tag r s) := (settled_congr _ _ rfl rfl rfl fun _ => rfl).mpr h.settled
  rw [submit_ready _ _ _ h.noneInHand]
  simp only [hs, abandon_of_settled _ hset]
  rfl

/-- An answered request's reply leaves a settled state settled. -/
theorem settled_answered (tag : Byte) (r : Request) (res : ResultCode) (payload : List Byte)
    (s : State) : Settled (answered tag r res payload s) ↔ Settled s :=
  settled_congr _ _ rfl rfl rfl fun _ => rfl

/-! ### The data pair (R197, R139) -/

/-- A part held in reset or without supply drives nothing on the data pair. -/
@[simp] theorem pairBits_held (s : State) (h : s.power ≠ .running) : s.pairBits = [] := by
  unfold State.pairBits
  split <;> simp_all

@[simp] theorem pairBits_running (s : State) (h : s.power = .running) :
    s.pairBits = s.link.pairBits := by rw [State.pairBits, h]

end Sys2Proof.Machine
end

