-- ==== Sys2Proof/Laws/Readout.lean ====
section
/-! SUPPORT. What a payload shows at an offset, said once: the lengths of the numbers in bytes (R199), how a
field is read past the fields before it, and what an unsigned and a signed field of R199 show. -/

namespace Sys2Proof.Machine

@[simp] theorem be_length (w v : Nat) : (be w v).length = w := by
  induction w with
  | zero => rfl
  | succ w ih => simp [be, ih]

@[simp] theorem beSat_length (w v : Nat) : (beSat w v).length = w := be_length _ _

@[simp] theorem beInt_length (w : Nat) (v : Int) : (beInt w v).length = w := be_length _ _

/-- A number spelled by two runs of bytes. -/
theorem natOf_append (xs ys : List Byte) :
    natOf (xs ++ ys) = natOf xs * 256 ^ ys.length + natOf ys := by
  have key : ∀ (ys : List Byte) (a : Nat),
      ys.foldl (fun acc b => acc * 256 + b.toNat) a =
        a * 256 ^ ys.length + ys.foldl (fun acc b => acc * 256 + b.toNat) 0 := by
    intro ys
    induction ys with
    | nil => intro a; simp
    | cons y ys ih =>
      intro a
      simp only [List.foldl_cons, List.length_cons]
      rw [ih, ih (0 * 256 + y.toNat)]
      ring
  simp only [natOf, List.foldl_append]
  exact key ys _

/-- Writing a number in `w` bytes and reading it back keeps it modulo 256^w (R199). -/
@[simp] theorem natOf_be (w v : Nat) : natOf (be w v) = v % 256 ^ w := by
  induction w with
  | zero => simp [be, natOf, Nat.mod_one]
  | succ w ih =>
    have h : be (w + 1) v = [BitVec.ofNat 8 (v / 256 ^ w)] ++ be w v := rfl
    rw [h, natOf_append, ih, be_length]
    simp only [natOf, List.foldl_cons, List.foldl_nil, BitVec.toNat_ofNat]
    rw [pow_succ 256 w, Nat.mod_mul, Nat.zero_mul, Nat.zero_add, Nat.mul_comm]
    exact Nat.add_comm _ _

/-- A field past the first bytes of a payload. -/
theorem field_skip (xs ys : List Byte) (o w : Nat) :
    field (xs ++ ys) (xs.length + o) w = field ys o w := by
  simp [field, List.drop_append, List.drop_eq_nil_of_le (Nat.le_add_right xs.length o)]

/-- The first field of a payload. -/
theorem field_head (xs ys : List Byte) : field (xs ++ ys) 0 xs.length = natOf xs := by
  simp [field]

/-- A saturated field shows its value (R199). -/
theorem shows_beSat (w v : Nat) (ys : List Byte) : Shows (beSat w v ++ ys) 0 w v := by
  have h := field_head (beSat w v) ys
  rw [beSat_length] at h
  have p : 0 < 256 ^ w := Nat.pow_pos (by decide)
  rw [Shows, h, beSat, natOf_be, Nat.mod_eq_of_lt (by omega)]

/-- A field that its value fits shows it (R199). -/
theorem shows_be (w v : Nat) (ys : List Byte) (h : v < 256 ^ w) : Shows (be w v ++ ys) 0 w v := by
  have e : beSat w v = be w v := by rw [beSat, Nat.min_eq_left (by omega)]
  rw [← e]
  exact shows_beSat w v ys

/-- Past the bytes before it a field shows what it shows at the front. -/
theorem shows_skip (xs ys : List Byte) (o w v : Nat) :
    Shows (xs ++ ys) (xs.length + o) w v ↔ Shows ys o w v := by
  rw [Shows, Shows, field_skip]

/-- Past the bytes before it a signed field shows what it shows at the front. -/
theorem showsInt_skip (xs ys : List Byte) (o w : Nat) (v : Int) :
    ShowsInt (xs ++ ys) (xs.length + o) w v ↔ ShowsInt ys o w v := by
  rw [ShowsInt, ShowsInt, field_skip]

/-- A signed field shows its value (R199). -/
theorem showsInt_beInt (w : Nat) (v : Int) (ys : List Byte) (hw : 0 < w) :
    ShowsInt (beInt w v ++ ys) 0 w v := by
  have h := field_head (beInt w v) ys
  rw [beInt_length] at h
  rw [ShowsInt, h, beInt, natOf_be]
  obtain ⟨n, rfl⟩ : ∃ n, w = n + 1 := ⟨w - 1, by omega⟩
  have p : (256 : Int) ^ (n + 1) = 2 * (128 * 256 ^ n) := by ring
  have q : (2 : Nat) ^ (8 * (n + 1)) = 256 ^ (n + 1) := by
    rw [pow_mul]
    rfl
  have pos : (0 : Int) < 128 * 256 ^ n := by positivity
  have e : (256 : Int) ^ (n + 1) / 2 = 128 * 256 ^ n := by omega
  have c : (256 : Int) ^ (n + 1) = ((256 ^ (n + 1) : Nat) : Int) := by push_cast; rfl
  simp only [e, clampTo]
  rw [BitVec.toInt_ofNat', q]
  have m : ∀ u : Int, -(128 * 256 ^ n) ≤ u → u ≤ 128 * 256 ^ n - 1 →
      (((u % (256 ^ (n + 1) : Int)).toNat % 256 ^ (n + 1) : Nat) : Int).bmod (256 ^ (n + 1)) = u := by
    intro u h1 h2
    have nn : 0 ≤ u % (256 : Int) ^ (n + 1) := Int.emod_nonneg _ (by omega)
    push_cast
    rw [Int.toNat_of_nonneg nn, Int.emod_emod_of_dvd _ (dvd_refl _)]
    have := Int.emod_bmod (x := u) (n := 256 ^ (n + 1))
    push_cast at this
    rw [this, Int.bmod_eq_of_le]
    · push_cast; omega
    · push_cast; omega
  split
  · rw [m _ (le_refl _) (by omega), if_neg (by omega)]
  · split
    · rw [m _ (by omega) (le_refl _)]
    · rw [m _ (by omega) (by omega)]

end Sys2Proof.Machine
end

