-- ==== Sys2Proof/WellFormed.lean ====
section
/-! DEFINITION. Well-formed commands: those whose operands describe an event the spec admits. Any other
term is an event that cannot happen (log entry 3). -/

namespace Sys2Proof

/-- A code and payload that fit no request, in a frame of at most 240 payload bytes (R182, R187). -/
def badFrame (code : Byte) (payload : List Byte) : Bool :=
  decide (payload.length ≤ 240) &&
    match Machine.parseRequest code payload with
    | .bad _ _ => true
    | _ => false

/-- A node frame's payload has the length its header gives (R169). -/
def frameFits (f : NodeFrame) : Bool := decide (f.payload.length = f.length.toNat)

/-- The operands of a command describe an event the spec admits. Every other field is judged by the part
itself, so every value of it is admitted (R199). -/
def Instr.wellFormed : Instr → Bool
  | .hostByteReceived _ _ => true
  | .replySent => true
  | .badFrameCode _ code payload => badFrame code payload
  | .status _ _ => true
  | .readEvents _ _ => true
  | .setAttentionLevel _ _ => true
  | .restart _ => true
  | .configureMill _ _ => true
  | .configureStand _ _ => true
  | .configureGauge _ _ => true
  | .startTracking _ _ _ => true
  | .stopTracking _ => true
  | .readCells _ _ _ _ => true
  | .standardizeGauge _ _ => true
  | .readGauges _ => true
  | .loadProduct _ _ => true
  | .eraseProduct _ _ => true
  | .readProduct _ _ _ => true
  | .appendCoil _ _ _ => true
  | .clearCoilList _ => true
  | .setOffset _ _ _ => true
  | .resetTrim _ _ => true
  | .engageStand _ _ => true
  | .openStand _ _ => true
  | .readStand _ _ => true
  | .configureTrip _ _ _ _ => true
  | .tripRequest _ _ => true
  | .clearTrips _ => true
  | .readTrips _ _ _ => true
  | .resetStandLink _ => true
  | .readNodes _ _ => true
  | .resetAsserted => true
  | .resetReleased => true
  | .timeBaseTick => true
  | .estopLineChange _ _ => true
  | .settleTimerExpiry _ => true
  | .moveTimerExpiry _ => true
  | .openTimerExpiry _ => true
  | .stopConfirmExpiry => true
  | .nodeSilence _ => true
  | .responseTimeout _ => true
  | .stuckLinkDetected _ => true
  | .linkResetPulseEnd => true
  | .arbitrationOpportunity => true
  | .arbitrationWon _ => true
  | .nodeWinsArbitration _ _ => true
  | .holdReleased => true
  | .txnFrameSent => true
  | .stopBroadcastSent => true
  | .responseByteReceived _ _ => true
  | .nodeFrameRefused f => frameFits f
  | .standReport _ => true
  | .entryReport _ => true
  | .gaugeSample _ => true
  | .powerLoss => true

end Sys2Proof
end

