-- ==== Sys2Proof/Tests/Slice0.lean ====
section
/-! SUPPORT. The model's own tests: the checks of WellFormed, the CRCs and byte strings that spec 10 works
out, one step of each kind of command, and for each statement of the certificate a state and operands
that meet its hypotheses. -/

namespace Sys2Proof.Tests

open Machine

-- The tests are closed evaluations by the kernel: run one after another they need one thread.
set_option Elab.async false

/-! ### States for the tests -/

/-- The state after a command. -/
def after (c : Instr) (s : State) : State :=
  match exec c s with
  | .next t => t
  | .fault _ => s
  | .refused _ => s

/-- A record of a stand at an address, at the edges of what R10 admits. -/
def standAt (a : Node) : StandRecord :=
  { standReset with
    configured := true, addr := some a, gapMin := 0, gapMax := 60000, ffLimit := 10000,
    monLimit := 20000, mode := .band, band := 50, maxStep := 5000, settle := 100,
    moveTimeout := 1000, openTimeout := 3000, breakTension := 40 }

/-- A gauge at an address that measures. -/
def gaugeAt (a : Node) (g : Nat) : GaugeRecord :=
  { gaugeReset with
    installed := true, addr := some a, g := g, stdLength := 1, mode := .measuring }

/-- A PRESENT node of a role in REMOTE. -/
def nodeAt (r : Role) : NodeEntry := { nodeReset r with state := .present, remote := true }

/-- A loaded product. -/
def product0 : ProductEntry := { productReset with loaded := true, hRef := 2000 }

/-- A mill of three stands with its entry node, three stand nodes and two gauges PRESENT, nothing latched,
tracking STOPPED and the link FREE. -/
def mill : State :=
  { State.reset with
    mill :=
      { configured := true, n := 3, ql := 100000, dist := #v[500000, 600000, 700000, 0, 0, 0],
        retire := 500000, biteAllowance := 10000, breakTension0 := 40, entryAddr := some 0,
        silenceMs := 100, stopConfirm := 1000, respUs := 50, txnLimitUs := 500 }
    stands := #v[standAt 1, standAt 2, standAt 3, standReset, standReset]
    gauges := #v[gaugeAt 4 0, gaugeAt 5 1000, gaugeReset, gaugeReset, gaugeReset, gaugeReset]
    store := { storeReset with table := storeReset.table.set 0 product0 }
    trips := tripsReset (Vector.replicate 8 false)
    nodes := #v[nodeAt .entry, nodeAt (.stand 0), nodeAt (.stand 1), nodeAt (.stand 2),
      nodeAt (.gauge 0), nodeAt (.gauge 1), nodeAt .none, nodeReset .none, nodeReset .none,
      nodeReset .none, nodeReset .none, nodeReset .none, nodeReset .none, nodeReset .none,
      nodeReset .none] }

/-- A stand list entry with a stamp. -/
def entryAt (stamp : Nat) : StandEntry :=
  { stamp := stamp, ff := 0, sum := 6000, count := 3, hm := none, hf := none, monUsed := false }

/-- Two cells of a strip, the older through stand 2 and the newer through stand 1. -/
def cell1 : Cell :=
  { serial := 1, coil := 9, product := 0, headEnd := true, weld := false,
    measured := some ⟨2100, 210000000⟩, extended := false, e0 := 0, l0 := 100000, approach := 0,
    entries := [entryAt 0, entryAt 0] }
def cell2 : Cell :=
  { cell1 with serial := 2, headEnd := false, e0 := 100000, entries := [entryAt 90000] }

/-- The forming cell behind them. -/
def forming3 : FormingCell :=
  { stamp := 950000, coil := 9, product := 0, headEnd := false, weld := false, extended := false,
    sum := 0, count := 0, pendingWeld := none }

/-- A stand in HOLD at its target. -/
def holding : Actuator := { actuatorReset with state := .hold, c := 20000, p := 20000, t := some 20000 }

/-- A stand in TRAVEL with a step of number 7 in a phase. -/
def travelling (phase : WorkPhase) : Actuator :=
  { actuatorReset with
    state := .travel, c := 0, p := 17000, t := some 20000, number := 7,
    work := some ⟨.travel 20000, 7, phase⟩, reported := some 17000 }

/-- The link with a transaction of the part to a node, its check byte sent. -/
def onLink (item : Item) (a : Node) : Link :=
  { linkReset false with
    state := .part, inFlight := some ⟨item, .normal, some a, true⟩, respTimer := some 50 }

/-- The mill with a strip through it: stand 1 holds, stand 2 travels with its step on the link. -/
def strip : State :=
  { mill with
    track :=
      { mode := .running, odo := #v[1000000, 800000, 300000, 0, 0, 0], forming := some forming3,
        queue := [cell1, cell2], nextSerial := 3, cobble := none, poolFull := false }
    store := { mill.store with
      coils := [⟨77, 0⟩], threading := some 0, active := #v[some 0, some 0, some 0, none, none] }
    demands := #v[{ demandReset with demand := some ⟨20000, 20000⟩ },
      { demandReset with demand := some ⟨20000, 20000⟩ }, demandReset, demandReset, demandReset]
    actuators := #v[holding, travelling .inFlight, actuatorReset, actuatorReset, actuatorReset]
    link := onLink (.gap 1 (.travel 20000) 7) 2 }

/-- The strip with the link FREE and the step queued. -/
def waiting : State :=
  { strip with
    actuators := strip.actuators.set 1 (travelling .queued), link := linkReset false }

/-- Stand 1 holding with a trim on the link, and stand 1 opening with its GAP_OPEN on the link. -/
def trimming : State :=
  { waiting with
    actuators := waiting.actuators.set 0
      { holding with t := some 20030, work := some ⟨.trim 30, 8, .inFlight⟩ }
    link := onLink (.gap 0 (.trim 30) 8) 1 }
def openingOn : State :=
  { waiting with
    actuators := waiting.actuators.set 0
      { holding with state := .opening, work := some ⟨.open_, 9, .inFlight⟩ }
    link := onLink (.gapOpen 0 9) 1 }

/-- Gauge AFTER-1 in a phase of standardisation. -/
def inPhase (ph : StdPhase) (m : GaugeMode) (s : State) : State :=
  s.onGauge 1 fun r => { r with phase := ph, mode := m }

/-- A frame of node `a` is under reception. -/
def hearing (a : Node) (s : State) : State :=
  { s with link :=
      { linkReset true with sender := some (BitVec.ofNat 4 a.val) } }

/-- A state with its event queue full. -/
def eventsFull (s : State) : State :=
  s.onHost fun h => { h with events := List.replicate 48 ⟨.linkReset, .none, none, 0, 0⟩ }

theorem ready_mill : Ready mill := ⟨rfl, rfl, settled_of_none _ rfl⟩

theorem running_mill : Running mill := ⟨rfl, settled_of_none _ rfl⟩

theorem ready_waiting : Ready waiting := ⟨rfl, rfl, settled_of_none _ rfl⟩

theorem running_waiting : Running waiting := ⟨rfl, settled_of_none _ rfl⟩

theorem settled_strip : Settled strip := by
  intro f hf _
  rfl

theorem ready_strip : Ready strip := ⟨rfl, rfl, settled_strip⟩

theorem running_strip : Running strip := ⟨rfl, settled_strip⟩

theorem running_hearing (a : Node) (s : State) (h : s.power = .running) : Running (hearing a s) :=
  ⟨h, settled_of_none _ rfl⟩

theorem receiving_hearing (a : Node) (s : State) : Receiving (hearing a s) a := ⟨rfl, rfl⟩

theorem rolesUnique_mill : RolesUnique mill := by
  have : ∀ a b : Node, mill.nodes[a].role = mill.nodes[b].role → mill.nodes[a].role ≠ .none → a = b := by
    decide +kernel
  exact this

theorem runSound_strip : RunSound strip where
  stopped := by decide +kernel
  running := by decide +kernel
  cells := by decide +kernel
  serials := by
    intro j c h
    match j with
    | 0 => cases h; rfl
    | 1 => cases h; rfl
    | _ + 2 => cases h

/-! ### WellFormed, one term for each check -/

theorem test_bad_frame_of_known_code_refused :
    (Instr.badFrameCode 1 0x13 []).wellFormed = false := by decide

theorem test_bad_frame_too_long_refused :
    (Instr.badFrameCode 1 0x99 (List.replicate 241 0)).wellFormed = false := by decide +kernel

theorem test_bad_frame_admitted :
    (Instr.badFrameCode 1 0x13 [0]).wellFormed = true ∧
    (Instr.badFrameCode 1 0x99 (List.replicate 240 0)).wellFormed = true := by decide +kernel

theorem test_node_frame_length_refused :
    (Instr.nodeFrameRefused ⟨15, true, 0x63, 3, 0, [1, 2], 0, true⟩).wellFormed = false := by decide

/-! ### CRCs and frames that spec 10 works out -/

theorem test_crc16_vector :
    crc16 [0x31, 0x32, 0x33, 0x34, 0x35, 0x36, 0x37, 0x38, 0x39] = 0x29B1 := by decide +kernel

theorem test_crc8_vector :
    crc8 [0x31, 0x32, 0x33, 0x34, 0x35, 0x36, 0x37, 0x38, 0x39] = 0xF4 := by decide +kernel

theorem test_read_events_line :
    requestLine 0xC3 (.readEvents 10) =
      [0xC3, 0x01, 0x9D, 0x99, 0x11, 0x01, 0x0A, 0x75, 0x0D] := by decide +kernel

/-- The GAP_TRAVEL example of spec 10: no. 43 to 14,850 for the node at address 1, as normal work. -/
theorem test_gap_travel_line :
    partByte .normal = 0x0F ∧
    (inFlightFrame ⟨.gap 0 (.travel 14850) 43, .normal, some 1, false⟩).take 8 =
      [0x01, 0x21, 0x04, 0x2B, 0x00, 0x00, 0x3A, 0x02] := by decide +kernel

/-- The same example on the pair (R210): 0x0F most significant bit first with four 1 bits, so parity 1;
then 0x01 least significant bit first, parity 0. -/
theorem test_gap_travel_bits :
    (inFlightBits ⟨.gap 0 (.travel 14850) 43, .normal, some 1, false⟩).take 18 =
      [false, false, false, false, true, true, true, true, true,
        true, false, false, false, false, false, false, false, false] := by decide +kernel

/-- An URGENT byte of a node overrides the part's NORMAL byte (R210). -/
theorem test_contest_reads_the_highest :
    contest 8 [msbFirst 0x0F, msbFirst 0x12, msbFirst 0x03] = msbFirst 0x12 := by decide +kernel

/-! ### The worked figures of chapters 2, 3 and 5 -/

theorem test_means_round_half_up :
    roundHalfUp 96721 4 = 24180 ∧ roundHalfUp 96723 4 = 24181 ∧ roundHalfUp 69061 4 = 17265 ∧
      roundHalfUp 48361 2 = 24181 := by decide

theorem test_feedforward_and_trim_steps :
    -(scaleQ12 (180 * 3277)) = -144 ∧ (-40 : Int) - scaleQ12 (65 * 1024) = -56 ∧
      -(scaleQ12 (65 * 2000)) = -32 := by decide

theorem test_mass_flow_of_cell_212 :
    massFlowOf { cell1 with measured := some ⟨24180, 12090000000⟩ } 700000 =
      some ⟨17271, false⟩ := by decide

/-! ### Reset and power -/

/-- The part as the RESET line holds it, line 3 pressed and HOLD asserted by a node. -/
def held : State :=
  { mill with power := .inReset, trips := tripsReset ((Vector.replicate 8 false).set 3 true),
              link := linkReset true }

theorem test_reset_released_from_reset : afterReset 0 State.reset = State.reset := by rfl

theorem test_pressed_line_latched_after_reset :
    (after .resetReleased held).trips.records[(3 : Source)].rank = 2 ∧
      (after .resetReleased held).link.state = .node := by decide +kernel

theorem witness_ResetReleasedLeavesResetValues :
    held.power = .inReset ∧ held.link.holdOther = true ∧
      held.trips.pressed[(3 : Fin 8)] = true ∧ held.trips.pressed[(0 : Fin 8)] = false :=
  ⟨rfl, rfl, rfl, rfl⟩

/-- A Restart in hand with its reply on the line. -/
def restarting : State :=
  mill.onHost fun h => { h with reply := some ⟨5, 0x13, 0, []⟩, inputQueue := [⟨5, .restart⟩] }

theorem witness_RestartResetsAfterItsReply :
    Ready mill ∧ restarting.power = .running ∧ restarting.host.reply = some ⟨5, 0x13, 0, []⟩ ∧
      restarting.host.inputQueue = ⟨5, .restart⟩ :: [] :=
  ⟨ready_mill, rfl, rfl, rfl⟩

theorem test_restart_detail : (after .replySent restarting).trips.records[(31 : Source)].detail = 1 := by
  rfl

theorem test_reset_asserted_mstop : (after .resetAsserted mill).mstop = true ∧ mill.mstop = false := by
  decide +kernel

theorem test_power_loss_mstop : (after .powerLoss mill).mstop = true := by rfl

theorem witness_HeldPartAssertsMstopAndIgnores :
    held.power ≠ .running ∧ Instr.timeBaseTick ≠ .resetAsserted ∧ Instr.timeBaseTick ≠ .resetReleased ∧
      Instr.timeBaseTick ≠ .powerLoss ∧ Instr.timeBaseTick ≠ .holdReleased ∧
      (∀ x low, Instr.timeBaseTick ≠ .estopLineChange x low) ∧
      ∀ u a, Instr.timeBaseTick ≠ .nodeWinsArbitration u a := by
  refine ⟨by decide, ?_, ?_, ?_, ?_, ?_, ?_⟩ <;> simp

/-! ### The laws every step keeps: a strip with a step on the link meets them all -/

/-- The strip with a tick waiting. -/
def ticking : State := strip.withPending [.timeBaseTick]

theorem step_ticking : step ticking = .next { strip with now := 1 } := by rfl

theorem witness_StepKeepsBounds : Bounded ticking ∧ step ticking = .next { strip with now := 1 } := by
  refine ⟨?_, step_ticking⟩
  constructor <;> decide +kernel

/-- Every table and counter of the bounds at its largest value. -/
theorem witness_StepKeepsBounds_full : Bounded (eventsFull { strip with
    track := { strip.track with queue := List.replicate 256 cell1 }
    store := { strip.store with coils := List.replicate 8 ⟨1, 0⟩ }
    trips := { strip.trips with low := Vector.replicate 5 255 }
    host := { hostReset with crcDrops := 65535, attention := 7 } }) := by
  constructor <;> decide +kernel

theorem witness_StepKeepsBounds_host : HostSound ticking ∧ step ticking = .next { strip with now := 1 } :=
  ⟨⟨fun _ => rfl, by decide +kernel⟩, step_ticking⟩

theorem witness_StepKeepsLinkSound_settled :
    Settled ticking ∧ ticking.link.inFlight.isSome = true ∧
      step ticking = .next { strip with now := 1 } :=
  ⟨settled_strip, rfl, step_ticking⟩

theorem witness_StepKeepsLinkSound : LinkSound ticking ∧ step ticking = .next { strip with now := 1 } := by
  refine ⟨⟨by decide +kernel, ?_, ?_, by decide +kernel, by decide +kernel⟩, step_ticking⟩
  · exact ⟨fun _ => ⟨_, rfl, rfl⟩, fun _ => rfl⟩
  · intro f hf _ l b h
    cases hf
    cases h

theorem witness_StepKeepsRolesUnique :
    RolesUnique ticking ∧ step ticking = .next { strip with now := 1 } :=
  ⟨rolesUnique_mill, step_ticking⟩

/-- The records of two latched sources, HOST_REQUEST first and COBBLE_1 second. -/
def twoLatched : Trips :=
  { mill.trips with
    records := (tripDefaults.set 29 { clearRecord .fastStop 0 with latched := true, rank := 1, count := 1 }).set
      13 { clearRecord .emergency 0b00100 with latched := true, rank := 2, count := 255 }
    stopWanted := .emergency, stopSent := .fast, confirm := .waiting, confirmT := some ⟨0, 1000⟩
    pressed := (Vector.replicate 8 false) }

/-- The strip with two trips latched, of which one names stand 3, open. -/
def tripped : State :=
  { strip with trips := twoLatched, link := linkReset false, pending := [.timeBaseTick] }

theorem step_tripped : step tripped = .next { tripped with now := 1, pending := [] } := by rfl

theorem ranksSound_tripped : RanksSound tripped where
  range := by decide +kernel
  once := by decide +kernel
  clear := by decide +kernel

theorem witness_StepKeepsFirstOutRanks :
    RanksSound tripped ∧ latchedCount tripped = 2 ∧
      step tripped = .next { tripped with now := 1, pending := [] } :=
  ⟨ranksSound_tripped, by decide +kernel, step_tripped⟩

/-- Line 7 pressed and latched. -/
def pressed7 : State :=
  { mill with
    trips := { mill.trips with
      records := tripDefaults.set 7
        { clearRecord .emergency 0b11111 with latched := true, rank := 1, count := 1, detail := 7 }
      stopWanted := .emergency, pressed := (Vector.replicate 8 false).set 7 true } }

theorem witness_StepKeepsPressedLatched :
    PressedLatched pressed7 ∧ pressed7.trips.pressed[(7 : Fin 8)] = true ∧
      step pressed7 = .next pressed7 := by
  refine ⟨?_, rfl, rfl⟩
  have : ∀ x : Fin 8, pressed7.trips.pressed[x] = true →
      pressed7.trips.records[sourceIndex (.estop x)].latched = true := by decide +kernel
  exact fun _ => this

theorem witness_StepKeepsStopLevels :
    StopsSound tripped ∧ emergencyStanding tripped = true ∧
      step tripped = .next { tripped with now := 1, pending := [] } := by
  refine ⟨⟨by decide +kernel, by decide +kernel, ?_, by decide +kernel⟩, by decide +kernel, step_tripped⟩
  intro f lv hf
  cases hf

theorem witness_StepKeepsTrippedStandsOpen :
    StandsSound tripped ∧ tripNames tripped 2 = true ∧
      step tripped = .next { tripped with now := 1, pending := [] } := by
  refine ⟨⟨?_, ?_⟩, by decide +kernel, step_tripped⟩
  · have : ∀ i : Stand, ∀ w ∈ tripped.actuators[i].work,
        tripped.actuators[i].state = homeState w.cmd := by decide +kernel
    exact this
  · unfold openGroup
    decide +kernel

theorem witness_StepKeepsDemandsWithinLimits :
    DemandSound ticking ∧ step ticking = .next { strip with now := 1 } := by
  refine ⟨⟨by decide +kernel, by decide +kernel, by decide +kernel, ?_⟩, step_ticking⟩
  have : ∀ i : Stand, ticking.stands[i].configured = true → ∀ d ∈ ticking.demands[i].demand,
      ticking.stands[i].gapMin ≤ d.value ∧ d.value ≤ ticking.stands[i].gapMax := by decide +kernel
  exact fun i d hc hd => this i hc d hd

theorem witness_StepKeepsSerialRun : RunSound ticking ∧ step ticking = .next { strip with now := 1 } :=
  ⟨⟨runSound_strip.stopped, runSound_strip.running, runSound_strip.cells, runSound_strip.serials⟩,
    step_ticking⟩

theorem witness_StepKeepsBiteOrder :
    RunSound ticking ∧ BitesSound ticking ∧ step ticking = .next { strip with now := 1 } := by
  refine ⟨witness_StepKeepsSerialRun.1, ⟨?_, ?_, by decide +kernel, ?_, by decide +kernel⟩, step_ticking⟩
  · refine List.pairwise_pair.mpr ⟨by decide +kernel, fun k b h => ?_⟩
    match k with
    | 0 => cases h; exact ⟨0, rfl, by decide⟩
    | 1 => cases h; exact ⟨0, rfl, by decide⟩
    | _ + 2 => cases h
  · have : ∀ c ∈ ticking.track.queue, ∀ z : Zone, ∀ e ∈ stampOf c z.val, e ≤ ticking.track.odo[z] := by
      decide +kernel
    exact this
  · intro f hf
    cases hf
    refine ⟨by decide +kernel, by decide +kernel, by decide +kernel, fun w h => by cases h⟩

theorem witness_StepKeepsNamedProductsLoaded :
    ProductsHeld ticking ∧ ticking.refCount 0 = 8 ∧ step ticking = .next { strip with now := 1 } := by
  refine ⟨?_, by decide +kernel, step_ticking⟩
  have : ∀ p : Product, ticking.refCount p ≠ 0 → ticking.store.table[p].loaded = true := by
    decide +kernel
  exact this

/-! ### The host line -/

theorem witness_RequestPayloadParsesBack :
    ∀ code reason, Request.readCells 281474976710655 8 5 ≠ .bad code reason := by simp

theorem witness_RequestBytesAreItsCommand :
    asFrame (.readCells 0xC3 281474976710655 8 5) =
        some ⟨0xC3, .readCells 281474976710655 8 5⟩ ∧
      (∀ code reason, Request.readCells 281474976710655 8 5 ≠ .bad code reason) ∧
      Running mill ∧ Running strip :=
  ⟨rfl, by simp, running_mill, running_strip⟩

theorem witness_AssemblerTransitions_frame :
    (List.replicate 240 (0 : Byte)).length ≤ 240 ∧
      (0 : BitVec 16) ≠ crc16 [0x01, 5, 0x13, 0] ∧ (0x02 : Byte) ≠ 0x01 :=
  ⟨by rw [List.length_replicate], by decide +kernel, by decide⟩

/-- The assembler in a state with some content. -/
def assembling (a : AsmState) (content : List Byte) : State :=
  mill.onHost fun h => { h with asm := a, content := content }

theorem witness_AssemblerTransitions :
    Running mill ∧ mill.host.asm = .idle ∧ (0xC7 : Byte) ≠ 0xC3 ∧
      (assembling .receiving [1, 2, 3]).host.asm = .receiving ∧
      (assembling .receiving [1, 2, 3]).host.content.length = 3 ∧
      (241 : Byte) ≠ 0xC3 ∧ (241 : Byte) ≠ 0x9D ∧ 240 < (241 : Byte).toNat ∧
      (assembling .receiving [1, 2]).host.content.length < 3 ∧
      (assembling .escaped [1, 2]).host.asm = .escaped ∧
      (assembling .escaped [1, 2]).host.content.length < 3 ∧
      ((0 : Byte) ≠ 0xC3 ∧ (0 : Byte) ≠ 0x99 ∧ (0 : Byte) ≠ 0xC7) ∧
      ∀ a content, Running (assembling a content) :=
  ⟨running_mill, rfl, by decide, rfl, rfl, by decide, by decide, by decide, by decide, rfl, by decide,
    by decide, fun _ _ => ⟨rfl, settled_of_none _ rfl⟩⟩

theorem test_byte_in_escape_dropped :
    (after (.hostByteReceived 0x00 true) (assembling .escaped [1])).host.formatDrops = 1 := by decide +kernel

/-- A number of requests in the input queue, the first in hand. -/
def queued (n : Nat) : State :=
  mill.onHost fun h =>
    { h with inputQueue := List.replicate n ⟨1, .status 0⟩, reply := some ⟨1, 0x10, 0, []⟩ }

theorem witness_RequestQueuedOrAnswered :
    asFrame (.badFrameCode 9 0x13 [0]) = some ⟨9, .bad 0x13 1⟩ ∧ asFrame (.status 9 0) = some ⟨9, .status 0⟩ ∧
      Ready mill ∧ Running (queued 4) ∧ 4 ≤ (queued 4).host.inputQueue.length ∧
      Running (queued 1) ∧ 1 ≤ (queued 1).host.inputQueue.length ∧
      Running (queued 3) ∧ (queued 3).host.inputQueue.length ≤ 3 :=
  ⟨by decide +kernel, rfl, ready_mill, ⟨rfl, settled_of_none _ rfl⟩, by decide +kernel,
    ⟨rfl, settled_of_none _ rfl⟩, by decide +kernel, ⟨rfl, settled_of_none _ rfl⟩, by decide +kernel⟩

theorem test_bad_length_reply :
    (after (.badFrameCode 9 0x13 [0]) mill).host.reply = some ⟨9, 0x13, 0x01, [1]⟩ := by decide +kernel

theorem test_unknown_code_reply :
    (after (.badFrameCode 9 0x14 []) mill).host.reply = some ⟨9, 0x14, 0x01, [0]⟩ := by decide +kernel

theorem witness_RefusedRequestChangesNothing :
    asFrame (.status 9 2) = some ⟨9, .status 2⟩ ∧ Ready strip ∧
      exec (.status 9 2) strip = .next (after (.status 9 2) strip) ∧
      (after (.status 9 2) strip).host.reply = some ⟨9, 0x10, 0x02, [0]⟩ ∧ (0x02 : Byte) ≠ 0 :=
  ⟨rfl, ready_strip, rfl, by decide +kernel, by decide⟩

theorem witness_RequestQueuedOrAnswered_reply :
    Running mill ∧ mill.host.reply = none ∧ Running (queued 1) ∧ Running (queued 2) ∧
      (queued 1).host.reply = some ⟨1, 0x10, 0, []⟩ ∧
      (queued 1).host.inputQueue = ⟨1, .status 0⟩ :: [] ∧
      (queued 2).host.inputQueue = ⟨1, .status 0⟩ :: [⟨1, .status 0⟩] ∧ Request.status 0 ≠ .restart :=
  ⟨running_mill, rfl, ⟨rfl, settled_of_none _ rfl⟩, ⟨rfl, settled_of_none _ rfl⟩, rfl, rfl, rfl,
    by simp⟩

theorem test_reply_sent_empties : (after .replySent (queued 1)).host.inputQueue = [] := by decide +kernel

theorem witness_EveryReplyFits :
    asFrame (.readEvents 9 10) = some ⟨9, .readEvents 10⟩ ∧ Ready (eventsFull mill) ∧
      Bounded (eventsFull mill) ∧
      exec (.readEvents 9 10) (eventsFull mill) = .next (after (.readEvents 9 10) (eventsFull mill)) ∧
      (after (.readEvents 9 10) (eventsFull mill)).host.reply.isSome = true := by
  refine ⟨rfl, ⟨rfl, rfl, settled_of_none _ rfl⟩, ?_, rfl, by decide +kernel⟩
  constructor <;> decide +kernel

theorem witness_ReadRequestsChangeNothing :
    Ready strip ∧ 1 < (2 : Byte).toNat ∧ (5 : Byte).toNat = (4 : Stand).val + 1 ∧ 5 < (6 : Byte).toNat ∧
      (15 : Byte).toNat = (15 : Product).val ∧ 15 < (16 : Byte).toNat ∧ 8 < (9 : Byte).toNat ∧
      3 < (4 : Byte).toNat ∧ ((8 : Byte).toNat ≤ 8 ∧ (3 : Byte).toNat ≤ strip.mill.n) :=
  ⟨ready_strip, by decide, by decide, by decide, by decide, by decide, by decide, by decide,
    by decide, by decide⟩

theorem test_status_reply_head :
    ((after (.status 1 0) strip).host.reply.map fun r => r.payload.take 5) = some [1, 3, 2, 0, 2] := by
  decide +kernel

theorem witness_EventRequestsServe :
    Ready (eventsFull mill) ∧ (1 ≤ (1 : Byte).toNat ∧ (10 : Byte).toNat ≤ 10) ∧ 10 < (11 : Byte).toNat ∧
      (7 : Byte).toNat ≤ 7 ∧ 7 < (8 : Byte).toNat ∧ (0 : Byte).toNat = 0 :=
  ⟨⟨rfl, rfl, settled_of_none _ rfl⟩, by decide, by decide, by decide, by decide, rfl⟩

/-- One LINK_RESET event queued, of level 4, under an attention level, with nothing unreported. -/
def attending (level : Nat) : State :=
  mill.onHost fun h => { h with attention := level, events := [⟨.linkReset, .none, none, 0, 0⟩] }

theorem witness_EventRequestsServe_attn :
    (attending 4).power = .running ∧
      (∃ e ∈ (attending 4).host.events, (attending 4).host.attention ≤ eventLevel e.code) ∧
      (¬ ∃ e ∈ (attending 5).host.events, (attending 5).host.attention ≤ eventLevel e.code) ∧
      (¬ ∃ k : Source, (attending 5).trips.records[k].latched = true ∧
        (attending 5).trips.records[k].reported = false) ∧
      (after .resetReleased held).trips.records[(31 : Source)].latched = true ∧
      (after .resetReleased held).trips.records[(31 : Source)].reported = false := by decide +kernel

theorem test_attn_at_the_attention_level :
    (attending 4).attn = true ∧ (attending 5).attn = false ∧
      (after (.readEvents 1 1) (attending 4)).attn = false ∧
      (after (.setAttentionLevel 1 4) (attending 5)).attn = true := by decide +kernel

theorem test_raise_at_48_only_overruns :
    (raise .nodePresent .none none 0 (eventsFull mill)).host = { (eventsFull mill).host with overrun := true } ∧
      (raise .nodePresent .none none 0 mill).host.events = [⟨.nodePresent, .none, none, 0, 0⟩] := by
  decide +kernel

theorem test_read_events_removes :
    (after (.readEvents 1 10) (eventsFull mill)).host.events.length = 38 := by decide +kernel

theorem test_attention_level : (after (.setAttentionLevel 1 7) mill).host.attention = 7 := by
  decide +kernel

/-! ### Configuration -/

/-- A Configure Mill at the edges of R5, which removes stand 3. -/
def smallMill : MillParams :=
  { n := 2, ql := 50000, d0 := 100000, d1 := 30000000, d2 := 0, d3 := 0, d4 := 0, d5 := 0, retire := 1,
    biteAllowance := 99999, breakTension0 := 0, entryAddr := 0, silenceMs := 2, stopConfirm := 10,
    respUs := 199, txnLimitUs := 200 }

theorem smallMill_checks : ∀ n : Nat, MillCheck mill smallMill n := by
  intro n
  unfold MillCheck
  split <;> decide +kernel

theorem witness_ConfigureMillChecks :
    Ready mill ∧ strip.track.mode ≠ .stopped ∧ Ready strip ∧ mill.track.mode = .stopped ∧
      (∀ i : Stand, mill.stands[i].configured = true → mill.actuators[i].state = .open_) ∧
      (¬ MillCheck mill { smallMill with n := 6 } 1 ∧
        ∀ m : Nat, m < 1 → MillCheck mill { smallMill with n := 6 } m) ∧
      (¬ MillCheck mill { smallMill with retire := 0 } 5 ∧
        ∀ m : Nat, m < 5 → MillCheck mill { smallMill with retire := 0 } m) ∧
      ∀ n : Nat, MillCheck mill smallMill n := by
  refine ⟨ready_mill, by decide, ready_strip, rfl, by decide +kernel, ⟨?_, ?_⟩, ⟨?_, ?_⟩,
    smallMill_checks⟩
  · exact fun h => absurd h.2 (by decide)
  · intro m hm
    obtain rfl : m = 0 := by omega
    trivial
  · exact fun h => absurd h.1 (by decide)
  · intro m hm
    unfold MillCheck
    split <;> first | omega | decide +kernel

theorem witness_ConfigureMillEffect :
    Ready mill ∧ RolesUnique mill ∧ mill.track.mode = .stopped ∧
      (∀ i : Stand, mill.stands[i].configured = true → mill.actuators[i].state = .open_) ∧
      (∀ n : Nat, MillCheck mill smallMill n) ∧ smallMill.entryAddr.toNat = (0 : Node).val ∧
      (mill.stands[(2 : Stand)].configured = true ∧ smallMill.n.toNat < (2 : Stand).val + 1) ∧
      mill.nodes[(0 : Node)].role = .entry ∧ mill.nodes[(6 : Node)].role ≠ .entry ∧
      mill.gauges[(0 : Gauge)].installed = true ∧ mill.trips.confirm ≠ .waiting ∧
      ∀ a : Node, mill.nodes[a].state = .present →
        (mill.now - mill.nodes[a].lastFrame).toNat ≤ smallMill.silenceMs.toNat :=
  ⟨ready_mill, rolesUnique_mill, rfl, by decide +kernel, smallMill_checks, rfl, by decide +kernel,
    rfl, by decide +kernel, rfl, by decide, by decide +kernel⟩

/-- Three ms after the frames of a mill whose stop waits for its confirmation: node 0 has just reported,
nodes 1, 2 and 4 are silent for the new limit of 2 ms and no longer, node 5 for longer; AFTER-3 stands
at address 6. -/
def waitingStop : State :=
  { mill with
    now := 3
    gauges := mill.gauges.set 3 (gaugeAt 6 100)
    nodes := #v[{ nodeAt .entry with lastFrame := 3 }, { nodeAt (.stand 0) with lastFrame := 1 },
      { nodeAt (.stand 1) with lastFrame := 1 }, nodeAt (.stand 2),
      { nodeAt (.gauge 0) with lastFrame := 1 }, nodeAt (.gauge 1), nodeAt (.gauge 3),
      nodeReset .none, nodeReset .none, nodeReset .none, nodeReset .none, nodeReset .none,
      nodeReset .none, nodeReset .none, nodeReset .none]
    trips := { mill.trips with
      confirm := .waiting, confirmT := some ⟨1, 1000⟩, driveEntry := .stopped
      drive := #v[.stopping, .stopped, .running, .unknown, .unknown] } }

theorem rolesUnique_waitingStop : RolesUnique waitingStop := by
  have : ∀ a b : Node, waitingStop.nodes[a].role = waitingStop.nodes[b].role →
      waitingStop.nodes[a].role ≠ .none → a = b := by decide +kernel
  exact this

theorem smallMill_checks_waitingStop : ∀ n : Nat, MillCheck waitingStop smallMill n := by
  intro n
  unfold MillCheck
  split <;> decide +kernel

/-- The same with the entry node moved to address 6, whose gauge the new N removes. -/
theorem movedEntry_checks : ∀ n : Nat, MillCheck waitingStop { smallMill with entryAddr := 6 } n := by
  intro n
  unfold MillCheck
  split <;> decide +kernel

theorem witness_ConfigureMillEffect_then :
    (Ready waitingStop ∧ RolesUnique waitingStop ∧ waitingStop.track.mode = .stopped ∧
      (∀ i : Stand, waitingStop.stands[i].configured = true → waitingStop.actuators[i].state = .open_) ∧
      (∀ n : Nat, MillCheck waitingStop smallMill n) ∧
      ∀ n : Nat, MillCheck waitingStop { smallMill with entryAddr := 6 } n) ∧
    (waitingStop.host.events.length ≤ 32 ∧ waitingStop.trips.confirm = .waiting ∧
      waitingStop.trips.confirmT = some ⟨1, 1000⟩) ∧
    (waitingStop.nodes[(5 : Node)].role = .gauge 1 ∧ waitingStop.nodes[(5 : Node)].state = .present ∧
      smallMill.silenceMs.toNat < (waitingStop.now - waitingStop.nodes[(5 : Node)].lastFrame).toNat ∧
      ¬ smallMill.silenceMs.toNat < (waitingStop.now - waitingStop.nodes[(4 : Node)].lastFrame).toNat ∧
      waitingStop.gauges[(1 : Gauge)].installed = true) ∧
    waitingStop.gauges[(3 : Gauge)].installed = true ∧ smallMill.n.toNat < (3 : Gauge).val ∧
      waitingStop.nodes[(6 : Node)].role = .gauge 3 :=
  ⟨⟨⟨rfl, rfl, settled_of_none _ rfl⟩, rolesUnique_waitingStop, rfl, by decide +kernel,
      smallMill_checks_waitingStop, movedEntry_checks⟩,
    by decide +kernel, by decide +kernel, by decide +kernel⟩

theorem test_configure_mill_silence_and_confirmation :
    let t := after (.configureMill 1 smallMill) waitingStop
    t.nodes[(5 : Node)].state = .lost ∧ t.nodes[(4 : Node)].state = .present ∧
      t.nodes[(6 : Node)] = nodeReset .none ∧ t.gauges[(1 : Gauge)].mode = .absent ∧
      t.trips.confirm = .confirmed ∧ t.host.events =
        [⟨.nodeLost, .node 5, none, 0, 3⟩, ⟨.stopConfirmed, .none, none, 2, 3⟩] := by decide +kernel

theorem test_configure_mill_moves_entry :
    let t := after (.configureMill 1 { smallMill with entryAddr := 6 }) waitingStop
    t.nodes[(0 : Node)] = nodeReset .none ∧ t.nodes[(6 : Node)] = nodeReset .entry ∧
      t.gauges[(3 : Gauge)] = gaugeReset ∧ t.trips.driveEntry = .unknown ∧
      t.trips.confirm = .waiting := by decide +kernel

theorem test_configure_mill_removes_stand :
    (after (.configureMill 1 smallMill) mill).stands[(2 : Stand)] = standReset ∧
      (after (.configureMill 1 smallMill) mill).nodes[(3 : Node)].role = .none ∧
      (after (.configureMill 1 smallMill) mill).mill.dist = #v[100000, 30000000, 0, 0, 0, 0] := by
  decide +kernel

/-- A Configure Stand for stand 3 at the edges of R10, at its present address. -/
def edgeStand : StandParams :=
  { stand := 3, addr := 3, gapMin := 0xFFFCF2C0, gapMax := 600000, ffLimit := 10000, monLimit := 20000,
    massFlow := 1, mode := 1, band := 5000, maxStep := 50000, settle := 2000, moveTimeout := 10,
    openTimeout := 10000, lead := 700000, biteForce := 65535, breakTension := 0 }

theorem edgeStand_checks : ∀ n : Nat, StandCheck mill edgeStand 2 n := by
  intro n
  unfold StandCheck
  split <;> decide +kernel

theorem witness_ConfigureStandChecks :
    Ready mill ∧ (5 < ({ edgeStand with stand := 6 }).stand.toNat) ∧
      edgeStand.stand.toNat = (2 : Stand).val + 1 ∧ State.reset.mill.configured = false ∧
      mill.mill.configured = true ∧ mill.mill.n < (3 : Stand).val + 1 ∧ (2 : Stand).val + 1 ≤ mill.mill.n ∧
      (strip.stands[(0 : Stand)].configured = true ∧ strip.actuators[(0 : Stand)].state ≠ .open_ ∧
        strip.actuators[(0 : Stand)].state ≠ .released) ∧
      mill.actuators[(2 : Stand)].state = .open_ ∧
      (¬ StandCheck mill { edgeStand with gapMax := 600001 } 2 3 ∧
        ∀ m : Nat, m < 3 → StandCheck mill { edgeStand with gapMax := 600001 } 2 m) ∧
      ∀ n : Nat, StandCheck mill edgeStand 2 n := by
  refine ⟨ready_mill, by decide, rfl, rfl, rfl, by decide, by decide, by decide +kernel, rfl, ⟨?_, ?_⟩,
    edgeStand_checks⟩
  · exact fun h => absurd h.2.2 (by decide)
  · intro m hm
    unfold StandCheck
    split <;> first | omega | trivial

/-- Stand 3 with an active product and terms beyond what `edgeStand` admits. -/
def termed : State :=
  waiting.onDemand 2 fun d => { d with ff := -10001, trim := 20001 }

theorem witness_ConfigureStandEffect :
    Ready termed ∧ RolesUnique termed ∧ edgeStand.stand.toNat = (2 : Stand).val + 1 ∧
      termed.mill.configured = true ∧ (2 : Stand).val + 1 ≤ termed.mill.n ∧
      termed.actuators[(2 : Stand)].state = .open_ ∧ (∀ n : Nat, StandCheck termed edgeStand 2 n) ∧
      termed.nodes[(3 : Node)].role = .stand 2 ∧ termed.store.active[(2 : Stand)] = some 0 ∧
      mill.store.active[(2 : Stand)] = none ∧ termed.trips.confirm ≠ .waiting ∧
      termed.host.events.length < 48 :=
  ⟨⟨rfl, rfl, settled_of_none _ rfl⟩, rolesUnique_mill, rfl, rfl, by decide, rfl, edgeStand_checks, rfl,
    rfl, rfl, by decide, by decide⟩

theorem test_configure_stand_clamps_terms :
    (after (.configureStand 1 edgeStand) termed).demands[(2 : Stand)].ff = -10000 ∧
      (after (.configureStand 1 edgeStand) termed).demands[(2 : Stand)].demand = some ⟨10000, 10000⟩ := by
  decide +kernel

/-- A Configure Gauge that installs AFTER-2 at the edges of R14. -/
def edgeGauge : GaugeParams :=
  { position := 2, action := 1, addr := 14, g := 699999, stdLength := 100000, weldGuard := 30000000 }

theorem edgeGauge_checks : ∀ n : Nat, GaugeCheck mill edgeGauge 2 n := by
  intro n
  unfold GaugeCheck
  split <;> decide +kernel

theorem witness_ConfigureGaugeRequest :
    Ready mill ∧ RolesUnique mill ∧ 5 < (6 : Byte).toNat ∧ edgeGauge.position.toNat = (2 : Gauge).val ∧
      State.reset.mill.configured = false ∧ mill.mill.configured = true ∧ mill.mill.n < (4 : Gauge).val ∧
      (2 : Gauge).val ≤ mill.mill.n ∧ strip.track.mode ≠ .stopped ∧ mill.track.mode = .stopped ∧
      ((0 : Byte) ≠ 1 ∧ (0 : Byte) ≠ 2) ∧ mill.gauges[(2 : Gauge)].installed = false ∧
      mill.gauges[(1 : Gauge)].installed = true ∧
      (¬ GaugeCheck mill { edgeGauge with g := 700000 } 2 6 ∧
        ∀ m : Nat, m < 6 → GaugeCheck mill { edgeGauge with g := 700000 } 2 m) ∧
      (∀ n : Nat, GaugeCheck mill edgeGauge 2 n) ∧ (14 : Node).val = edgeGauge.addr.toNat := by
  refine ⟨ready_mill, rolesUnique_mill, by decide, rfl, rfl, rfl, by decide, by decide, by decide, rfl,
    by decide, rfl, rfl, ⟨?_, ?_⟩, edgeGauge_checks, rfl⟩
  · exact fun h => absurd (h.1 (by decide) (by decide)).2 (by decide +kernel)
  · intro m hm
    unfold GaugeCheck
    split <;> first | omega | decide +kernel

theorem test_configure_gauge_gives_role :
    (after (.configureGauge 1 edgeGauge) mill).nodes[(14 : Node)].role = .gauge 2 := by decide +kernel

/-! ### Tracking -/

theorem witness_StartTrackingOpensRun :
    Ready State.reset ∧ State.reset.mill.configured = false ∧ Ready mill ∧ mill.mill.configured = true ∧
      strip.track.mode ≠ .stopped ∧ Ready strip ∧ mill.track.mode = .stopped ∧ 15 < (16 : Byte).toNat ∧
      (15 : Byte).toNat = (15 : Product).val ∧ mill.store.table[(15 : Product)].loaded = false ∧
      mill.store.table[(0 : Product)].loaded = true ∧ RunSound mill := by
  refine ⟨⟨rfl, rfl, settled_of_none _ rfl⟩, rfl, ready_mill, rfl, by decide, ready_strip, rfl,
    by decide, rfl, rfl, rfl, ⟨by decide +kernel, by decide +kernel, by decide, ?_⟩⟩
  intro j c h
  cases h

theorem test_start_tracking_threads :
    (after (.startTracking 1 0 77) mill).track.mode = .threading ∧
      (after (.startTracking 1 0 77) mill).demands[(2 : Stand)].demand = some ⟨0, 0⟩ := by decide +kernel

theorem witness_StopTrackingEndsRun :
    Ready strip ∧ (strip.stands[(0 : Stand)].configured = true ∧ strip.actuators[(0 : Stand)].state = .hold) ∧
      Ready mill ∧ mill.track.mode = .stopped ∧
      Ready { strip with actuators := mill.actuators, link := linkReset false } ∧
      ¬ ∃ i : Stand, mill.stands[i].configured = true ∧ (mill.actuators[i].state = .hold ∨
        mill.actuators[i].state = .travel ∨ mill.actuators[i].state = .settle) :=
  ⟨ready_strip, ⟨rfl, rfl⟩, ready_mill, rfl, ⟨rfl, rfl, settled_of_none _ rfl⟩, by decide +kernel⟩

theorem test_stop_tracking_ends_demands :
    (after (.stopTracking 1) { waiting with actuators := mill.actuators }).demands[(0 : Stand)].demand =
      none := by decide +kernel

theorem witness_ReportsReachTheirUnits :
    Running (hearing 1 strip) ∧ (hearing 1 strip).link.inFlight = none ∧ Receiving (hearing 1 strip) 1 ∧
      (hearing 1 strip).nodes[(1 : Node)].role = .stand 0 ∧ Receiving (hearing 0 strip) 0 ∧
      (hearing 0 strip).nodes[(0 : Node)].role = .entry ∧ Receiving (hearing 5 mill) 5 ∧
      (hearing 5 mill).nodes[(5 : Node)].role = .gauge 1 :=
  ⟨running_hearing _ _ rfl, rfl, receiving_hearing _ _, rfl, receiving_hearing _ _, rfl,
    receiving_hearing _ _, rfl⟩

theorem test_stand_report_advances_its_zone :
    (after (.standReport ⟨7, 4294967295, 0, 65535, 17000, 0b100, 3⟩) (hearing 1 strip)).track.odo[(1 : Zone)] =
        4295767295 ∧
      (after (.standReport ⟨7, 0, 0, 65535, 17000, 0b100, 3⟩) (hearing 1 strip)).nodes[(1 : Node)].remote =
        false := by decide +kernel

theorem test_stand_report_completes_step :
    (after (.standReport ⟨7, 0, 0, 65535, 20000, 0b001, 1⟩) (hearing 2 strip)).actuators[(1 : Stand)].state =
      .settle := by decide +kernel

theorem test_entry_report_bites_and_welds :
    (after (.entryReport ⟨50000, 65535, 1, 1⟩) (hearing 0 strip)).track.nextSerial = 4 ∧
      (after (.entryReport ⟨50000, 65535, 1, 1⟩) (hearing 0 strip)).store.coils = [] := by decide +kernel

theorem test_gauge_sample_goes_to_newest_past :
    ((after (.gaugeSample ⟨1, 500⟩) (hearing 5 strip)).track.queue.map
      fun c => c.entries.map (·.sum)) = [[6000, 6000], [6500]] := by decide +kernel

theorem witness_SampleGoesToItsCell :
    Running (hearing 5 strip) ∧ (hearing 5 strip).link.inFlight = none ∧ Receiving (hearing 5 strip) 5 ∧
      (hearing 5 strip).nodes[(5 : Node)].role = .gauge 1 ∧
      (hearing 5 strip).nodes[(5 : Node)].state = .present ∧
      (hearing 5 strip).gauges[(1 : Gauge)].mode = .measuring ∧
      (hearing 5 strip).gauges[(1 : Gauge)].phase = .none ∧
      (hearing 5 strip).gauges[(1 : Gauge)].holdOff = false ∧
      (hearing 5 strip).gauges[(1 : Gauge)].inFlight = false ∧ RunSound (hearing 5 strip) ∧
      (hearing 5 strip).track.mode ≠ .stopped ∧ (1 : Gauge) = (0 : Stand).succ ∧
      (hearing 5 strip).track.queue = [cell1] ++ cell2 :: [] ∧ cell2.entries[0]? = some (entryAt 90000) ∧
      (hearing 5 strip).gauges[(1 : Gauge)].g ≤ (hearing 5 strip).track.odo[(1 : Gauge)] - 90000 ∧
      (entryAt 90000).count < 65535 ∧ (hearing 4 strip).nodes[(4 : Node)].role = .gauge 0 ∧
      (hearing 4 strip).track.forming = some forming3 ∧ forming3.pendingWeld = none ∧
      forming3.count < 65535 ∧ 65535 ≤ ({ forming3 with count := 65535 }).count :=
  ⟨running_hearing _ _ rfl, rfl, receiving_hearing _ _, rfl, rfl, rfl, rfl, rfl, rfl,
    ⟨runSound_strip.stopped, runSound_strip.running, runSound_strip.cells, runSound_strip.serials⟩,
    by decide, rfl, rfl, rfl, by decide +kernel, by decide, rfl, rfl, rfl, by decide, by decide⟩

theorem witness_WeldTakesNextCoil :
    strip.track.mode ≠ .stopped ∧ strip.track.forming = some forming3 ∧ forming3.pendingWeld = none ∧
      0 < strip.track.odo[(0 : Fin 6)] - forming3.stamp ∧ strip.track.queue.length < 256 ∧
      256 ≤ (List.replicate 256 cell1).length ∧
      1000000 - ({ forming3 with stamp := 1000000 }).stamp = 0 ∧ mill.track.mode = .stopped ∧
      ({ forming3 with pendingWeld := some ⟨0, 0, 0, 0, 0⟩ }).pendingWeld = some ⟨0, 0, 0, 0, 0⟩ :=
  ⟨by decide, rfl, rfl, by decide +kernel, by decide, by decide +kernel, rfl, rfl, rfl⟩

/-- The strip with other odometers. -/
def odoAt (z : Zone) (n : Nat) (s : State) : State :=
  s.onTrack fun t => { t with odo := t.odo.set z.val n }

/-- The strip with another forming cell, and with another tracking queue. -/
def formingOf (f : FormingCell) (s : State) : State := s.onTrack fun t => { t with forming := some f }
def queueOf (q : List Cell) (s : State) : State := s.onTrack fun t => { t with queue := q }

/-- A cell through stand 3 that bit it at reading 0. -/
def through3 : Cell := { cell1 with headEnd := false, entries := [entryAt 0, entryAt 0, entryAt 0] }

theorem witness_AdvanceClosesAndRetires :
    (mill.track.mode = .stopped ∧ strip.track.mode ≠ .stopped ∧ 1 ≤ strip.mill.n) ∧
      ((0 : Zone).val = 0 ∧ (1 : Zone) = (0 : Stand).succ ∧ (1 : Stand).val = (1 : Zone).val ∧
        (1 : Zone).val < strip.mill.n ∧ (3 : Zone) = (2 : Stand).succ ∧ (3 : Zone).val = strip.mill.n) ∧
      (strip.track.forming = some forming3 ∧ 1000000 - 900001 < strip.mill.ql ∧
        strip.mill.ql ≤ 1000000 - 900000 ∧ strip.track.queue.length < 256 ∧
        256 ≤ (List.replicate 256 cell1).length ∧ strip.track.poolFull = false ∧
        forming3.pendingWeld = none) ∧
      (2 ≤ (3 : Zone).val ∧ through3.entries[(3 : Zone).val - 1]? = some (entryAt 0) ∧
        (odoAt 3 500000 strip).mill.retire ≤ (odoAt 3 500000 strip).track.odo[(3 : Zone)] - 0 ∧
        ¬ (odoAt 3 499999 strip).mill.retire ≤ (odoAt 3 499999 strip).track.odo[(3 : Zone)] - 0) ∧
      RunSound (odoAt 3 500000 strip) :=
  ⟨by decide +kernel, by decide +kernel, by decide +kernel, by decide +kernel,
    ⟨runSound_strip.stopped, runSound_strip.running, runSound_strip.cells, runSound_strip.serials⟩⟩

theorem test_advance_closes_forming_cell :
    ((advance 0 0 (formingOf { forming3 with stamp := 900000 } strip)).track.queue.map (·.l0)) =
        [100000, 100000, 100000] ∧
      (advance 0 0 (formingOf { forming3 with stamp := 900001 } strip)).track.queue.length = 2 := by
  decide +kernel

theorem test_advance_retires_and_splits :
    ((advance 3 500000 (queueOf [through3, through3] strip)).track.queue.length = 1) ∧
      (advance 3 499999 (queueOf [through3, through3] strip)).track.queue.length = 2 ∧
      ((advance 3 500000 (queueOf [through3, through3] (formingOf
        { forming3 with pendingWeld := some ⟨960000, 5, 0, 0, 0⟩ } strip))).track.queue.map (·.l0)) =
          [100000, 10000] := by
  decide +kernel

/-- The strip THREADING, its head end some length into the zone before stand 3. -/
def threadingAt (n : Nat) : State := odoAt 2 n (strip.onTrack fun t => { t with mode := .threading })

theorem runSound_threadingAt (n : Nat) : RunSound (threadingAt n) where
  stopped := nofun
  running := fun _ => ⟨rfl, rfl⟩
  cells := by change 2 ≤ 256; decide
  serials := runSound_strip.serials

/-- The strip with mass flow used at stand 2. -/
def massFlowStrip : State := strip.onStand 1 fun r => { r with massFlow := true }

theorem witness_BiteIsHandedOn :
    RunSound strip ∧ strip.track.queue = [cell1] ++ cell2 :: [] ∧ cell2.entries.length = (1 : Stand).val ∧
      strip.host.events.length ≤ 43 ∧ cell1.entries[1]? = some (entryAt 0) ∧
      massFlowOf cell1 (300000 - 0) = some ⟨700, false⟩ ∧ massFlowOf cell1 0 = none ∧
      (massFlowStrip.gauges[(2 : Gauge)].installed = false ∧
        massFlowStrip.stands[(1 : Stand)].massFlow = true ∧
        massFlowStrip.stands[(1 : Stand)].configured = true ∧
        massFlowStrip.demands[(1 : Stand)].freeze = none ∧ cell1.product = cell2.product ∧
        cell2.weld = false) ∧
      strip.stands[(1 : Stand)].massFlow = false ∧
      (strip.store.active[(3 : Stand)] ≠ some cell2.product ∧
        strip.store.active[(1 : Stand)] = some cell2.product) ∧
      (RunSound (threadingAt 690000) ∧ (threadingAt 690000).track.mode = .threading ∧
        (threadingAt 690000).track.queue = [] ++ cell1 :: [cell2] ∧ cell1.headEnd = true ∧
        cell1.entries.length = (2 : Stand).val ∧ (2 : Stand).val + 1 = strip.mill.n) ∧
      (stampOf cell2 1 = some 90000 ∧
        ¬ (odoAt 1 690000 strip).track.odo[(1 : Zone)] - 90000 < strip.mill.dist[(1 : Zone)] ∧
        (odoAt 1 689999 strip).track.odo[(1 : Zone)] - 90000 < strip.mill.dist[(1 : Zone)]) ∧
      (stampOf cell1 2 = some 0 ∧ strip.stands[(2 : Stand)].biteForce ≤ 0 ∧ strip.track.cobble = none ∧
        strip.mill.dist[(2 : Zone)] ≤ 690000 - 0 + strip.mill.biteAllowance ∧
        ¬ strip.mill.dist[(2 : Zone)] ≤ 689999 - 0 + strip.mill.biteAllowance ∧
        strip.mill.dist[(2 : Zone)] + strip.mill.biteAllowance < 710001 - 0 ∧
        ¬ strip.mill.dist[(2 : Zone)] + strip.mill.biteAllowance < 710000 - 0) ∧
      ∀ c ∈ ([{ cell2 with headEnd := false }] : List Cell), c.headEnd = false :=
  ⟨runSound_strip, rfl, rfl, by decide, rfl, by decide +kernel, by decide +kernel, by decide +kernel,
    rfl, by decide +kernel, ⟨runSound_threadingAt _, rfl, rfl, rfl, rfl, rfl⟩, by decide +kernel,
    by decide +kernel, by decide⟩

theorem test_bite_adds_entry_and_mass_flow :
    ((biteStep 1 strip).track.queue.map fun c => c.entries.map (·.stamp)) = [[0, 0], [90000, 300000]] ∧
      ((bite 1 cell2 strip).track.queue.map fun c => c.entries.map (·.hf)) =
        [[none, some ⟨700, false⟩], [none, none]] := by decide +kernel

theorem test_head_end_confirmed_threads :
    (confirmHead 2 0 (threadingAt 690000)).track.mode = .running ∧
      (confirmHead 2 0 (threadingAt 689999)).track.mode = .threading ∧
      (cobbleCheck 2 (threadingAt 710001)).trips.records[(15 : Source)].detail = 1 := by decide +kernel

/-- The newer cell as a weld cell. -/
def weld2 : Cell := { cell2 with weld := true }

theorem witness_PassageAndApproach :
    RunSound strip ∧ strip.gauges[(1 : Gauge)].installed = true ∧ cell2.entries[0]? = some (entryAt 90000) ∧
      (90999 - 90000 < strip.gauges[(1 : Gauge)].g ∧
        strip.gauges[(1 : Gauge)].g ≤ strip.track.odo[(1 : Zone)] - 90000 ∧
        ¬ 91000 - 90000 < strip.gauges[(1 : Gauge)].g) ∧
      (cell1.entries[0]? = some (entryAt 0) ∧ ¬ 90999 - 0 < strip.gauges[(1 : Gauge)].g) ∧
      (strip.track.queue = [] ++ cell1 :: cell2 :: [] ∧ 1 ≤ (entryAt 0).count) ∧
      (strip.stands[(0 : Stand)].configured = true ∧ strip.demands[(0 : Stand)].freeze = none ∧
        strip.store.active[(0 : Stand)] = some cell1.product) ∧
      RunSound (queueOf [cell1, weld2] strip) ∧
      (weld2.weld = true ∧ weld2.entries.length = (1 : Stand).val ∧ weld2.approach < (1 : Stand).val + 1 ∧
        stampOf weld2 1 = some 90000 ∧
        strip.mill.dist[(1 : Zone)] - (690000 - 90000) ≤ strip.stands[(1 : Stand)].lead ∧
        ¬ strip.mill.dist[(1 : Zone)] - (689999 - 90000) ≤ strip.stands[(1 : Stand)].lead) ∧
      (queueOf [cell1, weld2] strip).track.queue = [cell1] ++ weld2 :: [] :=
  ⟨runSound_strip, rfl, rfl, by decide +kernel, by decide +kernel, ⟨rfl, by decide⟩, ⟨rfl, rfl, rfl⟩,
    { stopped := nofun
      running := fun _ => ⟨rfl, rfl⟩
      cells := by change 2 ≤ 256; decide
      serials := by
        intro j c h
        match j with
        | 0 => cases h; rfl
        | 1 => cases h; rfl
        | _ + 2 => cases h },
    by decide +kernel, rfl⟩

theorem test_passage_finalises_older_neighbour :
    ((passageStep 0 90999 strip).track.queue.map fun c => c.entries.map (·.hm)) =
        [[some 2000, none], [none]] ∧
      passageStep 0 91000 strip = strip := by decide +kernel

theorem test_weld_approach_freezes :
    (approachStep 1 (queueOf [cell1, weld2] (odoAt 1 690000 strip))).demands[(1 : Stand)].freeze = some 2 ∧
      (approachStep 1 (queueOf [cell1, weld2] (odoAt 1 689999 strip))).demands[(1 : Stand)].freeze =
        none := by decide +kernel

theorem witness_GaugeStandardisation :
    mill.gauges[(2 : Gauge)].installed = false ∧ mill.gauges[(1 : Gauge)].installed = true ∧
      (mill.gauges[(1 : Gauge)].length < 2 ^ 48 ∧ mill.gauges[(1 : Gauge)].stdLength * 1000000 ≤ 1000000 ∧
        ¬ mill.gauges[(1 : Gauge)].stdLength * 1000000 ≤ 999999 ∧
        2 * (mill.gauges[(1 : Gauge)].stdLength * 1000000) ≤ 2000000 ∧
        mill.gauges[(1 : Gauge)].phase = .none ∧ mill.gauges[(1 : Gauge)].overdue = false ∧
        mill.gauges[(1 : Gauge)].source ≠ .host) ∧
      ((inPhase .waiting .measuring mill).gauges[(1 : Gauge)].holdOff = false ∧ ¬ WeldNear mill 1) ∧
      ((inPhase .placed .fault mill).gauges[(1 : Gauge)].inFlight = false ∧ GaugeMode.fault ≠ .measuring) ∧
      WeldNear (queueOf [{ weld2 with entries := [] }] strip) 1 ∧
      (strip.track.mode ≠ .stopped ∧ mill.track.mode = .stopped ∧
        (inPhase .running .standardizing mill).gauges[(1 : Gauge)].mode = .standardizing ∧
        mill.host.events.length < 48 ∧ ((0 : Byte) ≠ 1 ∧ (0 : Byte) ≠ 2)) := by
  refine ⟨rfl, rfl, by decide +kernel, ⟨rfl, ?_⟩, ⟨rfl, by decide⟩, ?_, by decide, rfl, rfl, by decide,
    by decide⟩
  · rintro (⟨h, -⟩ | ⟨i, -, ⟨c, h, -⟩ | ⟨c, h, -⟩ | ⟨-, f, h, -⟩⟩)
    · cases h
    · cases h
    · cases h
    · cases h
  · exact Or.inr ⟨0, rfl, Or.inr (Or.inl ⟨_, List.mem_singleton.mpr rfl, rfl, rfl⟩)⟩

theorem test_length_wants_standardisation :
    (growLength 1 1000000 mill).gauges[(1 : Gauge)].phase = .waiting ∧
      (growLength 1 999999 mill).gauges[(1 : Gauge)].phase = .none ∧
      ((growLength 1 2000000 mill).host.events.map (·.value)) = [2] := by decide +kernel

theorem test_standardisation_completes :
    ((takeSample 1 ⟨1, 500⟩ (inPhase .running .standardizing mill)).host.events.map (·.code)) =
        [.gaugeStandardized] ∧
      (takeSample 1 ⟨2, 0⟩ (inPhase .accepted .measuring mill)).gauges[(1 : Gauge)].phase = .running ∧
      (takeSample 1 ⟨3, 0⟩ (inPhase .accepted .measuring mill)).gauges[(1 : Gauge)].phase = .waiting := by
  decide +kernel

/-! ### Thickness, demand and standardisation -/

theorem witness_RoundedArithmetic :
    0 < 1 ∧ (0 : Int) ≤ 2048 ∧ cell1.measured = some ⟨2100, 210000000⟩ ∧
      ({ cell1 with measured := none }).measured = none ∧ roundHalfUp 210000000 3205 ≤ 65535 ∧
      65535 < roundHalfUp 210000000 3204 := by decide

theorem witness_DemandIsClampedSum :
    strip.stands[(0 : Stand)].configured = true ∧ strip.store.active[(0 : Stand)] = some 0 ∧
      strip.stands[(3 : Stand)].configured = false ∧ mill.store.active[(0 : Stand)] = none ∧
      (1 : Stand) ≠ 0 ∧ strip.demands[(0 : Stand)].demand.map (·.value) ≠ some 0 ∧
      mill.demands[(0 : Stand)].demand = none ∧
      waiting.actuators[(2 : Stand)].state ≠ .travel ∧ waiting.actuators[(2 : Stand)].state ≠ .hold := by
  decide +kernel

/-- The strip with a demand of stand 4, which is not configured: the demand ends at its composition. -/
theorem witness_DemandIsClampedSum_ends :
    (strip.onDemand 3 fun d => { d with demand := some ⟨1, 1⟩ }).demands[(3 : Stand)].demand ≠ none ∧
      (strip.onDemand 3 fun d => { d with demand := some ⟨1, 1⟩ }).stands[(3 : Stand)].configured =
        false := by decide +kernel

/-- Stand 1 in HOLD with a trim of 50 QUEUED, at the edge of its band; and in mode DIRECT. -/
def trimQueued : State :=
  waiting.onActuator 0 fun a => { a with work := some ⟨.trim 50, 8, .queued⟩ }
def directMode : State := { waiting with stands := upd waiting.stands 0 fun r => { r with mode := .direct } }

theorem witness_DemandIsClampedSum_travel :
    waiting.actuators[(1 : Stand)].state = .travel ∧
      waiting.actuators[(1 : Stand)].work = some ⟨.travel 20000, 7, .queued⟩ ∧
      wantedStep 17000 20000 5000 = 20000 ∧ wantedStep 17000 22000 5000 = 22000 ∧
      wantedStep 17000 22001 5000 = 22000 ∧ wantedStep 17000 11999 5000 = 12000 ∧
      strip.actuators[(1 : Stand)].work = some ⟨.travel 20000, 7, .inFlight⟩ ∧
      (travelling .moving).state = .travel ∧
      (travelling .moving).work = some ⟨.travel 20000, 7, .moving⟩ := by decide +kernel

theorem witness_DemandIsClampedSum_hold :
    waiting.actuators[(0 : Stand)].state = .hold ∧ waiting.actuators[(0 : Stand)].work = none ∧
      waiting.actuators[(0 : Stand)].p = 20000 ∧ waiting.actuators[(0 : Stand)].c = 20000 ∧
      waiting.stands[(0 : Stand)].mode = .band ∧ waiting.stands[(0 : Stand)].band = 50 ∧
      trimQueued.actuators[(0 : Stand)].work.map (·.cmd) = some (.trim (20050 - 20000)) ∧
      ¬ ((20051 : Int) - 20000).natAbs ≤ 50 ∧ directMode.stands[(0 : Stand)].mode ≠ .band ∧
      trimming.actuators[(0 : Stand)].work = some ⟨.trim 30, 8, .inFlight⟩ := by decide +kernel

theorem test_new_demand_in_travel :
    (newDemand 1 (some 20000) waiting).actuators[(1 : Stand)].work =
        some ⟨.travel 20000, 7, .queued⟩ ∧
      (newDemand 1 (some 22001) waiting).actuators[(1 : Stand)].work =
        some ⟨.travel 22000, 8, .queued⟩ ∧
      (newDemand 1 (some 22001) strip).actuators[(1 : Stand)] =
        { travelling .inFlight with t := some 22001 } := by decide +kernel

theorem test_new_demand_in_hold :
    (newDemand 0 (some 20000) trimQueued).actuators[(0 : Stand)].work = none ∧
      (newDemand 0 (some 20050) trimQueued).actuators[(0 : Stand)].work =
        some ⟨.trim 50, 8, .queued⟩ ∧
      (newDemand 0 (some 19950) trimQueued).actuators[(0 : Stand)].work =
        some ⟨.trim (-50), 1, .queued⟩ ∧
      (newDemand 0 (some 20051) trimQueued).actuators[(0 : Stand)].work =
        some ⟨.travel 20051, 1, .queued⟩ ∧
      (newDemand 0 (some 20001) directMode).actuators[(0 : Stand)].state = .travel ∧
      (newDemand 0 (some 30000) trimming).actuators[(0 : Stand)].work =
        some ⟨.trim 30, 8, .inFlight⟩ := by decide +kernel

theorem test_demand_clamped_and_limited :
    (composeDemand 0 (waiting.onDemand 0 fun d => { d with offset := -1 })).demands[(0 : Stand)] =
      { demandReset with offset := -1, demand := some ⟨0, -1⟩, limited := true } := by decide +kernel

theorem witness_FeedforwardAndMonitor :
    strip.stands[(3 : Stand)].configured = false ∧ strip.stands[(0 : Stand)].configured = true ∧
      cell2.measured = some ⟨2100, 210000000⟩ ∧ strip.gauges[(1 : Gauge)].installed = true ∧
      cell2.entries[0]? = some (entryAt 90000) ∧ 1 ≤ (entryAt 90000).count ∧
      strip.gauges[(2 : Gauge)].installed = false ∧ strip.demands[(0 : Stand)].freeze = none ∧
      strip.store.active[(0 : Stand)] = some cell1.product ∧
      strip.store.active[(3 : Stand)] ≠ some cell1.product ∧
      (massFlowStrip.gauges[(2 : Gauge)].installed = false ∧
        massFlowStrip.stands[(1 : Stand)].massFlow = true ∧ (⟨65535, true⟩ : MassFlow).saturated = true) ∧
      strip.host.events.length ≤ 46 ∧
      (strip.onDemand 3 fun d => { d with freeze := some 2 }).demands[(3 : Stand)].freeze = some 2 := by
  decide +kernel

theorem witness_StandardizeOrder :
    Ready mill ∧ 5 < (6 : Byte).toNat ∧ (1 : Byte).toNat = (1 : Gauge).val ∧ (5 : Byte).toNat = (5 : Gauge).val ∧
      mill.gauges[(5 : Gauge)].installed = false ∧ mill.gauges[(1 : Gauge)].installed = true ∧
      mill.gauges[(1 : Gauge)].mode ≠ .absent ∧ Ready (inPhase .none .absent mill) ∧
      (inPhase .none .absent mill).gauges[(1 : Gauge)].mode = .absent :=
  ⟨ready_mill, by decide, rfl, rfl, rfl, rfl, by decide +kernel, ⟨rfl, rfl, settled_of_none _ rfl⟩, rfl⟩

theorem test_standardize_gauge_placed :
    (after (.standardizeGauge 1 1) mill).gauges[(1 : Gauge)].phase = .placed ∧
      (after (.standardizeGauge 1 1) (inPhase .accepted .measuring mill)).gauges[(1 : Gauge)].phase =
        .accepted := by decide +kernel

/-! ### Product Store and Gap Demand Unit -/

/-- A Load Product at the edges of R72. -/
def edgeProduct : ProductParams :=
  { index := 15, code := 5, carryTrim := 1, hRef := 65535, s1 := ⟨1, 0xFFFCF2C0, 8191, 0⟩,
    s2 := ⟨2, 600000, 0, 8191⟩, s3 := ⟨3, 0, 0, 0⟩, s4 := ⟨4, 0, 0, 0⟩, s5 := ⟨5, 0, 0, 0⟩ }

theorem witness_ProductStoreRequests :
    Ready strip ∧ 15 < (16 : Byte).toNat ∧ edgeProduct.index.toNat = (15 : Product).val ∧
      (strip.store.table[(0 : Product)].loaded = true ∧ strip.refCount 0 ≠ 0) ∧
      strip.store.table[(15 : Product)].loaded = false ∧
      (mill.store.table[(0 : Product)].loaded = true ∧ mill.refCount 0 = 0) ∧ Ready mill ∧
      (∀ g ∈ [edgeProduct.s1, edgeProduct.s2, edgeProduct.s3, edgeProduct.s4, edgeProduct.s5],
        (-200000 ≤ g.sSet.toInt ∧ g.sSet.toInt ≤ 600000) ∧ g.kFf.toNat ≤ 8191 ∧ g.kMon.toNat ≤ 8191) ∧
      edgeProduct.carryTrim.toNat ≤ 1 ∧ 1 < (2 : Byte).toNat ∧
      ¬ (600001 : BitVec 32).toInt ≤ 600000 ∧ ¬ (8192 : BitVec 16).toNat ≤ 8191 :=
  ⟨ready_strip, by decide, rfl, by decide +kernel, rfl, by decide +kernel, ready_mill,
    by decide +kernel, by decide, by decide, by decide, by decide⟩

theorem test_load_product_entry :
    (after (.loadProduct 1 edgeProduct) mill).store.table[(15 : Product)].sSet =
      #v[-200000, 600000, 0, 0, 0] := by decide +kernel

theorem test_erase_product : (after (.eraseProduct 1 0) mill).store.table[(0 : Product)] = productReset := by
  decide +kernel

theorem witness_ProductStoreRequests_coils :
    Ready strip ∧ 15 < (16 : Byte).toNat ∧ (0 : Byte).toNat = (0 : Product).val ∧
      (15 : Byte).toNat = (15 : Product).val ∧ strip.store.table[(15 : Product)].loaded = false ∧
      strip.store.table[(0 : Product)].loaded = true ∧ strip.store.coils.length < 8 ∧
      8 ≤ (List.replicate 8 (⟨1, 0⟩ : Coil)).length :=
  ⟨ready_strip, by decide, rfl, rfl, rfl, rfl, by decide, by decide⟩

theorem test_append_coil_tail : (after (.appendCoil 1 78 0) strip).store.coils = [⟨77, 0⟩, ⟨78, 0⟩] := by
  decide +kernel

theorem test_clear_coil_list :
    (after (.clearCoilList 1) strip).host.reply = some ⟨1, 0x44, 0, [1]⟩ := by decide +kernel

theorem witness_OffsetAndTrimRequests :
    Ready termed ∧ (0 : Byte).toNat = 0 ∧ 5 < (6 : Byte).toNat ∧ (3 : Byte).toNat = (2 : Stand).val + 1 ∧
      State.reset.mill.configured = false ∧ termed.mill.configured = true ∧
      termed.mill.n < (3 : Stand).val + 1 ∧ (2 : Stand).val + 1 ≤ termed.mill.n ∧
      termed.stands[(2 : Stand)].configured = true ∧
      ({ mill with stands := Vector.replicate 5 standReset }).stands[(0 : Stand)].configured = false ∧
      (10001 : BitVec 16).toInt > 10000 ∧ (10000 : BitVec 16).toInt ≤ 10000 ∧
      -10000 ≤ (0xD8F0 : BitVec 16).toInt ∧ (0 : BitVec 16).toInt = termed.demands[(2 : Stand)].offset ∧
      (0 : Byte).toNat ≤ 5 ∧
      ((0 : Byte) = 0 ∧ [(0 : Stand), 1, 2] = allStands.filter fun i =>
        decide (i.val + 1 ≤ termed.mill.n) && termed.stands[i].configured) :=
  ⟨⟨rfl, rfl, settled_of_none _ rfl⟩, rfl, by decide, rfl, rfl, rfl, by decide, by decide, rfl, rfl,
    by decide, by decide, by decide, rfl, by decide, by decide +kernel⟩

theorem test_set_offset_recomposes :
    (after (.setOffset 1 1 0xD8F0) mill).demands[(0 : Stand)].offset = -10000 ∧
      (after (.setOffset 1 1 0xD8F0) waiting).demands[(0 : Stand)].demand = some ⟨0, -10000⟩ := by
  decide +kernel

theorem test_reset_trim_all :
    (after (.resetTrim 1 0) termed).demands[(2 : Stand)].trim = 0 ∧
      ((after (.resetTrim 1 0) termed).host.reply.map fun r => r.payload.take 3) = some [1, 3, 1] := by
  decide +kernel

/-! ### Positioning Sequencer -/

/-- Stand 3 OPEN with a demand and a reported position beyond its limits. -/
def engageable : State :=
  { waiting with
    demands := waiting.demands.set 2 { demandReset with demand := some ⟨5001, 5001⟩ }
    actuators := waiting.actuators.set 2 { actuatorReset with reported := some (-7) } }

theorem witness_EngageStandRequest :
    Ready engageable ∧ RolesUnique engageable ∧ (0 : Byte).toNat = 0 ∧ 5 < (6 : Byte).toNat ∧
      (3 : Byte).toNat = (2 : Stand).val + 1 ∧ State.reset.mill.configured = false ∧
      engageable.mill.configured = true ∧ (2 : Stand).val + 1 ≤ engageable.mill.n ∧
      engageable.stands[(2 : Stand)].configured = true ∧
      engageable.nodes[(3 : Node)].role = .stand 2 ∧ engageable.nodes[(3 : Node)].state = .present ∧
      (engageable.actuators[(2 : Stand)].state = .open_ ∧ engageable.track.mode ≠ .stopped ∧
        engageable.nodes[(3 : Node)].remote = true) ∧
      (∀ k : Source, ¬ (engageable.trips.records[k].latched = true ∧
        engageable.trips.records[k].affected.getLsbD 2 = true)) ∧
      (tripped.trips.records[(13 : Source)].latched = true ∧
        tripped.trips.records[(13 : Source)].affected.getLsbD 2 = true) ∧
      (mill.track.mode = .stopped ∧ Ready mill ∧ Ready tripped) ∧
      engageable.demands[(2 : Stand)].demand = some ⟨5001, 5001⟩ ∧
      engageable.actuators[(2 : Stand)].reported = some (-7) ∧
      engageable.actuators[(2 : Stand)].work = none :=
  ⟨⟨rfl, rfl, settled_of_none _ rfl⟩, rolesUnique_mill, rfl, by decide, rfl, rfl, rfl, by decide, rfl,
    rfl, rfl, ⟨rfl, by decide, rfl⟩, by decide +kernel, ⟨rfl, by decide +kernel⟩,
    ⟨rfl, ready_mill, ⟨rfl, rfl, settled_of_none _ rfl⟩⟩, rfl, rfl, rfl⟩

theorem test_engage_stand_first_step :
    (after (.engageStand 1 3) engageable).actuators[(2 : Stand)].work =
      some ⟨.travel 5000, 1, .queued⟩ := by decide +kernel

theorem witness_OpenStandRequest :
    Ready waiting ∧ 5 < (6 : Byte).toNat ∧ waiting.link.inFlight = none ∧
      (5 : Byte).toNat = (4 : Stand).val + 1 ∧ waiting.actuators[(1 : Stand)].state = .travel ∧
      waiting.actuators[(2 : Stand)].state = .open_ :=
  ⟨ready_waiting, by decide, rfl, rfl, rfl, rfl⟩

theorem test_open_stand_all :
    (after (.openStand 1 0) waiting).host.reply = some ⟨1, 0x59, 0, [4, 4, 0, 0, 0]⟩ ∧
      (after (.openStand 1 0) strip).link.counters.abandoned = 1 := by decide +kernel

/-- Stand 1 in a state with a target, 100 ms after its timer of that load started. -/
def timed (a : ActState) (target : Int) (late : Time) : State :=
  { waiting with
    now := late
    actuators := waiting.actuators.set 0
      { holding with
        state := a, t := some target, settleT := if a = .settle then some ⟨0, 100⟩ else none
        moveT := if a = .travel then some ⟨0, 100⟩ else none
        openT := if a = .opening then some ⟨0, 100⟩ else none } }

theorem running_timed (a : ActState) (t : Int) (l : Time) : Running (timed a t l) :=
  ⟨rfl, settled_of_none _ rfl⟩

theorem witness_StandTimersExpire :
    Running (timed .settle 20000 100) ∧ (timed .settle 20000 100).actuators[(0 : Stand)].settleT = some ⟨0, 100⟩ ∧
      100 ≤ ((timed .settle 20000 100).now - (0 : Time)).toNat ∧
      ¬ 100 ≤ ((timed .settle 20000 99).now - (0 : Time)).toNat ∧
      (timed .settle 20000 100).actuators[(0 : Stand)].work = none ∧
      (timed .settle 20050 100).stands[(0 : Stand)].mode = .band ∧
      ((20050 : Int) - 20000).natAbs ≤ (timed .settle 20050 100).stands[(0 : Stand)].band ∧
      (timed .settle 20051 100).stands[(0 : Stand)].band < ((20051 : Int) - 20000).natAbs ∧
      (timed .travel 0 100).actuators[(0 : Stand)].moveT = some ⟨0, 100⟩ ∧
      (timed .opening 0 100).actuators[(0 : Stand)].openT = some ⟨0, 100⟩ ∧
      (timed .opening 0 100).link.inFlight = none ∧ (timed .opening 0 100).trips.escalation = none ∧
      (timed .opening 0 100).host.events.length ≤ 46 ∧ mill.actuators[(0 : Stand)].state ≠ .settle :=
  ⟨running_timed _ _ _, rfl, by decide +kernel, by decide +kernel, rfl, rfl, by decide +kernel,
    by decide +kernel, rfl, rfl, rfl, rfl, by decide, by decide +kernel⟩

theorem test_settle_expiry_trims_in_band :
    (after (.settleTimerExpiry 0) (timed .settle 20050 100)).actuators[(0 : Stand)].work =
        some ⟨.trim 50, 1, .queued⟩ ∧
      (after (.settleTimerExpiry 0) (timed .settle 20051 100)).actuators[(0 : Stand)].state = .travel := by
  decide +kernel

theorem test_move_expiry_faults :
    (after (.moveTimerExpiry 0) (timed .travel 0 100)).trips.records[(24 : Source)].rank = 1 ∧
      (after (.moveTimerExpiry 0) (timed .travel 0 99)).trips.records[(24 : Source)].latched = false := by
  decide +kernel

theorem test_open_expiry_escalates :
    ((after (.openTimerExpiry 0) (timed .opening 0 100)).host.events.map (·.code)) =
      [.escalated, .standOpenFailed] := by decide +kernel

/-! ### Trip Controller -/

theorem witness_TripRequestRaises :
    Ready tripped ∧ tripped.trips.records[(29 : Source)].latched = true ∧ Ready strip ∧
      strip.trips.records[(29 : Source)].latched = false ∧
      (strip.trips.records[(29 : Source)].affected.getLsbD 0 = true ∧
        strip.actuators[(0 : Stand)].state = .hold) ∧
      strip.trips.records[(29 : Source)].cls = .fastStop ∧ strip.trips.confirm = .idle ∧
      strip.trips.stopSent = .none ∧ strip.link.inFlight = some ⟨.gap 1 (.travel 20000) 7, .normal, some 2, true⟩ ∧
      normalItem (.gap 1 (.travel 20000) 7) = true :=
  ⟨⟨rfl, rfl, settled_of_none _ rfl⟩, rfl, ready_strip, rfl, ⟨by decide +kernel, rfl⟩, rfl, rfl, rfl, rfl,
    rfl⟩

theorem test_trip_request_opens_and_stops :
    (after (.tripRequest 1 0xABCD) strip).actuators[(0 : Stand)].state = .opening ∧
      (after (.tripRequest 1 0xABCD) strip).trips.stopWanted = .fast ∧
      (after (.tripRequest 1 0xABCD) strip).host.reply = some ⟨1, 0x61, 0, [1, 1]⟩ := by decide +kernel

theorem witness_ClearTripsRequest :
    Ready pressed7 ∧ RolesUnique pressed7 ∧ [(7 : Source)].Pairwise (· < ·) ∧
      (pressed7.trips.records[(7 : Source)].latched = true ∧ SourceStanding pressed7 7) ∧ Ready tripped ∧
      (∀ k : Source, tripped.trips.records[k].latched = true → ¬ SourceStanding tripped k) ∧
      tripped.host.events.length < 48 ∧
      Ready { tripped with link := { linkReset false with
        state := .part, inFlight := some ⟨.stop .fast true, .urgent, none, false⟩ } } := by
  refine ⟨⟨rfl, rfl, settled_of_none _ rfl⟩, rolesUnique_mill, by simp, ⟨rfl, Or.inl ⟨7, rfl, rfl⟩⟩,
    ⟨rfl, rfl, settled_of_none _ rfl⟩, ?_, by decide, ⟨rfl, rfl, fun f hf hn => by cases hf; cases hn⟩⟩
  unfold SourceStanding
  decide +kernel

theorem test_clear_trips :
    (after (.clearTrips 1) tripped).trips.stopWanted = .none ∧
      (after (.clearTrips 1) pressed7).host.reply = some ⟨1, 0x62, 0x0A, [1, 7]⟩ := by decide +kernel

theorem witness_TripTableRequests :
    Ready tripped ∧ 31 < (32 : Byte).toNat ∧ (30 : Byte).toNat = (30 : Source).val ∧ 30 ≤ (30 : Source).val ∧
      (29 : Source).val < 30 ∧ tripped.trips.records[(29 : Source)].latched = true ∧
      tripped.trips.records[(0 : Source)].latched = false ∧ 1 < (2 : Byte).toNat ∧ (1 : Byte).toNat ≤ 1 ∧
      31 < (32 : Byte).toNat ∧ (31 : Byte).toNat ≤ 31 ∧ (0 : Byte).toNat = 0 ∧ 32 < (33 : Byte).toNat ∧
      (1 ≤ (2 : Byte).toNat ∧ (32 : Byte).toNat ≤ 32) ∧ RanksSound tripped :=
  ⟨⟨rfl, rfl, settled_of_none _ rfl⟩, by decide, rfl, by decide, by decide, rfl, rfl, by decide,
    by decide, by decide, by decide, rfl, by decide, by decide, ranksSound_tripped⟩

theorem test_configure_trip :
    (after (.configureTrip 1 0 0 1) tripped).trips.records[(0 : Source)] = clearRecord .fastStop 1 := by
  decide +kernel

theorem test_read_trips_marks :
    (after (.readTrips 1 0 2) tripped).trips.records[(13 : Source)].reported = true ∧
      (after (.readTrips 1 0 2) tripped).trips.records[(29 : Source)].reported = false := by
  decide +kernel

/-- The stop-confirm timer of 1,000 ms waiting at a time. -/
def confirming (now : Time) : State :=
  { mill with now := now, trips := { mill.trips with
      stopWanted := .fast, stopSent := .fast, confirm := .waiting, confirmT := some ⟨0, 1000⟩ } }

theorem witness_EstopAndConfirmExpiry :
    Running mill ∧ mill.trips.pressed[(7 : Fin 8)] = false ∧ Running pressed7 ∧
      pressed7.trips.pressed[(7 : Fin 8)] = true ∧
      ({ pressed7 with trips := { pressed7.trips with pressed := Vector.replicate 8 false } }).trips.records[
        sourceIndex (.estop 7)].latched = true ∧
      mill.trips.records[sourceIndex (.estop 7)].latched = false ∧ Running (confirming 1000) ∧
      (confirming 1000).trips.confirmT = some ⟨0, 1000⟩ ∧
      1000 ≤ ((confirming 1000).now - (0 : Time)).toNat ∧
      ((confirming 999).now - (0 : Time)).toNat < 1000 ∧ mill.trips.confirm ≠ .waiting ∧
      (confirming 1000).link.inFlight = none ∧ (confirming 1000).trips.escalation = none ∧
      (confirming 1000).host.events.length < 48 ∧ mill.trips.confirm = .idle ∧
      mill.trips.records[sourceIndex (.estop 7)].cls = .emergency ∧
      (after (.configureTrip 1 7 0 31) mill).trips.records[sourceIndex (.estop 7)].cls = .fastStop ∧
      (Running { strip with now := 1000, trips := (confirming 1000).trips } ∧
        strip.link.inFlight = some ⟨.gap 1 (.travel 20000) 7, .normal, some 2, true⟩ ∧
        normalItem (.gap 1 (.travel 20000) 7) = true ∧ (confirming 1000).trips.stopSent ≠ .emergency) :=
  ⟨running_mill, rfl, ⟨rfl, settled_of_none _ rfl⟩, rfl, rfl, rfl, ⟨rfl, settled_of_none _ rfl⟩, rfl,
    by decide +kernel, by decide +kernel, by decide, rfl, rfl, by decide, rfl, rfl, by decide +kernel,
    ⟨⟨rfl, fun f hf _ => by cases hf; rfl⟩, rfl, rfl, by decide⟩⟩

theorem test_estop_press : (after (.estopLineChange 7 true) mill).trips.records[(7 : Source)].detail = 7 := by
  decide +kernel

theorem test_stop_confirm_expiry :
    (after .stopConfirmExpiry (confirming 1000)).trips.stopWanted = .emergency ∧
      (after .stopConfirmExpiry (confirming 999)).trips.stopWanted = .fast := by decide +kernel

/-- A stop waiting to be confirmed while every node that counts reports itself stopping. -/
def confirmable : State :=
  (confirming 1000).onTrips fun t =>
    { t with driveEntry := .stopped, drive := #v[.stopping, .stopped, .stopping, .unknown, .unknown] }

theorem witness_ReportIndicationsAct :
    ((1 : Fin 5).val = (0 : Stand).val + 1 ∧ (1 : Fin 5).val < mill.mill.n ∧
      mill.mill.n ≤ (2 : Stand).val + 1) ∧
    (RolesUnique confirmable ∧ confirmable.trips.confirm = .waiting ∧
      confirmable.trips.confirmT = some ⟨0, 1000⟩ ∧ confirmHolds confirmable = true ∧
      mill.trips.confirm ≠ .waiting) ∧
    (strip.host.events.length < 48 ∧ strip.actuators[(0 : Stand)].state = .hold ∧
      (0b100 : Byte).getLsbD 2 = true ∧
      (∀ k : Source, strip.trips.records[k].latched = true →
        strip.trips.records[k].affected.getLsbD 0 = false) ∧
      (openingOn.actuators[(0 : Stand)].state = .opening ∧ (0b010 : Byte).getLsbD 1 = true ∧
        openingOn.actuators[(0 : Stand)].work = some ⟨.open_, 9, .inFlight⟩)) ∧
    (strip.actuators[(1 : Stand)].state = .travel ∧ (0b001 : Byte).getLsbD 0 = true ∧
      strip.actuators[(1 : Stand)].work = some ⟨.travel 20000, 7, .inFlight⟩ ∧
      strip.actuators[(1 : Stand)].t = some 20000 ∧ 1 ≤ strip.stands[(1 : Stand)].settle ∧
      (strip.onStand 1 fun r => { r with settle := 0 }).stands[(1 : Stand)].settle = 0) ∧
    (trimming.actuators[(0 : Stand)].state = .hold ∧
      trimming.actuators[(0 : Stand)].work = some ⟨.trim 30, 8, .inFlight⟩ ∧
      trimming.actuators[(0 : Stand)].t = some (trimming.actuators[(0 : Stand)].c + 30) ∧
      trimming.stands[(0 : Stand)].mode = .band ∧
      ((20050 : Int) - 20000).natAbs ≤ trimming.stands[(0 : Stand)].band ∧
      ¬ ((20051 : Int) - 20000).natAbs ≤ trimming.stands[(0 : Stand)].band) :=
  ⟨by decide +kernel, ⟨rolesUnique_mill, rfl, rfl, by decide +kernel, by decide⟩,
    ⟨by decide, rfl, by decide, by decide +kernel, rfl, by decide, rfl⟩,
    ⟨rfl, by decide, rfl, rfl, by decide +kernel, by decide +kernel⟩, by decide +kernel⟩

theorem witness_ReportIndicationsAct_tension :
    ((1 : Fin 5).val < strip.mill.n ∧ strip.track.mode ≠ .stopped ∧ strip.track.queue = cell1 :: [cell2] ∧
      (1 : Fin 5).val < cell1.entries.length) ∧ strip.trips.low[(1 : Fin 5)] = 0 ∧
      39 < strip.stands[(0 : Stand)].breakTension ∧ strip.stands[(0 : Stand)].breakTension ≤ 40 ∧
      ¬ (2 : Fin 5).val < cell1.entries.length ∧
      1 ≤ (strip.onTrips fun t => { t with low := t.low.set 1 1 }).trips.low[(1 : Fin 5)] :=
  ⟨⟨by decide, by decide, rfl, by decide⟩, rfl, by decide +kernel, by decide +kernel, by decide,
    by decide +kernel⟩

theorem test_second_low_reading_breaks :
    (tensionReading 1 39 (strip.onTrips fun t => { t with low := t.low.set 1 1 })).trips.records[
      (9 : Source)].latched = true := by decide +kernel

/-! ### Stand Link -/

/-- The link FREE with a GAP_OPEN of stand 1 queued. -/
def opening1 : State :=
  { waiting with
    actuators := waiting.actuators.set 0
      { holding with state := .opening, work := some ⟨.open_, 9, .queued⟩ } }

/-- A state that contends in a class. -/
def contend (cls : LinkClass) (s : State) : State := s.onLink fun l => { l with contending := some cls }

/-- Gauge AFTER-1 wants a standardisation and no stand has work. -/
def placing : State := contend .normal (inPhase .placed .measuring mill)

/-- A FAST_STOP latched and its stop to be sent. -/
def stopping : State := waiting.onTrips fun t => { t with stopWanted := .fast }

theorem linkFree_of (s : State) (h : s.power = .running) (f : s.link.state = .free)
    (n : s.link.inFlight = none) : LinkFree s := ⟨h, f, n⟩

theorem witness_ArbitrationChoosesWork :
    LinkFree opening1 ∧ UrgentWaits opening1 ∧ UrgentWaits stopping ∧ LinkFree stopping ∧
      LinkFree waiting ∧ ¬ UrgentWaits waiting ∧ NormalWaits waiting ∧ waiting.link.yield = false ∧
      LinkFree mill ∧ ¬ UrgentWaits mill ∧ ¬ NormalWaits mill ∧ mill.link.contending = none ∧
      (contend .urgent opening1).link.contending = some .urgent ∧ RolesUnique (contend .urgent opening1) ∧
      (opening1.actuators[(0 : Stand)].work = some ⟨.open_, 9, .queued⟩ ∧
        opening1.nodes[(1 : Node)].role = .stand 0) ∧
      (waiting.actuators[(1 : Stand)].work = some ⟨.travel 20000, 7, .queued⟩ ∧
        waiting.nodes[(2 : Node)].role = .stand 1) ∧
      LinkFree placing ∧ placing.gauges[(1 : Gauge)].phase = .placed ∧
      placing.nodes[(5 : Node)].role = .gauge 1 ∧ (6 : Fin 11).val = 5 + (1 : Gauge).val := by
  refine ⟨⟨rfl, rfl, rfl⟩, Or.inr ⟨0, _, rfl, rfl, by decide⟩, Or.inl (by decide), ⟨rfl, rfl, rfl⟩,
    ⟨rfl, rfl, rfl⟩, ?_, Or.inl ⟨1, _, rfl, by decide, by decide⟩, rfl, ⟨rfl, rfl, rfl⟩, ?_, ?_, rfl, rfl,
    rolesUnique_mill, ⟨rfl, rfl⟩, ⟨rfl, rfl⟩, ⟨rfl, rfl, rfl⟩, rfl, rfl, rfl⟩
  · rw [← urgentFilled_iff _ rfl]; decide +kernel
  · rw [← urgentFilled_iff _ rfl]; decide +kernel
  · rw [← normalFilled_iff]; decide +kernel

theorem test_opportunity_contends_urgent :
    (after .arbitrationOpportunity opening1).link.contending = some .urgent ∧
      (after .arbitrationOpportunity waiting).link.contending = some .normal := by decide +kernel

theorem test_win_sends_open_then_ring :
    ((after (.arbitrationWon true) (contend .urgent opening1)).link.inFlight.map (·.item)) =
        some (.gapOpen 0 9) ∧
      (after (.arbitrationWon true) (contend .normal waiting)).link.ring = 1 ∧
      (after (.arbitrationWon true) (contend .normal waiting)).link.yield = true := by decide +kernel

theorem witness_NodeHoldsAndReleases :
    LinkFree mill ∧ mill.link.contending = none ∧ LinkFree (contend .normal mill) ∧
      LinkFree (contend .urgent mill) ∧ Running strip ∧ strip.link.state ≠ .free ∧
      Running (hearing 1 mill) ∧ (hearing 1 mill).link.state = .node ∧
      (hearing 1 mill).link.inFlight = none ∧
      strip.link.state = .part ∧ Running (mill.onLink fun l => { l with state := .resetting }) :=
  ⟨⟨rfl, rfl, rfl⟩, rfl, ⟨rfl, rfl, rfl⟩, ⟨rfl, rfl, rfl⟩, running_strip, by decide,
    running_hearing _ _ rfl, rfl, rfl, rfl, ⟨rfl, settled_of_none _ rfl⟩⟩

/-- HOLD that a node asserts during a LINK-RESET pulse is found at the pulse's end, unless it is released
before. -/
theorem test_hold_asserted_in_a_pulse :
    let pulse := after (.resetStandLink 1) mill
    let heldIn := after (.nodeWinsArbitration false 2) pulse
    pulse.link.state = .resetting ∧ heldIn.link.state = .resetting ∧
      (after .linkResetPulseEnd heldIn).link.state = .node ∧
      (after .linkResetPulseEnd heldIn).link.sender = none ∧
      (after .linkResetPulseEnd (after .holdReleased heldIn)).link.state = .free ∧
      (after .linkResetPulseEnd pulse).link.state = .free := by decide +kernel

theorem test_node_outranks_normal :
    (after (.nodeWinsArbitration true 0) (contend .normal mill)).link.state = .node ∧
      (after (.nodeWinsArbitration false 14) (contend .normal mill)).link.state = .free := by decide +kernel

theorem test_hold_released : (after .holdReleased (hearing 1 mill)).link.state = .free := by decide +kernel

/-- A STOP of a level on the link that counts or not. -/
def stopOn (lv : StopLevel) (counts : Bool) : State :=
  { mill with
    trips := { mill.trips with stopWanted := .emergency }
    link := { linkReset false with
      state := .part, inFlight := some ⟨.stop lv counts, .urgent, none, false⟩ } }

theorem running_stopOn (lv : StopLevel) (b : Bool) : Running (stopOn lv b) := by
  refine ⟨rfl, fun f hf hn => ?_⟩
  cases hf
  cases hn

/-- A STANDARDIZE of gauge AFTER-1 on the link, its node with a failure count. -/
def standardizing (sent : Bool) (failures : Nat) : State :=
  { mill with
    gauges := mill.gauges.set 1 { gaugeAt 5 1000 with phase := .placed, source := .host, inFlight := true }
    nodes := mill.nodes.set 5 { nodeAt (.gauge 1) with failures := failures }
    link := { onLink (.standardize 1) 5 with
      inFlight := some ⟨.standardize 1, .normal, some 5, sent⟩
      respTimer := if sent then some 50 else none } }

theorem running_standardizing (b : Bool) (n : Nat) : Running (standardizing b n) := by
  refine ⟨rfl, fun f hf _ => ?_⟩
  cases hf
  rfl

theorem witness_TransactionsRunToTheirEnd :
    Running (standardizing false 1) ∧
      (standardizing false 1).link.inFlight = some ⟨.standardize 1, .normal, some 5, false⟩ ∧
      (standardizing false 1).link.state = .part ∧ (∀ lv b, Item.standardize 1 ≠ .stop lv b) ∧
      Running (stopOn .fast true) ∧
      (stopOn .fast true).link.inFlight = some ⟨.stop .fast true, .urgent, none, false⟩ ∧
      Running (stopOn .fast false) ∧ Running (standardizing true 1) ∧
      (standardizing true 1).link.respTimer = some 50 ∧ 49 < 50 ∧ 50 ≤ 50 ∧
      (standardizing true 1).gauges[(1 : Gauge)].phase = .placed ∧
      (standardizing true 1).gauges[(1 : Gauge)].inFlight = true ∧
      (standardizing true 1).nodes[(5 : Node)].failures < 2 ∧ Running (standardizing true 2) ∧
      (standardizing true 2).nodes[(5 : Node)].state = .present ∧
      2 ≤ (standardizing true 2).nodes[(5 : Node)].failures ∧
      (standardizing true 2).host.events.length < 48 :=
  ⟨running_standardizing _ _, rfl, rfl, by simp, running_stopOn _ _, rfl, running_stopOn _ _,
    running_standardizing _ _, rfl, by decide, by decide, rfl, rfl, by decide +kernel,
    running_standardizing _ _, rfl, by decide +kernel, by decide⟩

theorem test_frame_sent_starts_timer :
    (after .txnFrameSent (standardizing false 0)).link.respTimer = some 50 := by decide +kernel

theorem test_broadcast_sent :
    (after .stopBroadcastSent (stopOn .fast true)).trips.stopSent = .fast ∧
      (after .stopBroadcastSent (stopOn .fast false)).trips.stopSent = .none := by decide +kernel

theorem test_third_failure_loses_gauge :
    (after (.responseTimeout 50) (standardizing true 2)).nodes[(5 : Node)].state = .lost ∧
      (after (.responseTimeout 50) (standardizing true 2)).gauges[(1 : Gauge)].mode = .absent ∧
      (after (.responseTimeout 49) (standardizing true 2)).link.state = .part := by decide +kernel

theorem running_trimming : Running trimming := by
  refine ⟨rfl, fun f hf _ => ?_⟩
  cases hf
  rfl

theorem running_openingOn : Running openingOn := by
  refine ⟨rfl, fun f hf hn => ?_⟩
  cases hf
  cases hn

theorem witness_ResponsesReachTheirOwners :
    (Running strip ∧ strip.link.inFlight = some ⟨.gap 1 (.travel 20000) 7, .normal, some 2, true⟩ ∧
      strip.actuators[(1 : Stand)].work = some ⟨.travel 20000, 7, .inFlight⟩ ∧
      strip.actuators[(1 : Stand)].state = .travel ∧ strip.actuators[(1 : Stand)].t = some 20000 ∧
      wantedStep 17000 20000 strip.stands[(1 : Stand)].maxStep = 20000) ∧
    (Running trimming ∧ trimming.link.inFlight = some ⟨.gap 0 (.trim 30) 8, .normal, some 1, true⟩ ∧
      trimming.actuators[(0 : Stand)].work = some ⟨.trim 30, 8, .inFlight⟩ ∧
      trimming.actuators[(0 : Stand)].t = some 20030 ∧
      20030 = trimming.actuators[(0 : Stand)].c + 30 ∧ trimming.host.events.length < 48) ∧
    (Running openingOn ∧ openingOn.link.inFlight = some ⟨.gapOpen 0 9, .normal, some 1, true⟩ ∧
      openingOn.actuators[(0 : Stand)].work = some ⟨.open_, 9, .inFlight⟩ ∧
      openingOn.trips.escalation = none ∧ openingOn.host.events.length ≤ 46) ∧
    (Running (standardizing true 2) ∧ (standardizing true 2).nodes[(5 : Node)].state = .present ∧
      2 ≤ (standardizing true 2).nodes[(5 : Node)].failures) ∧
    (Running (standardizing true 1) ∧
      (standardizing true 1).gauges[(1 : Gauge)].phase = .placed ∧
      ((0x5B : Byte) ≠ 0xA5 ∧ (0x5B : Byte) ≠ 0x5A ∧ (0x5B : Byte) ≠ 0x3C)) ∧
    ∀ w : Work, ({ strip with actuators := waiting.actuators }).actuators[(0 : Stand)].work = some w →
      w.number ≠ 7 := by
  refine ⟨⟨running_strip, rfl, rfl, rfl, rfl, by decide +kernel⟩,
    ⟨running_trimming, rfl, rfl, rfl, by decide +kernel, by decide⟩, ⟨running_openingOn, rfl, rfl, rfl, by decide⟩,
    ⟨running_standardizing _ _, rfl, by decide +kernel⟩, ⟨running_standardizing _ _, rfl, by decide⟩, ?_⟩
  intro w h
  cases h

theorem test_gap_open_refused :
    (after (.responseByteReceived 0x5A true) openingOn).actuators[(0 : Stand)].state = .openFailed ∧
      (after (.responseByteReceived 0xE1 true) openingOn).actuators[(0 : Stand)].work =
        some ⟨.open_, 9, .queued⟩ := by decide +kernel

theorem test_step_accepted_moves :
    (after (.responseByteReceived 0xA5 true) strip).actuators[(1 : Stand)].work =
        some ⟨.travel 20000, 7, .moving⟩ ∧
      (after (.responseByteReceived 0xA5 true) strip).actuators[(1 : Stand)].p = 20000 := by
  decide +kernel

theorem test_bad_parity_is_no_response :
    (after (.responseByteReceived 0xA5 false) strip).link.counters.failed = 1 ∧
      (after (.responseByteReceived 0xA5 false) strip).actuators[(1 : Stand)].work =
        some ⟨.travel 20000, 7, .queued⟩ := by decide +kernel

/-- A gauge sample's frame of two payload bytes, one byte short, with a matching check byte. -/
def shortFrame : NodeFrame :=
  { target := 0x0F, targetParity := true, kind := 0x63, length := 2, command := 0, payload := [1, 0],
    check := crc8 [0x0F, 0x63, 2, 0, 1, 0], parity := true }

/-- The strip, the link FREE, with every node at a failure count. -/
def failing (n : Nat) : State := { waiting with nodes := waiting.nodes.map fun e => { e with failures := n } }

theorem witness_NodeFrameChecks :
    Running (hearing 5 mill) ∧ (hearing 5 mill).link.inFlight = none ∧
      (hearing 5 mill).link.state = .node ∧ (hearing 5 mill).link.sender = some 5 ∧
      mill.link.state ≠ .node ∧ Running mill ∧
      (shortFrame.targetParity = true ∧ shortFrame.target = 0x0F) ∧
      (shortFrame.parity = true ∧ crc8 ([shortFrame.target, shortFrame.kind, shortFrame.length,
        shortFrame.command] ++ shortFrame.payload) = shortFrame.check) ∧
      (shortFrame.payload.length ≠ 3 ∧ (hearing 5 mill).nodes[(5 : Node)].role = .gauge 1) ∧
      (5 : Node).val = (5 : BitVec 4).toNat ∧ (hearing 5 mill).nodes[(5 : Node)].failures < 2 ∧
      ((hearing 6 mill).nodes[(6 : Node)].state = .present ∧
        (hearing 6 mill).nodes[(6 : Node)].role = .none) ∧
      (hearing 5 mill).host.events.length < 48 ∧
      (∀ a : Node, a.val ≤ 6 → (hearing a (failing 2)).link.sender = some (BitVec.ofNat 4 a.val) ∧
        (hearing a (failing 2)).nodes[a].state = .present ∧
        2 ≤ (hearing a (failing 2)).nodes[a].failures) :=
  ⟨running_hearing _ _ rfl, rfl, rfl, rfl, by decide, running_mill, ⟨rfl, rfl⟩, ⟨rfl, by decide +kernel⟩,
    ⟨by decide, rfl⟩, rfl, by decide +kernel, ⟨rfl, rfl⟩, by decide, by decide +kernel⟩

theorem test_third_bad_frame_loses_stand :
    (after (.nodeFrameRefused shortFrame) (hearing 2 (failing 2))).nodes[(2 : Node)].state = .lost ∧
      (after (.nodeFrameRefused shortFrame) (hearing 2 (failing 2))).trips.records[(20 : Source)].detail =
        2 := by decide +kernel

theorem test_short_frame_rejected :
    (after (.nodeFrameRefused shortFrame) (hearing 5 mill)).link.answer = some .reject ∧
      (after (.nodeFrameRefused { shortFrame with check := 0 }) (hearing 5 mill)).link.answer =
        some .checkError := by decide +kernel

/-- The link held by a node, its last reset at time 1. -/
def heldLink (now : Time) : State :=
  { mill with now := now, link := { linkReset true with lastReset := some 1 } }

/-- A pulse under way with HOLD released or asserted. -/
def pulsing (hold : Bool) : State :=
  mill.onLink fun l => { l with state := .resetting, holdOther := hold }

theorem witness_StuckLinkAndPulse :
    (Running (heldLink 1001) ∧ (heldLink 1001).link.state = .node ∧ 500 ≤ (heldLink 1001).mill.txnLimitUs ∧
      (heldLink 1001).mill.txnLimitUs < 501 ∧ (heldLink 1001).link.inFlight = none ∧
      ¬ ((heldLink 1001).now - (1 : Time)).toNat < 1000 ∧ (heldLink 1001).link.stuck = false ∧
      (heldLink 1001).host.events.length < 48) ∧
    (((heldLink 1000).now - (1 : Time)).toNat < 1000 ∧ (heldLink 1000).link.lastReset = some 1 ∧
      (heldLink 1000).trips.records[(30 : Source)].latched = false) ∧
    (Running (pulsing true) ∧ (pulsing true).link.state = .resetting ∧ (pulsing true).link.holdOther = true ∧
      Running (pulsing false) ∧ (pulsing false).link.holdOther = false) ∧
    (Running mill ∧ mill.link.state ≠ .resetting ∧ mill.host.inputQueue = [] ∧ mill.link.inFlight = none) ∧
    Running strip ∧ strip.link.state ≠ .resetting ∧ strip.host.events.length < 48 ∧
      strip.host.inputQueue = [] ∧
      strip.link.inFlight = some ⟨.gap 1 (.travel 20000) 7, .normal, some 2, true⟩ :=
  ⟨⟨⟨rfl, settled_of_none _ rfl⟩, rfl, by decide +kernel, by decide +kernel, rfl, by decide +kernel, rfl,
      by decide⟩,
    ⟨by decide +kernel, rfl, rfl⟩,
    ⟨⟨rfl, settled_of_none _ rfl⟩, rfl, rfl, ⟨rfl, settled_of_none _ rfl⟩, rfl⟩,
    ⟨running_mill, by decide, rfl, rfl⟩, running_strip, by decide, by decide, rfl, rfl⟩

theorem test_stuck_link :
    (after (.stuckLinkDetected 501) (heldLink 1000)).trips.records[(30 : Source)].latched = true ∧
      (after (.stuckLinkDetected 501) (heldLink 1001)).trips.records[(30 : Source)].latched = false ∧
      (after (.stuckLinkDetected 500) (heldLink 1000)).link.state = .node := by decide +kernel

theorem test_pulse_end :
    (after .linkResetPulseEnd (pulsing true)).link.state = .node ∧
      (after .linkResetPulseEnd (pulsing false)).link.state = .free := by decide +kernel

theorem test_reset_stand_link :
    (after (.resetStandLink 1) strip).link.state = .resetting ∧
      (after (.resetStandLink 1) strip).link.counters.abandoned = 1 ∧
      (after (.resetStandLink 1) (contend .normal waiting)).link.contending = none := by decide +kernel

theorem witness_SilenceLosesNodes :
    Running { strip with now := 101 } ∧ strip.nodes[(2 : Node)].state = .present ∧
      strip.mill.silenceMs < ((101 : Time) - strip.nodes[(2 : Node)].lastFrame).toNat ∧
      ((100 : Time) - strip.nodes[(2 : Node)].lastFrame).toNat ≤ strip.mill.silenceMs ∧
      strip.host.events.length < 48 ∧ strip.nodes[(6 : Node)].role = .none ∧
      mill.track.mode = .stopped ∧ strip.track.mode ≠ .stopped ∧
      (strip.nodes[(5 : Node)].role = .gauge 1 ∧ strip.gauges[(1 : Gauge)].phase = .none ∧
        strip.gauges[(1 : Gauge)].inFlight = false) ∧
      strip.nodes[(0 : Node)].role = .entry ∧ strip.nodes[(2 : Node)].role = .stand 1 ∧
      strip.nodes[(7 : Node)].state ≠ .present :=
  ⟨⟨rfl, settled_strip⟩, rfl, by decide +kernel, by decide +kernel, by decide, rfl, rfl, by decide,
    ⟨rfl, rfl, rfl⟩, rfl, rfl, by decide +kernel⟩

theorem test_silence_trips_stand :
    (after (.nodeSilence 2) { strip with now := 101 }).trips.records[(20 : Source)].detail = 2 ∧
      (after (.nodeSilence 2) { strip with now := 100 }).nodes[(2 : Node)].state = .present := by
  decide +kernel

theorem test_time_base_wraps : (after .timeBaseTick { mill with now := 0xFFFFFFFF }).now = 0 := by
  decide +kernel

/-! ### Reads -/

theorem ranksSound_strip : RanksSound strip := by
  constructor <;> decide +kernel

theorem witness_ReadoutFields :
    (Bounded strip ∧ RunSound strip ∧ RanksSound strip) ∧
      (strip.stands[(1 : Stand)].addr = some 2 ∧ strip.stands[(4 : Stand)].addr = none ∧
        strip.actuators[(1 : Stand)].work = some ⟨.travel 20000, 7, .inFlight⟩ ∧
        strip.actuators[(0 : Stand)].work = none ∧ strip.store.active[(4 : Stand)] = none) ∧
      (strip.track.queue = cell1 :: [cell2] ∧ strip.track.queue = [cell1] ++ [cell2] ∧
        mill.track.queue = [] ∧ strip.track.forming = some forming3 ∧ mill.track.forming = none ∧
        cell2.approach ≤ 5 ∧ cell2.entries[0]? = some (entryAt 90000) ∧ cell2.entries[1]? = none) ∧
      (strip.link.inFlight = some ⟨.gap 1 (.travel 20000) 7, .normal, some 2, true⟩ ∧
        mill.link.inFlight = none ∧ strip.link.lastReset = none ∧ strip.store.coils[0]? = some ⟨77, 0⟩) ∧
      ([(13 : Source)].length ≤ 12 ∧ strip.trips.confirmT = none ∧ strip.trips.escalation = none) := by
  refine ⟨⟨?_, runSound_strip, ranksSound_strip⟩, by decide +kernel, by decide +kernel, by decide +kernel,
    by decide +kernel⟩
  constructor <;> decide +kernel

theorem test_stand_readout_fields :
    Shows (standReadout strip 1) 25 4 20000 ∧ Shows (standReadout strip 1) 36 1 0 ∧
      Shows (standReadout strip 4) 36 1 0xFF ∧ ShowsInt (standReadout strip 1) 6 4 0 := by
  unfold Shows ShowsInt
  decide +kernel

theorem test_cell_record_fields :
    Shows (cellsReply strip 2 8 1) 15 1 1 ∧ Shows (cellsReply strip 2 8 1) 29 6 90000 ∧
      Shows (cellsReply strip 0 0 0) 53 6 950000 := by
  unfold Shows
  decide +kernel

/-- An ESCALATED with every field set, as Read Events sends it, and the other subject kinds. -/
theorem test_event_entry_bytes :
    eventBytes ⟨.escalated, .stand 4, some 7, -1, 258⟩ =
      [21, 6, 1, 5, 0, 0, 0, 0, 0, 7, 255, 255, 255, 255, 0, 0, 1, 2] ∧
      (eventBytes ⟨.gaugeStandardized, .gauge 5, none, 1, 0⟩).take 4 = [1, 1, 3, 5] ∧
      (eventBytes ⟨.weldEntered, .zone 0, none, 1, 0⟩).take 4 = [3, 2, 2, 0] ∧
      (eventBytes ⟨.nodeLost, .node 14, none, 1, 0⟩).take 4 = [19, 5, 4, 14] ∧
      (eventBytes ⟨.linkReset, .none, none, 1, 0⟩).take 4 = [16, 4, 0, 0] := by decide +kernel

theorem test_demand_block :
    demandBlock (strip.onDemand 0 fun d =>
      { d with ff := -2, trim := 258, offset := -32768, limited := true, freeze := some 1 }) 0 =
      [0xFF, 0xFE, 0x01, 0x02, 0x80, 0x00, 0x00, 0x00, 0x4E, 0x20, 0x07] ∧
      demandBlock mill 0 = [0, 0, 0, 0, 0, 0, 0, 0, 0, 0, 0] := by decide +kernel

theorem test_read_replies :
    ((after (.readNodes 1 1) strip).host.reply.map fun r => r.payload.take 1) = some [1] ∧
      ((after (.readStand 1 2) strip).host.reply.map (·.result)) = some 0 ∧
      ((after (.readProduct 1 0 15) strip).host.reply.map (·.result)) = some 0 := by decide +kernel

theorem test_read_cells_and_gauges :
    ((after (.readCells 1 1 8 3) strip).host.reply.map (·.result)) = some 0 ∧
      ((after (.readGauges 1) strip).host.reply.map fun r => r.payload.length) = some 150 := by
  decide +kernel
end Sys2Proof.Tests
end

section
/-! SUPPORT. The configuration requests (chapter 1): a request taken at once, what a list of numbered checks
answers, what a role given or dropped does to the node table, and the three requests' tests in order. -/

namespace Sys2Proof.Machine

/-! ### A request taken at once (R186 to R189) -/

/-- Putting a request in hand leaves a settled state settled. -/
theorem settled_taken (tag : Byte) (r : Request) (s : State) : Settled (taken tag r s) ↔ Settled s :=
  settled_congr _ _ rfl rfl rfl fun _ => rfl

/-- A frame whose request leads to a settled state: the next state is that one, answered. -/
theorem frameOf_answered (tag : Byte) (r : Request) (res : ResultCode) (payload : List Byte)
    (s t : State) (h : Ready s) (ht : Settled t)
    (hs : serve r (taken tag r s) = (taken tag r t, ⟨res, payload⟩)) :
    frameOf tag r s = .next (answered tag r res payload t) := by
  rw [frameOf, whileRunning_running _ _ h.runs, submit_ready _ _ _ h.noneInHand, hs,
    abandon_of_settled _ ((settled_taken tag r t).mpr ht)]
  exact congrArg _ (abandon_of_settled _ ((settled_answered tag r res payload t).mpr ht))

/-- A frame whose request is answered without a change to the state (R189). -/
theorem frameOf_unchanged (tag : Byte) (r : Request) (res : ResultCode) (payload : List Byte)
    (s : State) (h : Ready s) (hs : serve r (taken tag r s) = (taken tag r s, ⟨res, payload⟩)) :
    frameOf tag r s = .next (answered tag r res payload s) :=
  frameOf_answered tag r res payload s s h h.settled hs

/-- A frame whose request is served at all: its reply is on the line, and the stand records are those its
owner left, whatever transaction its urgent work then ends (R173). -/
theorem frameOf_served (tag : Byte) (r : Request) (s u : State) (res : Result) (h : Ready s)
    (hs : serve r (taken tag r s) = (u, res)) :
    ∃ t : State, frameOf tag r s = .next t ∧
      t.host.reply = some ⟨tag, requestCode r, resultByte res.code, res.payload⟩ ∧
      t.stands = u.stands := by
  refine ⟨_, whileRunning_running _ _ h.runs, ?_, ?_⟩ <;>
    simp [submit_ready _ _ _ h.noneInHand, hs]

/-- The number of a failing check as its one byte (R189). -/
theorem badParam_eq (n : Nat) (s : State) : badParam n s = (s, ⟨.badParam, [BitVec.ofNat 8 n]⟩) := by
  simp [badParam, be]

/-! ### Numbered checks (R5, R10, R14) -/

/-- A list of numbered checks decides the conditions of a table: the numbers ascend, each check holds
exactly where the condition of its number does, and a number with no check holds nothing back. -/
structure ChecksDecide (l : List (Nat × Bool)) (C : Nat → Prop) : Prop where
  ascending : l.Pairwise fun x y => x.1 < y.1
  correct : ∀ x ∈ l, x.2 = true ↔ C x.1
  complete : ∀ n, n ∉ l.map (·.1) → C n

theorem firstFailing_eq_none (l : List (Nat × Bool)) (h : ∀ x ∈ l, x.2 = true) :
    firstFailing l = none := by
  induction l with
  | nil => rfl
  | cons x l ih =>
    rw [firstFailing, if_pos (h x List.mem_cons_self), ih fun y hy => h y (List.mem_cons_of_mem _ hy)]

theorem firstFailing_eq_some (l : List (Nat × Bool)) (n : Nat)
    (ha : l.Pairwise fun x y => x.1 < y.1) (hn : (n, false) ∈ l)
    (hb : ∀ x ∈ l, x.1 < n → x.2 = true) : firstFailing l = some n := by
  induction l with
  | nil => simp at hn
  | cons x l ih =>
    obtain ⟨hx, hl⟩ := List.pairwise_cons.mp ha
    rcases List.mem_cons.mp hn with rfl | hn
    · rfl
    · rw [firstFailing, if_pos (hb x List.mem_cons_self (hx _ hn)),
        ih hl hn fun y hy => hb y (List.mem_cons_of_mem _ hy)]

theorem ChecksDecide.firstFailing_none {l : List (Nat × Bool)} {C : Nat → Prop}
    (h : ChecksDecide l C) (hC : ∀ n, C n) : firstFailing l = none :=
  firstFailing_eq_none l fun x hx => (h.correct x hx).mpr (hC x.1)

theorem ChecksDecide.firstFailing_some {l : List (Nat × Bool)} {C : Nat → Prop} {n : Nat}
    (h : ChecksDecide l C) (hn : ¬ C n) (hC : ∀ m, m < n → C m) : firstFailing l = some n := by
  obtain ⟨⟨m, ok⟩, hx, rfl⟩ : ∃ x ∈ l, x.1 = n :=
    List.mem_map.mp (by_contra fun hm => hn (h.complete n hm))
  have hok : ok = false := by simpa using mt (h.correct _ hx).mp hn
  exact firstFailing_eq_some l m h.ascending (hok ▸ hx) fun y hy hlt =>
    (h.correct y hy).mpr (hC y.1 hlt)

theorem inRange_iff (lo hi v : Nat) : inRange lo hi v = true ↔ lo ≤ v ∧ v ≤ hi := by simp [inRange]

theorem gapInRange_iff (v : Int) : gapInRange v = true ↔ -200000 ≤ v ∧ v ≤ 600000 := by
  simp [gapInRange]

/-- The address a field names. -/
theorem addrOf_eq_some (b : Byte) (a : Node) : addrOf b = some a ↔ a.val = b.toNat := by
  unfold addrOf
  split
  · simp [Fin.ext_iff, eq_comm]
  · have := a.isLt
    simp; omega

/-- A field at an address that holds NONE or a role. -/
theorem addrFreeFor_iff (s : State) (b : Byte) (r : Role) : addrFreeFor s b r = true ↔
    ∃ a : Node, a.val = b.toNat ∧ (s.nodes[a].role = .none ∨ s.nodes[a].role = r) := by
  simp only [← addrOf_eq_some, addrFreeFor]
  cases addrOf b <;> simp

/-! ### Roles given and dropped (R3, R4) -/

/-- A role dropped changes the node table alone. -/
theorem dropRole_eq (r : Role) (s : State) : dropRole r s = { s with nodes := (dropRole r s).nodes } := by
  unfold dropRole
  split <;> rfl

/-- A role given changes the node table alone. -/
theorem giveRole_eq (a : Node) (r : Role) (s : State) :
    giveRole a r s = { s with nodes := (giveRole a r s).nodes } := by
  unfold giveRole
  split
  · rfl
  · cases roleNode s r <;> rfl

/-- A role dropped resets the entry that held it, and no other. -/
theorem dropRole_nodes (r : Role) (s : State) (h : RolesUnique s) (hr : r ≠ .none) (b : Node) :
    (dropRole r s).nodes[b] = if s.nodes[b].role = r then nodeReset .none else s.nodes[b] := by
  unfold dropRole
  split
  · rename_i c hc
    have hrole := roleNode_holds s r c hc
    have hiff : s.nodes[b].role = r ↔ b = c :=
      ⟨fun hb => h b c (hb.trans hrole.symm) (hb ▸ hr), fun e => e ▸ hrole⟩
    rw [State.onNode_nodes, upd_at, if_congr hiff rfl rfl]
  · rename_i hn
    refine (if_neg fun hb => ?_).symm
    rw [roleNode_eq s r b h hr hb] at hn
    cases hn

/-- A role given to an address: where it is held there already nothing changes, and else the old holder's
entry and the new one's are reset, the new one's with the role. -/
theorem giveRole_nodes (a : Node) (r : Role) (s : State) (h : RolesUnique s) (hr : r ≠ .none)
    (b : Node) :
    (giveRole a r s).nodes[b] =
      if s.nodes[b].role = r then (if b = a then s.nodes[b] else nodeReset .none)
      else if b = a then nodeReset r else s.nodes[b] := by
  by_cases ha : s.nodes[a].role = r
  · have hiff : s.nodes[b].role = r ↔ b = a :=
      ⟨fun hb => h b a (hb.trans ha.symm) (hb ▸ hr), fun e => e ▸ ha⟩
    rw [giveRole, if_pos ha]
    simp only [hiff]
    split <;> simp
  · have hg : giveRole a r s = (dropRole r s).onNode a fun _ => nodeReset r := if_neg ha
    rw [hg, State.onNode_nodes, upd_at, dropRole_nodes r s h hr]
    by_cases e : b = a
    · subst e; simp [ha, -Fin.getElem_fin]
    · simp [e]

/-- The node table does not see the request in hand. -/
theorem dropRole_taken (tag : Byte) (q : Request) (r : Role) (s : State) :
    dropRole r (taken tag q s) = taken tag q (dropRole r s) := by
  have hn : roleNode (taken tag q s) r = roleNode s r := rfl
  unfold dropRole
  rw [hn]
  cases roleNode s r <;> rfl

theorem giveRole_taken (tag : Byte) (q : Request) (a : Node) (r : Role) (s : State) :
    giveRole a r (taken tag q s) = taken tag q (giveRole a r s) := by
  by_cases ha : s.nodes[a].role = r
  · have ht : (taken tag q s).nodes[a].role = r := ha
    rw [giveRole, giveRole, if_pos ha, if_pos ht]
  · have ht : (taken tag q s).nodes[a].role ≠ r := ha
    have hg : ∀ t : State, t.nodes[a].role ≠ r →
        giveRole a r t = (dropRole r t).onNode a fun _ => nodeReset r := fun _ h => if_neg h
    rw [hg _ ha, hg _ ht, dropRole_taken]
    rfl

/-! ### Configure Mill (R5) -/

theorem allDist_iff (p : MillParams) (f : Nat → Bool) :
    allDist p f = true ↔ ∀ k : Zone, k.val < p.n.toNat → f (millDist p)[k] = true := by
  simp only [allDist, List.all_eq_true, mem_allGauges, forall_const, Bool.or_eq_true,
    Bool.not_eq_true', decide_eq_false_iff_not, imp_iff_not_or]

theorem standStays_iff (s : State) (p : MillParams) (i : Stand) :
    standStays s p i = true ↔ s.stands[i].configured = true ∧ i.val + 1 ≤ p.n.toNat := by
  simp [standStays, standNumber]

theorem gaugeStays_iff (s : State) (p : MillParams) (z : Gauge) :
    gaugeStays s p z = true ↔ s.gauges[z].installed = true ∧ z.val ≤ p.n.toNat := by
  simp only [gaugeStays, Bool.and_eq_true, decide_eq_true_eq]

/-- Check 12 of R5, by the role that the entry address holds. -/
theorem entryAddrFree_iff (s : State) (p : MillParams) :
    entryAddrFree s p = true ↔ MillCheck s p 12 := by
  simp only [MillCheck, ← addrOf_eq_some, ← standStays_iff, ← gaugeStays_iff, entryAddrFree]
  cases addrOf p.entryAddr with
  | none => simp
  | some a =>
    simp only [Option.some.injEq, exists_eq_left']
    cases s.nodes[a].role <;> simp

theorem leadsFit_iff (s : State) (p : MillParams) : leadsFit s p = true ↔ MillCheck s p 13 := by
  simp only [MillCheck, leadsFit, List.all_eq_true, mem_allStands, true_implies, Bool.or_eq_true,
    Bool.not_eq_true', ← Bool.not_eq_true, standStays_iff, decide_eq_true_eq, ← imp_iff_not_or,
    and_imp]

/-- Check 14 of R5: a gauge that stays lies at most at AFTER-N. -/
theorem gaugesFit_iff (s : State) (p : MillParams) : gaugesFit s p = true ↔ MillCheck s p 14 := by
  simp only [MillCheck, gaugesFit, List.all_eq_true, mem_allGauges, true_implies]
  refine forall_congr' fun k => ?_
  have hzero : k = 0 ↔ ¬ 1 ≤ k.val := by rw [Fin.ext_iff]; simp
  simp only [Bool.or_eq_true, beq_iff_eq, Bool.not_eq_true', ← Bool.not_eq_true, gaugeStays_iff, hzero]
  split <;> simp only [decide_eq_true_eq] <;> grind

/-- The model's fourteen checks are R5's. -/
theorem millChecks_decide (s : State) (p : MillParams) :
    ChecksDecide (millChecks s p) (MillCheck s p) where
  ascending := by simp [millChecks]
  correct := by
    simp only [millChecks, List.forall_mem_cons, entryAddrFree_iff, leadsFit_iff, gaugesFit_iff,
      List.not_mem_nil, false_implies, implies_true, and_true]
    simp only [MillCheck, inRange_iff, allDist_iff, Bool.and_eq_true, decide_eq_true_eq, and_assoc,
      true_and]
    omega
  complete n hn := by
    unfold MillCheck
    split <;> simp [millChecks] at hn ⊢

/-- A stand stands in the way of a Configure Mill exactly where it is configured and not OPEN. -/
theorem any_blocksMill_iff (s : State) : allStands.any (blocksMill s) = true ↔
    ∃ i : Stand, s.stands[i].configured = true ∧ s.actuators[i].state ≠ .open_ := by
  simp only [List.any_eq_true, mem_allStands, true_and, blocksMill, Bool.and_eq_true,
    decide_eq_true_eq]

theorem serveConfigureMill_blocked (p : MillParams) (s : State)
    (h : s.track.mode ≠ .stopped ∨
      ∃ i : Stand, s.stands[i].configured = true ∧ s.actuators[i].state ≠ .open_) :
    serveConfigureMill p s = (s, ⟨.state, []⟩) :=
  if_pos (h.imp_right (any_blocksMill_iff s).mpr)

section
variable (p : MillParams) (s : State) (hmode : s.track.mode = .stopped)
  (hopen : ∀ i : Stand, s.stands[i].configured = true → s.actuators[i].state = .open_)
include hmode hopen

/-- With tracking STOPPED and every configured stand OPEN, R5's first test does not refuse. -/
theorem not_blocked : ¬ (s.track.mode ≠ .stopped ∨ allStands.any (blocksMill s) = true) := by
  rw [any_blocksMill_iff]
  rintro (h | ⟨i, hi, ho⟩)
  · exact h hmode
  · exact ho (hopen i hi)

theorem serveConfigureMill_fails (n : Nat) (hn : ¬ MillCheck s p n)
    (hC : ∀ m : Nat, m < n → MillCheck s p m) :
    serveConfigureMill p s = (s, ⟨.badParam, [BitVec.ofNat 8 n]⟩) := by
  rw [serveConfigureMill, if_neg (not_blocked s hmode hopen),
    (millChecks_decide s p).firstFailing_some hn hC, ← badParam_eq]

theorem serveConfigureMill_accepts (hC : ∀ n : Nat, MillCheck s p n) :
    ∃ a : Node, serveConfigureMill p s = (millEffect p a s, ⟨.ok, []⟩) := by
  obtain ⟨a, ha, -⟩ := hC 12
  refine ⟨a, ?_⟩
  rw [serveConfigureMill, if_neg (not_blocked s hmode hopen),
    (millChecks_decide s p).firstFailing_none hC, (addrOf_eq_some _ _).mpr ha]
  rfl
end

/-! ### Configure Stand (R9, R10) -/

/-- The model's checks 3 to 13 are R10's. -/
theorem standChecks_decide (s : State) (p : StandParams) (i : Stand) :
    ChecksDecide (standChecks s p i) (StandCheck s p i) where
  ascending := by simp [standChecks]
  correct := by
    simp only [standChecks, List.forall_mem_cons, List.not_mem_nil, false_implies, implies_true,
      StandCheck, gapInRange_iff, inRange_iff, addrFreeFor_iff, Bool.and_eq_true, decide_eq_true_eq,
      and_true, true_and]
    omega
  complete n hn := by
    unfold StandCheck
    split <;> simp [standChecks] at hn ⊢

/-- The number 1 to 5 of a stand names it. -/
theorem standOfNumber_eq_some (b : Byte) (i : Stand) (h : b.toNat = i.val + 1) :
    standOfNumber b = some i := by
  have := i.isLt
  rw [standOfNumber, dif_pos (by omega)]
  simp [h]

theorem standOfNumber_eq_none (b : Byte) (h : b.toNat = 0 ∨ 5 < b.toNat) : standOfNumber b = none :=
  dif_neg (by omega)

theorem serveConfigureStand_noStand (p : StandParams) (s : State)
    (h : p.stand.toNat = 0 ∨ 5 < p.stand.toNat) :
    serveConfigureStand p s = (s, ⟨.badParam, [1]⟩) := by
  rw [serveConfigureStand, standOfNumber_eq_none _ h]
  rfl

/-- A stand that is not configured, or OPEN, or RELEASED is not refused with STATE (R9). -/
theorem not_engaged (s : State) (i : Stand) (hfree : s.stands[i].configured = false ∨
    s.actuators[i].state = .open_ ∨ s.actuators[i].state = .released) :
    ¬ (s.stands[i].configured = true ∧ s.actuators[i].state ≠ .open_ ∧
      s.actuators[i].state ≠ .released) := by
  rintro ⟨hs, ho, hr⟩
  rcases hfree with h | h | h
  · exact Bool.eq_false_iff.mp h hs
  · exact ho h
  · exact hr h

section
variable (p : StandParams) (s : State) (i : Stand) (hi : p.stand.toNat = i.val + 1)
include hi

theorem serveConfigureStand_notConfigured (hc : s.mill.configured = false) :
    serveConfigureStand p s = (s, ⟨.notConfigured, []⟩) := by
  simp only [serveConfigureStand, standOfNumber_eq_some _ i hi, hc]
  rfl

theorem serveConfigureStand_aboveN (hc : s.mill.configured = true) (hN : s.mill.n < i.val + 1) :
    serveConfigureStand p s = (s, ⟨.badParam, [2]⟩) := by
  have hw : withinN s i = false := by simp [withinN, standNumber]; omega
  simp only [serveConfigureStand, standOfNumber_eq_some _ i hi, hc, hw]
  rfl

variable (hc : s.mill.configured = true) (hN : i.val + 1 ≤ s.mill.n)
include hc hN

theorem serveConfigureStand_engaged (hs : s.stands[i].configured = true)
    (ho : s.actuators[i].state ≠ .open_) (hr : s.actuators[i].state ≠ .released) :
    serveConfigureStand p s = (s, ⟨.state, []⟩) := by
  have hw : withinN s i = true := decide_eq_true hN
  simp only [serveConfigureStand, standOfNumber_eq_some _ i hi, hc, hw, not_true, if_false]
  exact if_pos ⟨hs, ho, hr⟩

variable (hfree : s.stands[i].configured = false ∨ s.actuators[i].state = .open_ ∨
  s.actuators[i].state = .released)
include hfree

theorem serveConfigureStand_fails (n : Nat) (hn : ¬ StandCheck s p i n)
    (hC : ∀ m : Nat, m < n → StandCheck s p i m) :
    serveConfigureStand p s = (s, ⟨.badParam, [BitVec.ofNat 8 n]⟩) := by
  have hw : withinN s i = true := decide_eq_true hN
  simp only [serveConfigureStand, standOfNumber_eq_some _ i hi, hc, hw, not_true, if_false,
    (standChecks_decide s p i).firstFailing_some hn hC, badParam_eq]
  exact if_neg (not_engaged s i hfree)

theorem serveConfigureStand_accepts (hC : ∀ n : Nat, StandCheck s p i n) :
    ∃ a : Node, a.val = p.addr.toNat ∧
      serveConfigureStand p s = (standEffect p i a s, ⟨.ok, []⟩) := by
  obtain ⟨a, ha, -⟩ := hC 13
  have hw : withinN s i = true := decide_eq_true hN
  refine ⟨a, ha, ?_⟩
  simp only [serveConfigureStand, standOfNumber_eq_some _ i hi, hc, hw, not_true, if_false,
    (standChecks_decide s p i).firstFailing_none hC, (addrOf_eq_some _ _).mpr ha, accept]
  exact if_neg (not_engaged s i hfree)
end

/-- An accepted Configure Stand writes its record at the stand, whatever the composition and the stop
confirmation that follow do (R11). -/
theorem standEffect_stands (p : StandParams) (i : Stand) (a : Node) (s : State) :
    (standEffect p i a s).stands = upd s.stands i fun _ => standRecordOf p := by
  simp [standEffect]

/-! ### Configure Gauge (R13 to R15) -/

/-- The model's checks 4 to 8 are R14's, at a position of the mill. -/
theorem gaugeChecks_decide (s : State) (p : GaugeParams) (z : Gauge) (hz : z.val ≤ s.mill.n) :
    ChecksDecide (gaugeChecks s p z) (GaugeCheck s p z) where
  ascending := by simp [gaugeChecks]
  correct := by
    have hfits : positionFits s z p.g.toNat = true ↔ GaugeCheck s p z 6 := by
      simp only [GaugeCheck, positionFits]
      split
      · simp; omega
      · split <;> simp only [decide_eq_true_eq] <;> omega
    simp only [gaugeChecks, List.forall_mem_cons, hfits, List.not_mem_nil, false_implies, implies_true]
    simp only [GaugeCheck, inRange_iff, addrFreeFor_iff, decide_eq_true_eq, and_true]
    omega
  complete n hn := by
    unfold GaugeCheck
    split <;> simp [gaugeChecks] at hn ⊢

theorem gaugeOfCode_eq_some (b : Byte) (z : Gauge) (h : b.toNat = z.val) : gaugeOfCode b = some z := by
  have := z.isLt
  rw [gaugeOfCode, dif_pos (by omega)]
  simp [h]

/-- A gauge removed: its record returns to the values of R12 and its address to NONE, and nothing else
changes (R15). -/
theorem removeGauge_eq (z : Gauge) (s : State) : removeGauge z s =
    { s with nodes := (dropRole (.gauge z) s).nodes, gauges := s.gauges.set z.val gaugeReset } := by
  rw [removeGauge, dropRole_eq]
  rfl

theorem removeGauge_taken (tag : Byte) (q : Request) (z : Gauge) (s : State) :
    removeGauge z (taken tag q s) = taken tag q (removeGauge z s) := by
  rw [removeGauge, dropRole_taken]
  rfl

/-- The state after an accepted install (R15). -/
def installGauge (p : GaugeParams) (z : Gauge) (a : Node) (s : State) : State :=
  giveRole a (.gauge z) (s.onGauge z fun _ => gaugeRecordOf p z)

theorem installGauge_eq (p : GaugeParams) (z : Gauge) (a : Node) (s : State) : installGauge p z a s =
    { s with
      nodes := (installGauge p z a s).nodes
      gauges := s.gauges.set z.val (gaugeRecordOf p z) } := by
  rw [installGauge, giveRole_eq]
  rfl

theorem installGauge_taken (tag : Byte) (q : Request) (p : GaugeParams) (z : Gauge) (a : Node)
    (s : State) : installGauge p z a (taken tag q s) = taken tag q (installGauge p z a s) :=
  giveRole_taken tag q a (.gauge z) (s.onGauge z fun _ => gaugeRecordOf p z)

/-- Neither a removal nor an install of a gauge touches the link, the stops or the stands' work. -/
theorem settled_removeGauge (z : Gauge) (s : State) : Settled (removeGauge z s) ↔ Settled s :=
  settled_congr _ _ (by simp) (by simp) (by simp) (by simp)

theorem settled_installGauge (p : GaugeParams) (z : Gauge) (a : Node) (s : State) :
    Settled (installGauge p z a s) ↔ Settled s := by
  refine settled_congr _ _ ?_ ?_ ?_ fun _ => ?_ <;> simp [installGauge]

theorem serveConfigureGauge_noPosition (p : GaugeParams) (s : State) (h : 5 < p.position.toNat) :
    serveConfigureGauge p s = (s, ⟨.badParam, [1]⟩) := by
  have hz : gaugeOfCode p.position = none := dif_neg (by omega)
  simp only [serveConfigureGauge, hz]
  rfl

section
variable (p : GaugeParams) (s : State) (z : Gauge) (hz : p.position.toNat = z.val)
include hz

theorem serveConfigureGauge_notConfigured (hc : s.mill.configured = false) :
    serveConfigureGauge p s = (s, ⟨.notConfigured, []⟩) := by
  simp only [serveConfigureGauge, gaugeOfCode_eq_some _ z hz, hc]
  rfl

variable (hc : s.mill.configured = true)
include hc

theorem serveConfigureGauge_aboveN (hN : s.mill.n < z.val) :
    serveConfigureGauge p s = (s, ⟨.badParam, [2]⟩) := by
  simp only [serveConfigureGauge, gaugeOfCode_eq_some _ z hz, hc, not_true, if_false, if_pos hN]
  rfl

variable (hN : z.val ≤ s.mill.n)
include hN

theorem serveConfigureGauge_tracking (hmode : s.track.mode ≠ .stopped) :
    serveConfigureGauge p s = (s, ⟨.state, []⟩) := by
  simp only [serveConfigureGauge, gaugeOfCode_eq_some _ z hz, hc, not_true, if_false,
    if_neg (Nat.not_lt.mpr hN), if_pos hmode]
  rfl

variable (hmode : s.track.mode = .stopped)
include hmode

theorem serveConfigureGauge_noAction (h1 : p.action ≠ 1) (h2 : p.action ≠ 2) :
    serveConfigureGauge p s = (s, ⟨.badParam, [3]⟩) := by
  simp only [serveConfigureGauge, gaugeOfCode_eq_some _ z hz, hc, not_true, if_false,
    if_neg (Nat.not_lt.mpr hN), hmode, ne_eq, if_neg h1, if_neg h2]
  rfl

theorem serveConfigureGauge_remove (h2 : p.action = 2) : serveConfigureGauge p s =
    (if s.gauges[z].installed = true then removeGauge z s else s, ⟨.ok, []⟩) := by
  simp only [serveConfigureGauge, gaugeOfCode_eq_some _ z hz, hc, not_true, if_false,
    if_neg (Nat.not_lt.mpr hN), hmode, ne_eq, if_pos h2]
  rfl

variable (h1 : p.action = 1)
include h1

theorem serveConfigureGauge_fails (n : Nat) (hn : ¬ GaugeCheck s p z n)
    (hC : ∀ m : Nat, m < n → GaugeCheck s p z m) :
    serveConfigureGauge p s = (s, ⟨.badParam, [BitVec.ofNat 8 n]⟩) := by
  have h2 : p.action ≠ 2 := by rw [h1]; decide
  simp only [serveConfigureGauge, gaugeOfCode_eq_some _ z hz, hc, not_true, if_false,
    if_neg (Nat.not_lt.mpr hN), hmode, ne_eq, if_neg h2, if_pos h1,
    (gaugeChecks_decide s p z hN).firstFailing_some hn hC, badParam_eq]

theorem serveConfigureGauge_installs (hC : ∀ n : Nat, GaugeCheck s p z n) (a : Node)
    (ha : a.val = p.addr.toNat) :
    serveConfigureGauge p s = (installGauge p z a s, ⟨.ok, []⟩) := by
  have h2 : p.action ≠ 2 := by rw [h1]; decide
  simp only [serveConfigureGauge, gaugeOfCode_eq_some _ z hz, hc, not_true, if_false,
    if_neg (Nat.not_lt.mpr hN), hmode, ne_eq, if_neg h2, if_pos h1,
    (gaugeChecks_decide s p z hN).firstFailing_none hC, (addrOf_eq_some _ _).mpr ha, accept,
    installGauge]
end

end Sys2Proof.Machine
end

section
/-! The statements about the configuration requests. -/

open Sys2Proof Sys2Proof.Machine

/-- Settles O26: R5's tests in their order, each a lemma about `serveConfigureMill`. -/
theorem configureMillChecks : Obligations.ConfigureMillChecks := by
  intro tag p s h
  refine ⟨fun hb => ?_, fun hmode hopen => ⟨fun n hn hC => ?_, fun hC => ?_⟩⟩
  · exact frameOf_unchanged _ _ _ _ s h (serveConfigureMill_blocked p (taken tag _ s) hb)
  · exact frameOf_unchanged _ _ _ _ s h
      (serveConfigureMill_fails p (taken tag _ s) hmode hopen n hn hC)
  · obtain ⟨a, ha⟩ :=
      serveConfigureMill_accepts p (taken tag (.configureMill p) s) hmode hopen hC
    obtain ⟨t, ht, hreply, -⟩ := frameOf_served tag (.configureMill p) s _ _ h ha
    exact ⟨t, ht, hreply⟩

/-- Settles O28: R9's tests and R10's checks in their order; the record of an accepted request is read
past the composition, the confirmation test and the abandonment that follow it. -/
theorem configureStandChecks : Obligations.ConfigureStandChecks := by
  intro tag p s h
  refine ⟨fun hno => ?_, fun i hi => ⟨fun hc => ?_, fun hc hN => ?_,
    fun hc hN => ⟨fun hs ho hr => ?_, fun hfree => ⟨fun n hn hC => ?_, fun hC => ?_⟩⟩⟩⟩
  · exact frameOf_unchanged _ _ _ _ s h (serveConfigureStand_noStand p (taken tag _ s) hno)
  · exact frameOf_unchanged _ _ _ _ s h
      (serveConfigureStand_notConfigured p (taken tag _ s) i hi hc)
  · exact frameOf_unchanged _ _ _ _ s h (serveConfigureStand_aboveN p (taken tag _ s) i hi hc hN)
  · exact frameOf_unchanged _ _ _ _ s h
      (serveConfigureStand_engaged p (taken tag _ s) i hi hc hN hs ho hr)
  · exact frameOf_unchanged _ _ _ _ s h
      (serveConfigureStand_fails p (taken tag _ s) i hi hc hN hfree n hn hC)
  · obtain ⟨a, ha, hserve⟩ :=
      serveConfigureStand_accepts p (taken tag (.configureStand p) s) i hi hc hN hfree hC
    obtain ⟨t, ht, hreply, hstands⟩ := frameOf_served tag (.configureStand p) s _ _ h hserve
    refine ⟨t, a, ht, hreply, ha, ?_⟩
    rw [hstands, standEffect_stands, upd_same, standRecordOf, (addrOf_eq_some _ _).mpr ha]

/-- Settles O30: R13's tests and R14's checks in their order, and the node table of a removal and of an
install (R15), where each role is held at one address. -/
theorem configureGaugeRequest : Obligations.ConfigureGaugeRequest := by
  intro tag p s h hroles
  refine ⟨fun hno => ?_, fun z hz => ⟨fun hc => ?_, fun hc => ⟨fun hN => ?_, fun hN hmode => ?_,
    fun hN hmode => ⟨fun h1 h2 => ?_, fun h2 hout => ?_, fun h2 hin => ?_,
      fun h1 => ⟨fun n hn hC => ?_, fun hC a ha => ?_⟩⟩⟩⟩⟩
  · exact frameOf_unchanged _ _ _ _ s h (serveConfigureGauge_noPosition p (taken tag _ s) hno)
  · exact frameOf_unchanged _ _ _ _ s h
      (serveConfigureGauge_notConfigured p (taken tag _ s) z hz hc)
  · exact frameOf_unchanged _ _ _ _ s h (serveConfigureGauge_aboveN p (taken tag _ s) z hz hc hN)
  · exact frameOf_unchanged _ _ _ _ s h
      (serveConfigureGauge_tracking p (taken tag _ s) z hz hc hN hmode)
  · exact frameOf_unchanged _ _ _ _ s h
      (serveConfigureGauge_noAction p (taken tag _ s) z hz hc hN hmode h1 h2)
  · refine frameOf_unchanged _ _ _ _ s h
      ((serveConfigureGauge_remove p (taken tag _ s) z hz hc hN hmode h2).trans ?_)
    exact congrArg (·, _) (if_neg (Bool.eq_false_iff.mp hout))
  · refine ⟨removeGauge z s, frameOf_answered _ _ _ _ s _ h ((settled_removeGauge z s).mpr h.settled)
      ((serveConfigureGauge_remove p (taken tag _ s) z hz hc hN hmode h2).trans ?_), ?_, fun a => ?_⟩
    · exact congrArg (·, _) ((if_pos hin).trans (removeGauge_taken tag _ z s))
    · exact removeGauge_eq z s
    · exact dropRole_nodes (.gauge z) s hroles (by simp) a
  · exact frameOf_unchanged _ _ _ _ s h
      (serveConfigureGauge_fails p (taken tag _ s) z hz hc hN hmode h1 n hn hC)
  · refine ⟨installGauge p z a s,
      frameOf_answered _ _ _ _ s _ h ((settled_installGauge p z a s).mpr h.settled)
        ((serveConfigureGauge_installs p (taken tag _ s) z hz hc hN hmode h1 hC a ha).trans ?_),
      ?_, fun b => ?_⟩
    · rw [installGauge_taken]
    · rw [← (addrOf_eq_some _ _).mpr ha]
      exact installGauge_eq p z a s
    · exact giveRole_nodes a (.gauge z) (s.onGauge z fun _ => gaugeRecordOf p z) hroles (by simp) b
end

section
/-! SUPPORT. Start and Stop Tracking (R40, R41): what a pass over the stands or the gauges leaves at one of
them, a demand composed or ended and handed on, and what the two requests do to every unit. -/

namespace Sys2Proof.Machine

/-! ### A pass over a list of places -/

section
variable {ι α : Type} (f : State → ι → State) (V : State → α)

/-- A pass whose steps leave a reading as it was leaves it as it was. -/
theorem foldl_keeps (l : List ι) (h : ∀ s, ∀ j ∈ l, V (f s j) = V s) (s : State) :
    V (l.foldl f s) = V s := by
  induction l generalizing s with
  | nil => rfl
  | cons j l ih =>
    rw [List.foldl_cons, ih fun s k hk => h s k (List.mem_cons_of_mem _ hk),
      h s j List.mem_cons_self]

/-- Where only the step at `i` changes a reading, a pass that comes to `i` once changes it as that step
does, taken in some state that shows the reading of the first. -/
theorem foldl_at (i : ι) (h : ∀ s j, j ≠ i → V (f s j) = V s) (l : List ι) (hn : l.Nodup)
    (hi : i ∈ l) (s : State) : ∃ u, V u = V s ∧ V (l.foldl f s) = V (f u i) := by
  induction l generalizing s with
  | nil => simp at hi
  | cons j l ih =>
    obtain ⟨hj, hn⟩ := List.nodup_cons.mp hn
    by_cases e : i = j
    · subst e
      exact ⟨s, rfl, foldl_keeps f V l (fun s k hk => h s k fun e => hj (e ▸ hk)) _⟩
    · obtain ⟨u, hu, hl⟩ := ih hn (List.mem_of_ne_of_mem e hi) (f s j)
      exact ⟨u, hu.trans (h s j (Ne.symm e)), hl⟩
end

/-- A pass over the five stands. -/
theorem foldl_stands_at {α : Type} (f : State → Stand → State) (V : State → α) (i : Stand)
    (h : ∀ s j, j ≠ i → V (f s j) = V s) (s : State) :
    ∃ u, V u = V s ∧ V (allStands.foldl f s) = V (f u i) :=
  foldl_at f V i h allStands (by decide) (mem_allStands i) s

/-! ### What a new target does to the stands' work (R110, R112, R116) -/

/-- What the sequencer does with a new target of stand `i`: no other stand is touched, and no GAP_OPEN is
built. -/
structure Retargets (i : Stand) (s t : State) : Prop where
  others : ∀ j, j ≠ i → t.actuators[j] = s.actuators[j]
  noOpen : openFilled t i = true → openFilled s i = true

theorem Retargets.refl (i : Stand) (s : State) : Retargets i s s := ⟨fun _ _ => rfl, id⟩

theorem Retargets.trans {i : Stand} {s t u : State} (h : Retargets i s t) (k : Retargets i t u) :
    Retargets i s u :=
  ⟨fun j hj => (k.others j hj).trans (h.others j hj), h.noOpen ∘ k.noOpen⟩

/-- Over the whole mill no GAP_OPEN slot becomes filled. -/
theorem Retargets.openFilled_mono {i : Stand} {s t : State} (h : Retargets i s t) (j : Stand)
    (hj : openFilled t j = true) : openFilled s j = true := by
  by_cases e : j = i
  · subst e; exact h.noOpen hj
  · simpa only [openFilled, h.others j e] using hj

theorem openFilled_congr (s t : State) (i : Stand) (h : t.actuators = s.actuators) :
    openFilled t i = openFilled s i := by
  simp only [openFilled, h]

/-- A filled GAP_OPEN slot holds a GAP_OPEN. -/
theorem openFilled_work (s : State) (i : Stand) (h : openFilled s i = true) :
    ∃ w, s.actuators[i].work = some w ∧ w.cmd = .open_ := by
  unfold openFilled at h
  split at h
  · rename_i w hw
    simp only [Bool.and_eq_true, decide_eq_true_eq] at h
    exact ⟨w, hw, h.1⟩
  · cases h

/-- A change of stand `i`'s fields that keeps its work, or leaves it work that is no GAP_OPEN. -/
theorem retargets_onActuator (i : Stand) (f : Actuator → Actuator) (s : State)
    (h : (f s.actuators[i]).work = s.actuators[i].work ∨
      ∀ w, (f s.actuators[i]).work = some w → w.cmd ≠ .open_) :
    Retargets i s (s.onActuator i f) where
  others j hj := upd_other _ _ _ _ hj
  noOpen ho := by
    rcases h with h | h
    · simpa only [openFilled, State.onActuator_actuators, upd_same, h] using ho
    · obtain ⟨w, hw, hc⟩ := openFilled_work _ _ ho
      rw [State.onActuator_actuators, upd_same] at hw
      exact absurd hc (h w hw)

/-- A trim or step dropped places nothing. -/
theorem retargets_dropWork (i : Stand) (s : State) : Retargets i s (dropWork i s) :=
  retargets_onActuator i _ s (.inr fun _ h => nomatch h)

theorem retargets_buildWork (i : Stand) (cmd : GapCommand) (s : State) (h : cmd ≠ .open_) :
    Retargets i s (buildWork i cmd s) :=
  retargets_onActuator i _ s (.inr fun w hw => by cases hw; exact h)

theorem retargets_applyTravel (i : Stand) (s : State) : Retargets i s (applyTravel i s) := by
  unfold applyTravel
  have hb := fun x => retargets_buildWork i (.travel x) s (by simp)
  dsimp only
  split
  · exact .refl i s
  · split
    · exact hb _
    · split
      · split
        · exact .refl i s
        · exact hb _
      · exact .refl i s
      · exact .refl i s

theorem retargets_enterTravel (i : Stand) (s : State) : Retargets i s (enterTravel i s) :=
  ((retargets_dropWork i s).trans (retargets_onActuator i _ _ (.inl rfl))).trans
    (retargets_applyTravel i _)

theorem retargets_applyHold (i : Stand) (s : State) : Retargets i s (applyHold i s) := by
  unfold applyHold
  have hb := fun x => retargets_buildWork i (.trim x) s (by simp)
  dsimp only
  split
  · exact .refl i s
  · split
    · exact retargets_dropWork i s
    · split
      · split
        · split
          · exact .refl i s
          · exact hb _
        · exact hb _
      · exact retargets_enterTravel i s

theorem retargets_newDemand (i : Stand) (d : Option Int) (s : State) :
    Retargets i s (newDemand i d s) := by
  have h1 : Retargets i s (s.onActuator i fun a => { a with t := d }) :=
    retargets_onActuator i _ s (.inl rfl)
  unfold newDemand
  dsimp only
  split
  · split
    · exact h1
    · exact h1.trans (retargets_applyTravel i _)
  · split
    · exact h1
    · exact h1.trans (retargets_applyHold i _)
  all_goals exact h1

/-- Outside TRAVEL and HOLD a change of the demand is only taken into t (R110). -/
theorem newDemand_idle (i : Stand) (d : Option Int) (s : State) (ht : s.actuators[i].state ≠ .travel)
    (hh : s.actuators[i].state ≠ .hold) :
    newDemand i d s = s.onActuator i fun a => { a with t := d } := by
  unfold newDemand
  dsimp only
  split
  · rename_i h; exact absurd h ht
  · rename_i h; exact absurd h hh
  all_goals rfl

/-- The end of a demand leaves no target, and starts nothing (R110). -/
theorem newDemand_none (i : Stand) (s : State) :
    newDemand i none s = s.onActuator i fun a => { a with t := none } := by
  have hT : ∀ u : State, u.actuators[i].t = none → applyTravel i u = u := fun u h => by
    simp only [applyTravel, h]
  have hH : ∀ u : State, u.actuators[i].t = none → applyHold i u = u := fun u h => by
    simp only [applyHold, h]
  have h1 : (s.onActuator i fun a => { a with t := none }).actuators[i].t = none := by
    rw [State.onActuator_actuators, upd_same]
  unfold newDemand
  cases s.actuators[i].state <;> simp only [hT _ h1, hH _ h1, ite_self]

/-! ### A demand ended or composed (R88 to R90) -/

/-- A change of stand `i`'s fields that leaves them as they were. -/
theorem onActuator_same (i : Stand) (f : Actuator → Actuator) (s : State)
    (h : f s.actuators[i] = s.actuators[i]) : s.onActuator i f = s := by
  have hv : upd s.actuators i f = s.actuators := table_ext fun j => by
    rw [upd_at]
    split
    · subst_vars; exact h
    · rfl
  rw [State.onActuator, hv]

/-- A demand that ends: the stand keeps its terms, and its target goes with a demand it had. -/
theorem endDemand_eq (i : Stand) (s : State) : endDemand i s =
    (s.onDemand i fun d => { d with demand := none, limited := false }).onActuator i fun a =>
      { a with t := if s.demands[i].demand.isSome then none else a.t } := by
  unfold endDemand
  cases h : s.demands[i].demand with
  | some d => exact newDemand_none i _
  | none => exact (onActuator_same i _ _ rfl).symm

/-- The demand of stand `i`: present while it is configured and has an active product, the sum of R89
clamped to the gap limits. -/
def demandOf (s : State) (i : Stand) : Option DemandValue :=
  if s.stands[i].configured then
    s.store.active[i].map fun p =>
      ⟨clampTo s.stands[i].gapMin s.stands[i].gapMax (demandSum s i p), demandSum s i p⟩
  else none

/-- Without a demand to compose the composition is its end (R88). -/
theorem composeDemand_inactive (i : Stand) (s : State) (h : demandOf s i = none) :
    composeDemand i s = endDemand i s := by
  unfold composeDemand
  dsimp only
  split
  · rename_i hc hp
    simp [demandOf, hc, hp, -Fin.getElem_fin] at h
  · rfl

/-- A demand composed: it is written with its limited flag, at most an event is raised, and the demand is
handed on where its value is new (R89, R90). -/
theorem composeDemand_active (i : Stand) (s : State) (d : DemandValue) (h : demandOf s i = some d) :
    ∃ u : State, u.actuators = s.actuators ∧
      u.demands = upd s.demands i (fun r => { r with
        demand := some d
        limited := decide (d.sum < s.stands[i].gapMin ∨ s.stands[i].gapMax < d.sum) }) ∧
      composeDemand i s =
        if s.demands[i].demand.map (·.value) = some d.value then u
        else newDemand i (some d.value) u := by
  obtain ⟨hc, p, hp, rfl⟩ : s.stands[i].configured = true ∧ ∃ p, s.store.active[i] = some p ∧
      ⟨clampTo s.stands[i].gapMin s.stands[i].gapMax (demandSum s i p), demandSum s i p⟩ = d := by
    simpa only [demandOf, Option.ite_none_right_eq_some, Option.map_eq_some_iff] using h
  simp only [composeDemand, hc, hp]
  refine ⟨_, ?_, ?_, rfl⟩
  · split <;> rfl
  · split <;> rfl

/-- A composition writes the demand with its limited flag and hands it on exactly where its value changes
(R88 to R90). -/
theorem composeDemand_handsOn (i : Stand) (s : State) : ∃ (u : State) (lim : Bool),
    u.actuators = s.actuators ∧
    u.demands = upd s.demands i (fun d => { d with demand := demandOf s i, limited := lim }) ∧
    composeDemand i s =
      if s.demands[i].demand.map (·.value) = (demandOf s i).map (·.value) then u
      else newDemand i ((demandOf s i).map (·.value)) u := by
  cases h : demandOf s i with
  | some d =>
    obtain ⟨u, hu⟩ := composeDemand_active i s d h
    exact ⟨u, _, hu⟩
  | none =>
    refine ⟨s.onDemand i fun d => { d with demand := none, limited := false }, false, rfl, rfl, ?_⟩
    rw [composeDemand_inactive i s h, endDemand]
    cases s.demands[i].demand <;> simp

/-- The Gap Demand Unit's fields after a composition. -/
theorem composeDemand_demands (i : Stand) (s : State) : ∃ lim : Bool, (composeDemand i s).demands =
    upd s.demands i fun d => { d with demand := demandOf s i, limited := lim } := by
  obtain ⟨u, lim, -, hd, he⟩ := composeDemand_handsOn i s
  refine ⟨lim, ?_⟩
  rw [he, ← hd]
  split <;> simp

theorem retargets_composeDemand (i : Stand) (s : State) : Retargets i s (composeDemand i s) := by
  obtain ⟨u, -, ha, -, he⟩ := composeDemand_handsOn i s
  have hu : Retargets i s u := by
    constructor <;> simp only [openFilled, ha, implies_true, imp_self]
  rw [he]
  split
  · exact hu
  · exact hu.trans (retargets_newDemand i _ u)

/-- Outside TRAVEL and HOLD a composition changes the stand's target alone, and it only where the demand's
value changes (R90, R110). -/
theorem composeDemand_target (i : Stand) (s : State) (ht : s.actuators[i].state ≠ .travel)
    (hh : s.actuators[i].state ≠ .hold) :
    (composeDemand i s).actuators[i] = { s.actuators[i] with
      t := if s.demands[i].demand.map (·.value) = (demandOf s i).map (·.value) then s.actuators[i].t
        else (demandOf s i).map (·.value) } := by
  obtain ⟨u, -, ha, -, he⟩ := composeDemand_handsOn i s
  rw [he]
  split
  · simp only [ha]
  · simp only [newDemand_idle i _ u (ha ▸ ht) (ha ▸ hh), State.onActuator_actuators, upd_same, ha]

/-! ### Every stand's demand (R100) -/

/-- Stop Tracking ends every demand and clears every freeze, and each target that came of a demand goes
(R100). -/
theorem stopDemands_at (s : State) (i : Stand) :
    (stopDemands s).demands[i] =
        { s.demands[i] with demand := none, limited := false, freeze := none } ∧
      (stopDemands s).actuators[i] = { s.actuators[i] with
        t := if s.demands[i].demand.isSome then none else s.actuators[i].t } := by
  obtain ⟨u, hu, hl⟩ := foldl_stands_at
    (fun s i => (endDemand i s).onDemand i fun d => { d with freeze := none })
    (fun s => (s.demands[i], s.actuators[i])) i
    (fun s j hj => by
      simp only [endDemand_eq, State.onDemand_demands, State.onActuator_demands,
        State.onDemand_actuators, State.onActuator_actuators, upd_at, if_neg (Ne.symm hj)]) s
  obtain ⟨hd, ha⟩ := Prod.mk.inj hu
  have hl' : ((stopDemands s).demands[i], (stopDemands s).actuators[i]) = _ := hl
  simp only [endDemand_eq, State.onDemand_demands, State.onActuator_demands,
    State.onDemand_actuators, State.onActuator_actuators, upd_same, hd, ha] at hl'
  exact Prod.mk.inj hl'

/-- Start Tracking's terms and freezes cleared for every stand (R100). -/
def clearTerms (s : State) : State :=
  allStands.foldl (fun s i => s.onDemand i fun d => { d with ff := 0, trim := 0, freeze := none }) s

theorem startDemands_eq (s : State) :
    startDemands s = allStands.foldl (fun s i => composeDemand i s) (clearTerms s) := rfl

theorem clearTerms_demands (s : State) (i : Stand) :
    (clearTerms s).demands[i] = { s.demands[i] with ff := 0, trim := 0, freeze := none } := by
  obtain ⟨u, hu, hl⟩ := foldl_stands_at
    (fun s i => s.onDemand i fun d => { d with ff := 0, trim := 0, freeze := none })
    (fun s => s.demands[i]) i (fun s j hj => upd_other _ _ _ _ (Ne.symm hj)) s
  rw [clearTerms, hl, State.onDemand_demands, upd_same, hu]

/-- Nothing but the Gap Demand Unit's fields is changed. -/
theorem clearTerms_kept {α : Type} (V : State → α) (h : ∀ s i f, V (s.onDemand i f) = V s)
    (s : State) : V (clearTerms s) = V s :=
  foldl_keeps _ V allStands (fun s i _ => h s i _) s

/-- Start Tracking recomposes every demand from the offset alone, and takes the new ones into the targets
(R100, R110). -/
theorem startDemands_at (s : State) (i : Stand) : ∃ lim : Bool,
    (startDemands s).demands[i] = { s.demands[i] with
      ff := 0, trim := 0, freeze := none, demand := demandOf (clearTerms s) i, limited := lim } ∧
    (s.actuators[i].state ≠ .travel → s.actuators[i].state ≠ .hold →
      (startDemands s).actuators[i] = { s.actuators[i] with
        t := if s.demands[i].demand.map (·.value) = (demandOf (clearTerms s) i).map (·.value)
          then s.actuators[i].t else (demandOf (clearTerms s) i).map (·.value) }) := by
  obtain ⟨u, hu, hl⟩ := foldl_stands_at (fun s i => composeDemand i s)
    (fun s => (s.stands, s.store, s.demands[i], s.actuators[i])) i
    (fun s j hj => by
      obtain ⟨lim, hd⟩ := composeDemand_demands j s
      simp only [composeDemand_frame, hd, upd_at, if_neg (Ne.symm hj),
        (retargets_composeDemand j s).others i (Ne.symm hj)]) (clearTerms s)
  rw [← startDemands_eq] at hl
  simp only [Prod.mk.injEq] at hu hl
  obtain ⟨hstands, hstore, hd, ha⟩ := hu
  obtain ⟨-, -, hld, hla⟩ := hl
  have hdem : demandOf u i = demandOf (clearTerms s) i := by
    simp only [demandOf, demandSum, hstands, hstore, hd]
  rw [clearTerms_demands] at hd
  rw [clearTerms_kept (·.actuators[i]) fun _ _ _ => rfl] at ha
  obtain ⟨lim, hc⟩ := composeDemand_demands i u
  refine ⟨lim, ?_, fun ht hh => ?_⟩
  · rw [hld]
    simp only [hc, upd_same, hd, hdem]
  · rw [hla, composeDemand_target i u (ha ▸ ht) (ha ▸ hh)]
    simp only [hd, hdem, ha]

/-! ### The gauges (R50, R61) -/

/-- A gauge's record but for the placing of its standardisation. -/
def unplaced (r : GaugeRecord) : GaugeRecord := { r with phase := .none, inFlight := false }

/-- What two records that agree but for the placing share. -/
theorem of_unplaced_eq {r q : GaugeRecord} (h : unplaced r = unplaced q) :
    r.discarded = q.discarded ∧ r.length = q.length ∧ r.mode = q.mode := by
  simp only [unplaced, GaugeRecord.mk.injEq] at h
  simp only [h, and_self]

/-- The placing and withdrawal tests move only the placing of a standardisation (R61). -/
theorem gaugeTests_unplaced (p q : Gauge) (s : State) :
    unplaced (gaugeTests p s).gauges[q] = unplaced s.gauges[q] := by
  have placing (f : GaugeRecord → GaugeRecord) (hf : ∀ r, unplaced (f r) = unplaced r) :
      unplaced (s.onGauge p f).gauges[q] = unplaced s.gauges[q] := by
    rw [State.onGauge_gauges, upd_at]
    split
    · exact hf _
    · rfl
  unfold gaugeTests
  dsimp only
  split
  · rfl
  · split
    · exact placing _ fun _ => rfl
    · split
      · exact placing _ fun _ => rfl
      · rfl

theorem allGaugeTests_unplaced (s : State) (q : Gauge) :
    unplaced (allGaugeTests s).gauges[q] = unplaced s.gauges[q] :=
  foldl_keeps (fun s p => gaugeTests p s) (fun u => unplaced u.gauges[q]) allGauges
    (fun u p _ => gaugeTests_unplaced p q u) s

theorem startGauges_at (s : State) (q : Gauge) :
    (startGauges s).gauges[q] = { s.gauges[q] with discarded := 0 } := by
  obtain ⟨u, hu, hl⟩ := foldl_at (fun s p => s.onGauge p fun r => { r with discarded := 0 })
    (fun s => s.gauges[q]) q (fun s p hp => upd_other _ _ _ _ (Ne.symm hp)) allGauges (by decide)
    (mem_allGauges q) s
  rw [startGauges, hl, State.onGauge_gauges, upd_same, hu]

/-! ### The Product Store (R80, R81) -/

/-- Stand `i` works to a product where it is at most N (R81). -/
def activate (p : Product) (s : State) (i : Stand) : State :=
  if withinN s i then s.onStore fun t => { t with active := upd t.active i fun _ => some p } else s

theorem startProducts_eq (p : Product) (s : State) : startProducts p s =
    allStands.foldl (activate p) (s.onStore fun t => { t with threading := some p }) := rfl

theorem activate_store (p : Product) (s : State) (i : Stand) :
    (activate p s i).store = { s.store with active := (activate p s i).store.active } := by
  unfold activate
  split <;> rfl

theorem activate_mill (p : Product) (s : State) (i : Stand) : (activate p s i).mill = s.mill := by
  unfold activate
  split <;> rfl

theorem activate_active (p : Product) (s : State) (i j : Stand) : (activate p s i).store.active[j] =
    if j = i ∧ j.val + 1 ≤ s.mill.n then some p else s.store.active[j] := by
  by_cases e : j = i
  · subst e
    have hw : withinN s j = true ↔ j.val + 1 ≤ s.mill.n := decide_eq_true_iff
    by_cases hN : j.val + 1 ≤ s.mill.n
    · rw [if_pos ⟨rfl, hN⟩]
      simp only [activate, if_pos (hw.mpr hN), State.onStore_store, upd_same]
    · rw [if_neg fun h => hN h.2]
      simp only [activate, if_neg (mt hw.mp hN)]
  · rw [if_neg fun h => e h.1]
    unfold activate
    split
    · exact upd_other _ _ _ _ e
    · rfl

/-- Start Tracking writes the threading and the active products, and no more of the store. -/
theorem startProducts_store (p : Product) (s : State) :
    (startProducts p s).store.table = s.store.table ∧
      (startProducts p s).store.coils = s.store.coils ∧
      (startProducts p s).store.threading = some p := by
  have h := foldl_keeps (activate p)
    (fun u => (u.store.table, u.store.coils, u.store.threading)) allStands
    (fun u i _ => by rw [activate_store p u i]) (s.onStore fun t => { t with threading := some p })
  simpa only [← startProducts_eq, Prod.mk.injEq, State.onStore_store] using h

theorem startProducts_active (p : Product) (s : State) (i : Stand) :
    (startProducts p s).store.active[i] =
      if i.val + 1 ≤ s.mill.n then some p else s.store.active[i] := by
  obtain ⟨u, hu, hl⟩ := foldl_stands_at (activate p) (fun s => (s.mill, s.store.active[i])) i
    (fun s j hj => by
      simp only [activate_mill, activate_active, if_neg fun h : i = j ∧ _ => hj h.1.symm])
    (s.onStore fun t => { t with threading := some p })
  simp only [← startProducts_eq, Prod.mk.injEq, activate_active, true_and] at hu hl
  obtain ⟨hmill, hact⟩ := hu
  rw [hl.2, hmill, hact]
  rfl

/-! ### Start Tracking (R40) -/

/-- After a pass that builds no GAP_OPEN, on a link and a stop that are as they were, a settled state is
settled (R173). -/
theorem settled_mono (s t : State) (hl : t.link = s.link) (ht : t.trips = s.trips)
    (ho : ∀ i, openFilled t i = true → openFilled s i = true) (h : Settled s) : Settled t := by
  intro f hf hn
  rw [hl] at hf
  have hs := h f hf hn
  simp only [urgentFilled, stopFilled, stopOnLink, Bool.or_eq_false_iff, List.any_eq_false, hl, ht]
    at hs ⊢
  exact ⟨hs.1, fun i hi => fun hc => hs.2 i hi (ho i hc)⟩

/-- Composing the demands builds no GAP_OPEN. -/
theorem startDemands_openFilled (s : State) (i : Stand) (h : openFilled (startDemands s) i = true) :
    openFilled s i = true := by
  have hc : (clearTerms s).actuators = s.actuators := clearTerms_kept (·.actuators) (fun _ _ _ => rfl) s
  rw [startDemands_eq] at h
  have hfold : ∀ (l : List Stand) (u : State),
      openFilled (l.foldl (fun s i => composeDemand i s) u) i = true → openFilled u i = true := by
    intro l
    induction l with
    | nil => exact fun _ => id
    | cons j l ih => exact fun u hu => (retargets_composeDemand j u).openFilled_mono i (ih _ hu)
  simpa only [openFilled, hc] using hfold allStands (clearTerms s) h

/-- The state of Start Tracking in which the demands are composed. -/
def startBase (p : Product) (coil : BitVec 32) (s : State) : State :=
  startProducts p (startGauges (openRun p coil s))

theorem startEffect_eq (p : Product) (coil : BitVec 32) (s : State) :
    startEffect p coil s = allGaugeTests (startDemands (startBase p coil s)) := rfl

/-- What Start Tracking leaves alone before the demands are composed. -/
theorem startBase_frame (p : Product) (coil : BitVec 32) (s : State) :
    (startBase p coil s).mill = s.mill ∧ (startBase p coil s).stands = s.stands ∧
      (startBase p coil s).demands = s.demands ∧ (startBase p coil s).actuators = s.actuators ∧
      (startBase p coil s).trips = s.trips ∧ (startBase p coil s).nodes = s.nodes ∧
      (startBase p coil s).link = s.link ∧ (startBase p coil s).host = s.host := by
  simp [startBase, openRun]

theorem settled_startEffect (p : Product) (coil : BitVec 32) (s : State) (h : Settled s) :
    Settled (startEffect p coil s) := by
  obtain ⟨-, -, -, ha, -⟩ := startBase_frame p coil s
  refine settled_mono s _ (by simp) (by simp) (fun i hi => ?_) h
  rw [startEffect_eq, openFilled_congr (startDemands (startBase p coil s)) _ i (by simp)] at hi
  rw [← openFilled_congr s _ i ha]
  exact startDemands_openFilled _ i hi

/-- The run an accepted Start Tracking opens, from an empty queue (R40, R21). -/
theorem startEffect_track (p : Product) (coil : BitVec 32) (s : State) (hq : s.track.queue = []) :
    (startEffect p coil s).track =
      { mode := .threading, odo := Vector.replicate 6 0,
        forming := some
          { stamp := 0, coil := coil, product := p, headEnd := true, weld := false,
            extended := false, sum := 0, count := 0, pendingWeld := none },
        queue := [], nextSerial := 1, cobble := none, poolFull := false } := by
  simp [startEffect, openRun, freshForming, hq]

/-- The store of an accepted Start Tracking but for its active products (R80). -/
theorem startBase_store (p : Product) (coil : BitVec 32) (s : State) :
    (startBase p coil s).store.table = s.store.table ∧
      (startBase p coil s).store.coils = s.store.coils ∧
      (startBase p coil s).store.threading = some p := by
  simp [startBase, startProducts_store, openRun]

theorem startEffect_store (p : Product) (coil : BitVec 32) (s : State) :
    (startEffect p coil s).store = (startBase p coil s).store := by
  simp [startEffect_eq]

/-- Stands 1 to N work to the threading product, the others to what they worked to (R81). -/
theorem startBase_active (p : Product) (coil : BitVec 32) (s : State) (i : Stand) :
    (startBase p coil s).store.active[i] =
      if i.val + 1 ≤ s.mill.n then some p else s.store.active[i] := by
  simp only [startBase, startProducts_active, startGauges_frame]
  rfl

/-- The demand of a stand at the start of tracking product `p`: from the offset alone, at each configured
stand up to N (R89, R100). -/
def startDemand (p : Product) (s : State) (i : Stand) : Option DemandValue :=
  let sum := s.store.table[p].sSet[i] + s.demands[i].offset
  if s.stands[i].configured = true ∧ i.val + 1 ≤ s.mill.n then
    some ⟨clampTo s.stands[i].gapMin s.stands[i].gapMax sum, sum⟩ else none

theorem demandOf_startBase (p : Product) (coil : BitVec 32) (s : State) (i : Stand)
    (hactive : s.store.active[i] = none) :
    demandOf (clearTerms (startBase p coil s)) i = startDemand p s i := by
  obtain ⟨-, hstands, hdemands, -⟩ := startBase_frame p coil s
  have htable := (startBase_store p coil s).1
  simp only [demandOf, demandSum, startDemand, clearTerms_demands,
    clearTerms_kept (·.stands) fun _ _ _ => rfl, clearTerms_kept (·.store) fun _ _ _ => rfl,
    startBase_active, hstands, hdemands, htable, hactive, add_zero, ite_and,
    apply_ite (Option.map _), Option.map_some, Option.map_none]

/-- The demand and the sequencer's fields of a stand after an accepted Start Tracking, as they read the
demand composed (R100, R110). -/
theorem startEffect_at (p : Product) (coil : BitVec 32) (s : State) (i : Stand)
    (hactive : s.store.active[i] = none) : ∃ lim : Bool,
    (startEffect p coil s).demands[i] = { s.demands[i] with
      ff := 0, trim := 0, freeze := none, demand := startDemand p s i, limited := lim } ∧
    (s.actuators[i].state ≠ .travel → s.actuators[i].state ≠ .hold →
      (startEffect p coil s).actuators[i] = { s.actuators[i] with
        t := if s.demands[i].demand.map (·.value) = (startDemand p s i).map (·.value)
          then s.actuators[i].t else (startDemand p s i).map (·.value) }) := by
  obtain ⟨-, -, hdemands, hactuators, -⟩ := startBase_frame p coil s
  have h := startDemands_at (startBase p coil s) i
  simpa only [startEffect_eq, allGaugeTests_frame, hdemands, hactuators,
    demandOf_startBase p coil s i hactive] using h

/-- The gauges after an accepted Start Tracking: the discarded counts are 0 (R50). -/
theorem startEffect_gauges (p : Product) (coil : BitVec 32) (s : State) (g : Gauge) :
    unplaced (startEffect p coil s).gauges[g] = unplaced { s.gauges[g] with discarded := 0 } := by
  rw [startEffect_eq, allGaugeTests_unplaced]
  simp only [startDemands_frame, startBase, startProducts_frame, startGauges_at]
  rfl

/-- The index 0 to 15 of a product names it (R69). -/
theorem productOfIndex_eq_some (b : Byte) (p : Product) (h : b.toNat = p.val) :
    productOfIndex b = some p := by
  have := p.isLt
  rw [productOfIndex, dif_pos (by omega)]
  simp [h]

theorem serveStart_notConfigured (b : Byte) (coil : BitVec 32) (s : State)
    (h : s.mill.configured = false) : serveStart b coil s = (s, ⟨.notConfigured, []⟩) :=
  if_pos (by simp [h])

section
variable (b : Byte) (coil : BitVec 32) (s : State) (hc : s.mill.configured = true)
include hc

theorem serveStart_tracking (hmode : s.track.mode ≠ .stopped) :
    serveStart b coil s = (s, ⟨.state, []⟩) := by
  simp only [serveStart, hc, not_true, if_false, if_pos hmode]
  rfl

variable (hmode : s.track.mode = .stopped)
include hmode

theorem serveStart_noProduct (hb : 15 < b.toNat) :
    serveStart b coil s = (s, ⟨.badParam, [0]⟩) := by
  have hp : productOfIndex b = none := dif_neg (by omega)
  simp only [serveStart, hc, not_true, if_false, hmode, ne_eq, hp]
  rfl

theorem serveStart_product (p : Product) (hp : b.toNat = p.val) : serveStart b coil s =
    if s.store.table[p].loaded = true then (startEffect p coil s, ⟨.ok, []⟩)
    else (s, ⟨.badProduct, []⟩) := by
  simp only [serveStart, hc, not_true, if_false, hmode, ne_eq, productOfIndex_eq_some b p hp]
  rfl
end

/-! ### Stop Tracking (R41) -/

theorem any_standEngaged_iff (s : State) : allStands.any (standEngaged s) = true ↔
    ∃ i : Stand, s.stands[i].configured = true ∧
      (s.actuators[i].state = .hold ∨ s.actuators[i].state = .travel ∨
        s.actuators[i].state = .settle) := by
  simp only [List.any_eq_true, mem_allStands, true_and, standEngaged, engaged, Bool.and_eq_true,
    decide_eq_true_eq]
  exact exists_congr fun i => and_congr_right fun _ => by tauto

/-- The demand and the sequencer's fields of a stand after an accepted Stop Tracking (R100). -/
theorem stopEffect_at (s : State) (i : Stand) :
    (stopEffect s).demands[i] =
        { s.demands[i] with demand := none, limited := false, freeze := none } ∧
      (stopEffect s).actuators[i] = { s.actuators[i] with
        t := if s.demands[i].demand.isSome then none else s.actuators[i].t } := by
  have h := stopDemands_at (stopProducts (closeRun s)) i
  simpa only [stopEffect, allGaugeTests_frame, stopProducts_frame, closeRun,
    State.onTrack_demands, State.onTrack_actuators] using h

theorem settled_stopEffect (s : State) (h : Settled s) : Settled (stopEffect s) :=
  (settled_congr s _ (by simp) (by simp) (by simp) fun i => by rw [(stopEffect_at s i).2]).mpr h

theorem stopEffect_gauges (s : State) (g : Gauge) :
    unplaced (stopEffect s).gauges[g] = unplaced s.gauges[g] := by
  rw [stopEffect, allGaugeTests_unplaced]
  simp only [stopDemands_frame, stopProducts_frame, closeRun, State.onTrack_gauges]

/-! ### A request served whole -/

/-- A frame whose request leads to a settled state: the next state is that one with the reply on the
line. -/
theorem frameOf_settled (tag : Byte) (r : Request) (s u : State) (res : Result) (h : Ready s)
    (hu : Settled u) (hs : serve r (taken tag r s) = (u, res)) :
    frameOf tag r s = .next (u.onHost fun p =>
      { p with reply := some ⟨tag, requestCode r, resultByte res.code, res.payload⟩ }) := by
  rw [frameOf, whileRunning_running _ _ h.runs, submit_ready _ _ _ h.noneInHand, hs,
    abandon_of_settled _ hu]
  exact congrArg _ (abandon_of_settled _ ((settled_congr u _ rfl rfl rfl fun _ => rfl).mpr hu))

end Sys2Proof.Machine
end

section
/-! The statements about tracking requests. -/

open Sys2Proof Sys2Proof.Machine

/-- Settles O32: R41's cases in order; an accepted Stop Tracking is read unit by unit from `stopEffect`. -/
theorem stopTrackingEndsRun : Obligations.StopTrackingEndsRun := by
  intro tag s h
  refine ⟨fun hb => ?_, fun hb hmode => ?_, fun hb hmode => ?_⟩
  · exact frameOf_unchanged _ _ _ _ s h (if_pos ((any_standEngaged_iff _).mpr hb))
  · exact frameOf_unchanged _ _ _ _ s h
      ((if_neg (mt (any_standEngaged_iff _).mp hb)).trans (if_pos hmode))
  · have hserve : serve .stopTracking (taken tag .stopTracking s) =
        (stopEffect (taken tag .stopTracking s), ⟨.ok, []⟩) :=
      (if_neg (mt (any_standEngaged_iff _).mp hb)).trans (if_neg hmode)
    have hset : Settled (stopEffect (taken tag .stopTracking s)) :=
      settled_stopEffect _ ((settled_taken tag _ s).mpr h.settled)
    have hat := stopEffect_at (taken tag .stopTracking s)
    have hg := fun g => of_unplaced_eq (stopEffect_gauges (taken tag .stopTracking s) g)
    refine ⟨_, frameOf_settled tag .stopTracking s _ _ h hset hserve, rfl, ?_, ?_, ?_, ?_, ?_, ?_⟩
    · simp [stopEffect, closeRun, taken]
    · simp [stopEffect, stopProducts, closeRun, taken]
    · simp only [State.onHost_demands]
      exact fun i => (hat i).1
    · simp only [State.onHost_actuators]
      exact fun i _ _ => (hat i).2
    · simp only [State.onHost_gauges]
      exact fun g => (hg g).2
    · simp [taken]

/-- Settles O31: R40's refusals in order; an accepted Start Tracking is read unit by unit from
`startEffect`, where RunSound gives the empty queue and the empty active products of STOPPED. -/
theorem startTrackingOpensRun : Obligations.StartTrackingOpensRun := by
  intro tag b coil s h
  refine ⟨fun hc => ?_, fun hc hmode => ?_, fun hc hmode =>
    ⟨fun hb => ?_, fun p hp => ⟨fun hempty => ?_, fun hloaded hrun => ?_⟩⟩⟩
  · exact frameOf_unchanged _ _ _ _ s h (serveStart_notConfigured b coil (taken tag _ s) hc)
  · exact frameOf_unchanged _ _ _ _ s h (serveStart_tracking b coil (taken tag _ s) hc hmode)
  · exact frameOf_unchanged _ _ _ _ s h (serveStart_noProduct b coil (taken tag _ s) hc hmode hb)
  · exact frameOf_unchanged _ _ _ _ s h
      ((serveStart_product b coil (taken tag _ s) hc hmode p hp).trans
        (if_neg (Bool.eq_false_iff.mp hempty)))
  · obtain ⟨-, hqueue, -, -, hactive⟩ := hrun.stopped hmode
    have hserve := (serveStart_product b coil (taken tag (.startTracking b coil) s) hc hmode p hp).trans
      (if_pos hloaded)
    have hset := settled_startEffect p coil _
      ((settled_taken tag (.startTracking b coil) s).mpr h.settled)
    obtain ⟨htable, hcoils, hthreading⟩ :=
      startBase_store p coil (taken tag (.startTracking b coil) s)
    refine ⟨_, frameOf_settled tag (.startTracking b coil) s _ _ h hset hserve, rfl, ?_, ?_, ?_, ?_,
      fun i => ?_, fun i => ?_, fun i ht hh => ?_, fun g => ?_, ?_⟩
    · simp only [State.onHost_track]
      exact startEffect_track p coil (taken tag _ s) hqueue
    · simp only [State.onHost_store, startEffect_store, hthreading]
    · simp only [State.onHost_store, startEffect_store, hcoils]
      rfl
    · simp only [State.onHost_store, startEffect_store, htable]
      rfl
    · simp only [State.onHost_store, startEffect_store, startBase_active]
      exact if_congr Iff.rfl rfl (hactive i)
    · obtain ⟨lim, hd, -⟩ := startEffect_at p coil (taken tag (.startTracking b coil) s) i (hactive i)
      simp only [State.onHost_demands, hd]
      exact ⟨trivial, trivial, trivial, rfl, rfl⟩
    · obtain ⟨lim, hd, ha⟩ := startEffect_at p coil (taken tag (.startTracking b coil) s) i (hactive i)
      simp only [State.onHost_demands, State.onHost_actuators, ha ht hh]
      refine ⟨rfl, fun d hnone hsome => ?_⟩
      have hno : (taken tag (.startTracking b coil) s).demands[i].demand = none := hnone
      simp only [hd] at hsome
      simp only [hno, hsome, Option.map_none, Option.map_some, reduceCtorEq, if_false]
    · simp only [State.onHost_gauges]
      exact of_unplaced_eq (startEffect_gauges p coil (taken tag _ s) g)
    · simp [taken]
end

section
/-! SUPPORT. Standardize Gauge (R65): the placing and withdrawal tests as a change of the gauge's record, and
what an order of the host leaves in it. -/

namespace Sys2Proof.Machine

/-! ### Changes of one gauge's record -/

/-- Two changes of one place are the change that makes both. -/
theorem upd_upd {α : Type} {n : Nat} (v : Vector α n) (i : Fin n) (f g : α → α) :
    upd (upd v i f) i g = upd v i (g ∘ f) := by
  simp [upd]

theorem onGauge_onGauge (s : State) (p : Gauge) (f g : GaugeRecord → GaugeRecord) :
    (s.onGauge p f).onGauge p g = s.onGauge p (g ∘ f) := by
  simp only [State.onGauge, upd_upd]

/-- Changes that agree on the record found make the same state. -/
theorem onGauge_congr (s : State) (p : Gauge) (f g : GaugeRecord → GaugeRecord)
    (h : f s.gauges[p] = g s.gauges[p]) : s.onGauge p f = s.onGauge p g := by
  simp only [State.onGauge, upd, h]

theorem onGauge_id (s : State) (p : Gauge) : s.onGauge p id = s := by
  simp [State.onGauge, upd]

/-- A gauge's record is no part of what a settled state speaks of. -/
theorem settled_onGauge (p : Gauge) (f : GaugeRecord → GaugeRecord) (s : State) :
    Settled (s.onGauge p f) ↔ Settled s :=
  settled_congr _ _ rfl rfl rfl fun _ => rfl

/-! ### The placing and withdrawal tests (R61) -/

/-- The record of an installed gauge after the placing test and the withdrawal test, where `near` says
that a weld defers a standardisation the host did not order (R60, R61). -/
def testedRecord (near : Bool) (r : GaugeRecord) : GaugeRecord :=
  if r.phase = .waiting ∧ r.holdOff = false ∧ r.mode = .measuring ∧
      (r.source = .host ∨ near = false) then { r with phase := .placed, inFlight := false }
  else if r.phase = .placed ∧ r.inFlight = false ∧
      (r.mode ≠ .measuring ∨ (r.source = .length ∧ near = true)) then { r with phase := .waiting }
  else r

theorem gaugeTests_installed (p : Gauge) (s : State) (h : s.gauges[p].installed = true) :
    gaugeTests p s = s.onGauge p (testedRecord (deferred s p)) := by
  simp only [gaugeTests, h, not_true, if_false, Bool.not_eq_true]
  split
  case isTrue hplace => exact onGauge_congr _ _ _ _ (if_pos hplace).symm
  case isFalse hplace =>
    split
    case isTrue hdraw => exact onGauge_congr _ _ _ _ ((if_neg hplace).trans (if_pos hdraw)).symm
    case isFalse hdraw =>
      calc s = s.onGauge p id := (onGauge_id s p).symm
        _ = _ := onGauge_congr _ _ _ _ ((if_neg hplace).trans (if_neg hdraw)).symm

/-! ### An order of the host (R58, R59, R65) -/

/-- The record of a gauge whose standardisation the host orders, before the tests of R61. -/
def orderedRecord (r : GaugeRecord) : GaugeRecord :=
  { r with
    holdOff := false
    phase := if r.phase = .none then .waiting else r.phase
    source := if r.phase = .accepted ∨ r.phase = .running then r.source else .host }

/-- The record an accepted Standardize Gauge leaves, phase by phase: a gauge that has undertaken to
standardise loses its hold-off alone; an order in the slot stays there while it is on the link or the
gauge measures; and an order not yet placed is placed where the gauge measures. -/
def standardizedRecord (r : GaugeRecord) : GaugeRecord :=
  match r.phase with
  | .accepted | .running => { r with holdOff := false }
  | .placed =>
    { r with
      holdOff := false
      source := .host
      phase := if r.inFlight = true ∨ r.mode = .measuring then .placed else .waiting }
  | .none | .waiting =>
    { r with
      holdOff := false
      source := .host
      phase := if r.mode = .measuring then .placed else .waiting
      inFlight := r.inFlight && !decide (r.mode = .measuring) }

/-- No weld defers what the host ordered, so the tests' answer does not turn on one (R58). -/
theorem testedRecord_orderedRecord (near : Bool) (r : GaugeRecord) :
    testedRecord near (orderedRecord r) = standardizedRecord r := by
  cases hph : r.phase with
  | accepted | running => simp [testedRecord, orderedRecord, standardizedRecord, hph]
  | placed =>
    by_cases hstay : r.inFlight = true ∨ r.mode = .measuring
    · rcases hstay with h | h <;>
        simp [testedRecord, orderedRecord, standardizedRecord, hph, h]
    · obtain ⟨hfree, hm⟩ := not_or.mp hstay
      simp [testedRecord, orderedRecord, standardizedRecord, hph, hfree, hm]
  | none | waiting =>
    by_cases hm : r.mode = .measuring <;>
      simp [testedRecord, orderedRecord, standardizedRecord, hph, hm]

theorem orderStd_eq (p : Gauge) (s : State) (h : s.gauges[p].installed = true) :
    orderStd p s = s.onGauge p standardizedRecord := by
  have hin : (s.onGauge p orderedRecord).gauges[p].installed = true := by
    rw [State.onGauge_gauges, upd_same]
    exact h
  calc orderStd p s = gaugeTests p (s.onGauge p orderedRecord) := rfl
    _ = s.onGauge p (testedRecord _ ∘ orderedRecord) := by
      rw [gaugeTests_installed _ _ hin, onGauge_onGauge]
    _ = s.onGauge p standardizedRecord :=
      onGauge_congr _ _ _ _ (testedRecord_orderedRecord _ _)

theorem serveStandardize_noGauge (b : Byte) (s : State) (h : 5 < b.toNat) :
    serveStandardize b s = (s, ⟨.badParam, [0]⟩) := by
  have hp : gaugeOfCode b = none := dif_neg (by omega)
  simp only [serveStandardize, hp]
  rfl

section
variable (b : Byte) (s : State) (p : Gauge) (hp : b.toNat = p.val)
include hp

theorem serveStandardize_notInstalled (hin : s.gauges[p].installed = false) :
    serveStandardize b s = (s, ⟨.notConfigured, []⟩) := by
  simp only [serveStandardize, gaugeOfCode_eq_some b p hp, hin]
  rfl

variable (hin : s.gauges[p].installed = true)
include hin

theorem serveStandardize_absent (hm : s.gauges[p].mode = .absent) :
    serveStandardize b s = (s, ⟨.nodeAbsent, []⟩) := by
  simp only [serveStandardize, gaugeOfCode_eq_some b p hp, hin, not_true, if_false, if_pos hm]
  rfl

theorem serveStandardize_accepts (hm : s.gauges[p].mode ≠ .absent) :
    serveStandardize b s = (s.onGauge p standardizedRecord, ⟨.ok, []⟩) := by
  simp only [serveStandardize, gaugeOfCode_eq_some b p hp, hin, not_true, if_false, if_neg hm,
    orderStd_eq p s hin]
  rfl
end

end Sys2Proof.Machine
end

section
/-! The statement about Standardize Gauge. -/

open Sys2Proof Sys2Proof.Machine

/-- Settles O43: R65's refusals in order; an accepted order leaves the record `standardizedRecord`, read
phase by phase. -/
theorem standardizeOrder : Obligations.StandardizeOrder := by
  intro tag b s h
  refine ⟨fun hb => ?_, fun p hp => ⟨fun hout => ?_, fun hin hm => ?_, fun hin hm => ?_⟩⟩
  · exact frameOf_unchanged _ _ _ _ s h (serveStandardize_noGauge b (taken tag _ s) hb)
  · exact frameOf_unchanged _ _ _ _ s h
      (serveStandardize_notInstalled b (taken tag _ s) p hp hout)
  · exact frameOf_unchanged _ _ _ _ s h (serveStandardize_absent b (taken tag _ s) p hp hin hm)
  · rw [onGauge_congr s p _ standardizedRecord]
    · exact frameOf_answered tag (.standardizeGauge b) .ok [] s (s.onGauge p standardizedRecord) h
        ((settled_onGauge p _ s).mpr h.settled)
        (serveStandardize_accepts b (taken tag _ s) p hp hin hm)
    · cases hph : s.gauges[p].phase <;> simp only [standardizedRecord, hph]
end

section
/-! SUPPORT. The requests of the Product Store (R72, R73, R76, R77): the state of an entry by its count, what
a change of the coil list does to the counts, and the four requests' tests in order. -/

namespace Sys2Proof.Machine

/-- An index above 15 names no product (R69). -/
theorem productOfIndex_eq_none (b : Byte) (h : 15 < b.toNat) : productOfIndex b = none :=
  dif_neg (by omega)

/-- The product store is no part of what a settled state speaks of. -/
theorem settled_onStore (f : Store → Store) (s : State) : Settled (s.onStore f) ↔ Settled s :=
  settled_congr _ _ rfl rfl rfl fun _ => rfl

/-! ### Entry states and reference counts (R70) -/

section
variable (s : State) (p : Product)

theorem entryState_eq_inUse_iff :
    s.entryState p = .inUse ↔ s.store.table[p].loaded = true ∧ s.refCount p ≠ 0 := by
  cases hl : s.store.table[p].loaded with
  | false => simp [State.entryState, hl, -Fin.getElem_fin]
  | true => by_cases hr : s.refCount p = 0 <;> simp [State.entryState, hl, hr, -Fin.getElem_fin]

/-- An entry that is empty, or that no holder names, is not IN_USE. -/
theorem entryState_ne_inUse (hfree : s.store.table[p].loaded = false ∨ s.refCount p = 0) :
    s.entryState p ≠ .inUse := fun he => by
  obtain ⟨hl, hr⟩ := (entryState_eq_inUse_iff s p).mp he
  exact hfree.elim (Bool.eq_false_iff.mp · hl) hr

theorem entryState_loaded (hl : s.store.table[p].loaded = true) (hr : s.refCount p = 0) :
    s.entryState p = .loaded :=
  (if_pos hl).trans (if_pos hr)

theorem entryState_empty (hl : s.store.table[p].loaded = false) : s.entryState p = .empty :=
  if_neg (Bool.eq_false_iff.mp hl)

/-- A new coil list changes a reference count by the entries that name the product, and by no more. -/
theorem refCount_onStore_coils (l : List Coil) :
    (s.onStore fun t => { t with coils := l }).refCount p + coilRefs s p =
      s.refCount p + l.countP fun c => decide (c.product = p) := by
  have hu : (s.onStore fun t => { t with coils := l }).refCount p =
      cellRefs s p + bit (formingNames s p) 1 + bit (pendingNames s p) 1 + activeRefs s p +
        l.countP (fun c => decide (c.product = p)) +
        bit (decide (s.store.threading = some p)) 1 := rfl
  rw [hu, State.refCount]
  omega

/-- An entry at the tail of the coil list adds one to the count of the product it names (R76). -/
theorem refCount_appendCoil (c : Coil) :
    (s.onStore fun t => { t with coils := t.coils ++ [c] }).refCount p =
      s.refCount p + if c.product = p then 1 else 0 := by
  have h := refCount_onStore_coils s p (s.store.coils ++ [c])
  simp only [List.countP_append, List.countP_singleton, decide_eq_true_eq, coilRefs] at h
  change (s.onStore fun t => { t with coils := s.store.coils ++ [c] }).refCount p = _
  omega

/-- An empty coil list holds no product (R77). -/
theorem refCount_clearCoils : (s.onStore fun t => { t with coils := [] }).refCount p =
    s.refCount p - s.store.coils.countP fun c => decide (c.product = p) := by
  have h := refCount_onStore_coils s p []
  rw [List.countP_nil, Nat.add_zero] at h
  exact Nat.eq_sub_of_add_eq h
end

/-- A number in one byte (R199). -/
theorem be_one (n : Nat) : be 1 n = [BitVec.ofNat 8 n] := by simp [be]

/-! ### Append Coil and Clear Coil List (R76, R77) -/

theorem serveAppend_noProduct (coil : BitVec 32) (b : Byte) (s : State) (h : 15 < b.toNat) :
    serveAppend coil b s = (s, ⟨.badParam, [0]⟩) := by
  rw [serveAppend, productOfIndex_eq_none b h]
  rfl

section
variable (coil : BitVec 32) (b : Byte) (s : State) (p : Product) (hp : b.toNat = p.val)
include hp

theorem serveAppend_empty (hl : s.store.table[p].loaded = false) :
    serveAppend coil b s = (s, ⟨.badProduct, []⟩) := by
  simp only [serveAppend, productOfIndex_eq_some b p hp, hl]
  rfl

variable (hl : s.store.table[p].loaded = true)
include hl

theorem serveAppend_full (hfull : 8 ≤ s.store.coils.length) :
    serveAppend coil b s = (s, ⟨.full, []⟩) := by
  simp only [serveAppend, productOfIndex_eq_some b p hp, hl, not_true, if_false, if_pos hfull]
  rfl

theorem serveAppend_accepts (hroom : s.store.coils.length < 8) : serveAppend coil b s =
    (s.onStore fun t => { t with coils := t.coils ++ [⟨coil, p⟩] },
      ⟨.ok, [BitVec.ofNat 8 (s.store.coils.length + 1)]⟩) := by
  simp only [serveAppend, productOfIndex_eq_some b p hp, hl, not_true, if_false,
    if_neg (Nat.not_le.mpr hroom), be_one]
  rfl
end

theorem serveClearCoils_eq (s : State) : serveClearCoils s =
    (s.onStore fun t => { t with coils := [] }, ⟨.ok, [BitVec.ofNat 8 s.store.coils.length]⟩) := by
  rw [serveClearCoils, be_one]
  rfl

/-! ### Load Product (R72) -/

/-- The setpoints of the five stand groups lie within the gap's range (R72, check 2). -/
def SetpointsInRange (p : ProductParams) : Prop :=
  ∀ g ∈ setups p, -200000 ≤ g.sSet.toInt ∧ g.sSet.toInt ≤ 600000

/-- The gains of the five stand groups are at most 8191 (R72, check 3). -/
def GainsInRange (p : ProductParams) : Prop :=
  ∀ g ∈ setups p, g.kFf.toNat ≤ 8191 ∧ g.kMon.toNat ≤ 8191

/-- The conditions 2 to 4 of R72 by number; each other number holds nothing back. -/
def ProductCheck (p : ProductParams) : Nat → Prop
  | 2 => SetpointsInRange p
  | 3 => GainsInRange p
  | 4 => p.carryTrim.toNat ≤ 1
  | _ => True

/-- The model's checks 2 to 4 are R72's. -/
theorem productChecks_decide (p : ProductParams) : ChecksDecide (productChecks p) (ProductCheck p) where
  ascending := by simp [productChecks]
  correct := by
    simp only [productChecks, List.forall_mem_cons, List.all_eq_true, gapInRange_iff, decide_eq_true_eq]
    exact ⟨Iff.rfl, Iff.rfl, Iff.rfl, fun _ h => absurd h List.not_mem_nil⟩
  complete n hn := by
    unfold ProductCheck
    split <;> simp [productChecks] at hn ⊢

/-- The conditions below a number, from those of R72's three that stand there. -/
theorem productCheck_of_lt (p : ProductParams) (n : Nat) (hs : 2 < n → SetpointsInRange p)
    (hg : 3 < n → GainsInRange p) (hc : 4 < n → p.carryTrim.toNat ≤ 1) (m : Nat) (hm : m < n) :
    ProductCheck p m := by
  unfold ProductCheck
  split
  case h_1 => exact hs hm
  case h_2 => exact hg hm
  case h_3 => exact hc hm
  case h_4 => trivial

theorem serveLoad_noProduct (p : ProductParams) (s : State) (h : 15 < p.index.toNat) :
    serveLoad p s = (s, ⟨.badParam, [1]⟩) := by
  rw [serveLoad, productOfIndex_eq_none _ h]
  rfl

section
variable (p : ProductParams) (s : State) (k : Product) (hk : p.index.toNat = k.val)
include hk

theorem serveLoad_inUse (hl : s.store.table[k].loaded = true) (hr : s.refCount k ≠ 0) :
    serveLoad p s = (s, ⟨.inUse, []⟩) := by
  rw [serveLoad, productOfIndex_eq_some _ k hk]
  exact if_pos ((entryState_eq_inUse_iff s k).mpr ⟨hl, hr⟩)

variable (hfree : s.store.table[k].loaded = false ∨ s.refCount k = 0)
include hfree

theorem serveLoad_fails (n : Nat) (hn : ¬ ProductCheck p n) (hC : ∀ m < n, ProductCheck p m) :
    serveLoad p s = (s, ⟨.badParam, [BitVec.ofNat 8 n]⟩) := by
  simp only [serveLoad, productOfIndex_eq_some _ k hk, if_neg (entryState_ne_inUse s k hfree),
    (productChecks_decide p).firstFailing_some hn hC, badParam_eq]

theorem serveLoad_accepts (hC : ∀ n, ProductCheck p n) :
    serveLoad p s = (writeProduct k (productEntryOf p) s, ⟨.ok, []⟩) := by
  simp only [serveLoad, productOfIndex_eq_some _ k hk, if_neg (entryState_ne_inUse s k hfree),
    (productChecks_decide p).firstFailing_none hC, accept]
end

/-! ### Erase Product (R73) -/

theorem serveErase_noProduct (b : Byte) (s : State) (h : 15 < b.toNat) :
    serveErase b s = (s, ⟨.badParam, [0]⟩) := by
  rw [serveErase, productOfIndex_eq_none b h]
  rfl

section
variable (b : Byte) (s : State) (k : Product) (hk : b.toNat = k.val)
include hk

theorem serveErase_empty (hl : s.store.table[k].loaded = false) :
    serveErase b s = (s, ⟨.ok, []⟩) := by
  simp only [serveErase, productOfIndex_eq_some b k hk, entryState_empty s k hl]
  rfl

variable (hl : s.store.table[k].loaded = true)
include hl

theorem serveErase_inUse (hr : s.refCount k ≠ 0) : serveErase b s = (s, ⟨.inUse, []⟩) := by
  simp only [serveErase, productOfIndex_eq_some b k hk, (entryState_eq_inUse_iff s k).mpr ⟨hl, hr⟩]
  rfl

theorem serveErase_loaded (hr : s.refCount k = 0) :
    serveErase b s = (writeProduct k productReset s, ⟨.ok, []⟩) := by
  simp only [serveErase, productOfIndex_eq_some b k hk, entryState_loaded s k hl hr]
  rfl
end

end Sys2Proof.Machine
end

section
/-! The statement about the requests of the Product Store. -/

open Sys2Proof Sys2Proof.Machine

/-- Settles O44: the tests of R72, R73 and R76 in their order; an accepted request writes one entry of the
table, or the coil list, and the counts follow the list's entries (R70). -/
theorem productStoreRequests : Obligations.ProductStoreRequests := by
  refine ⟨fun tag s h => ⟨fun coil b => ⟨fun hb => ?_, fun p hp => ⟨fun hl => ?_, fun hl hfull => ?_,
      fun hl hroom => ⟨?_, ?_, ?_, fun q hq => ?_⟩⟩⟩, ?_, fun p => ⟨?_, fun hl hr => ?_⟩⟩,
    fun tag s h => ⟨fun p => ⟨fun hb => ?_, fun k hk => ⟨fun hl hr => ?_, fun hfree =>
      ⟨fun hs => ?_, fun hs hg => ?_, fun hs hg hc => ?_, fun hs hg hc => ?_⟩⟩⟩,
      fun b => ⟨fun hb => ?_, fun k hk => ⟨fun hl hr => ?_, fun hl hr => ?_, fun hl => ?_⟩⟩⟩⟩
  · exact frameOf_unchanged _ _ _ _ s h (serveAppend_noProduct coil b (taken tag _ s) hb)
  · exact frameOf_unchanged _ _ _ _ s h (serveAppend_empty coil b (taken tag _ s) p hp hl)
  · exact frameOf_unchanged _ _ _ _ s h (serveAppend_full coil b (taken tag _ s) p hp hl hfull)
  · exact frameOf_answered _ _ _ _ s _ h ((settled_onStore _ s).mpr h.settled)
      (serveAppend_accepts coil b (taken tag _ s) p hp hl hroom)
  · rw [refCount_appendCoil, if_pos rfl]
  · refine (entryState_eq_inUse_iff _ p).mpr ⟨hl, ?_⟩
    rw [refCount_appendCoil, if_pos rfl]
    exact Nat.succ_ne_zero _
  · rw [refCount_appendCoil, if_neg fun e => hq e.symm, Nat.add_zero]
  · exact frameOf_answered _ _ _ _ s _ h ((settled_onStore _ s).mpr h.settled)
      (serveClearCoils_eq (taken tag _ s))
  · exact refCount_clearCoils s p
  · exact entryState_loaded _ p hl hr
  · exact frameOf_unchanged _ _ _ _ s h (serveLoad_noProduct p (taken tag _ s) hb)
  · exact frameOf_unchanged _ _ _ _ s h (serveLoad_inUse p (taken tag _ s) k hk hl hr)
  · exact frameOf_unchanged _ _ _ _ s h (serveLoad_fails p (taken tag _ s) k hk hfree 2 hs
      (productCheck_of_lt p 2 (by omega) (by omega) (by omega)))
  · exact frameOf_unchanged _ _ _ _ s h (serveLoad_fails p (taken tag _ s) k hk hfree 3 hg
      (productCheck_of_lt p 3 (fun _ => hs) (by omega) (by omega)))
  · exact frameOf_unchanged _ _ _ _ s h (serveLoad_fails p (taken tag _ s) k hk hfree 4
      (Nat.not_le.mpr hc) (productCheck_of_lt p 4 (fun _ => hs) (fun _ => hg) (by omega)))
  · exact frameOf_answered _ _ _ _ s (writeProduct k (productEntryOf p) s) h
      ((settled_onStore _ s).mpr h.settled)
      (serveLoad_accepts p (taken tag _ s) k hk hfree fun n =>
        productCheck_of_lt p (n + 1) (fun _ => hs) (fun _ => hg) (fun _ => hc) n n.lt_succ_self)
  · exact frameOf_unchanged _ _ _ _ s h (serveErase_noProduct b (taken tag _ s) hb)
  · exact frameOf_unchanged _ _ _ _ s h (serveErase_inUse b (taken tag _ s) k hk hl hr)
  · exact frameOf_answered _ _ _ _ s (writeProduct k productReset s) h
      ((settled_onStore _ s).mpr h.settled) (serveErase_loaded b (taken tag _ s) k hk hl hr)
  · exact frameOf_unchanged _ _ _ _ s h (serveErase_empty b (taken tag _ s) k hk hl)
end

section
/-! SUPPORT. Open Stand (R125): the stands a selector names, the state an accepted request leaves, and why a
transaction that the new work ends leaves an opened stand alone (R109, R173). -/

namespace Sys2Proof.Machine

/-! ### A transaction cut by urgent work (R109, R173) -/

/-- A command not delivered returns to its own stand; no other stand is touched (R118, R123). -/
theorem takeOutcome_notDelivered_others (i j : Stand) (n : Byte) (s : State) (hj : j ≠ i) :
    (takeOutcome i n .notDelivered s).actuators[j] = s.actuators[j] := by
  have hr (w : Work) : (requeue i w s).actuators[j] = s.actuators[j] := upd_other _ _ _ _ hj
  unfold takeOutcome
  split
  case h_1 => rfl
  case h_2 w _ =>
    split
    case isFalse => rfl
    case isTrue =>
      cases w.cmd with
      | open_ => exact hr w
      | travel | trim =>
        dsimp only
        split
        · exact ((retargets_applyTravel i _).others j hj).trans (hr w)
        · exact ((retargets_applyHold i _).others j hj).trans (hr w)
        · exact hr w

/-- The stand's current work waits in its slot. -/
def Queued (s : State) (i : Stand) : Prop := ∃ w, s.actuators[i].work = some w ∧ w.phase = .queued

/-- An outcome is taken only for work on the link (R109). -/
theorem takeOutcome_queued (i : Stand) (n : Byte) (o : Handed) (s : State) (h : Queued s i) :
    takeOutcome i n o s = s := by
  obtain ⟨w, hw, hq⟩ := h
  simp [takeOutcome, hw, hq, -Fin.getElem_fin]

/-- An abandoned transaction of any item leaves a stand whose work waits as it was. -/
theorem handOn_abandoned_queued (item : Item) (s : State) (i : Stand) (h : Queued s i) :
    (handOn item .abandoned s).actuators[i] = s.actuators[i] := by
  have hgap (j : Stand) (n : Byte) :
      (takeOutcome j n .notDelivered s).actuators[i] = s.actuators[i] := by
    by_cases e : i = j
    · rw [takeOutcome_queued j n _ s (e ▸ h)]
    · exact takeOutcome_notDelivered_others j i n s e
  cases item with
  | stop level counts => rfl
  | gapOpen j n => exact hgap j n
  | gap j cmd n => exact hgap j n
  | standardize p => simp [handOn]

/-- An abandoned transaction is no failure of its target (R159, R173). -/
theorem targetFailures_abandoned (target : Option Node) (s : State) :
    targetFailures .abandoned target s = s := by cases target <;> rfl

theorem abandonForUrgent_queued (s : State) (i : Stand) (h : Queued s i) :
    (abandonForUrgent s).actuators[i] = s.actuators[i] := by
  unfold abandonForUrgent
  split
  · rfl
  · split
    · have hwaits (g : Link → Link) : Queued ((releaseLink s).onLink g) i := by
        simpa [Queued] using h
      simp [endTxn, targetFailures_abandoned, handOn_abandoned_queued _ _ i (hwaits _),
        -Fin.getElem_fin]
    · rfl

/-- What a request's owner leaves at a stand with waiting work stands after the whole event. -/
theorem frameOf_queued (tag : Byte) (r : Request) (s t u : State) (res : Result) (h : Ready s)
    (hs : serve r (taken tag r s) = (u, res)) (ht : frameOf tag r s = .next t) (i : Stand)
    (hq : Queued u i) : t.actuators[i] = u.actuators[i] := by
  have hsub : (submit tag r s).actuators[i] = u.actuators[i] := by
    simp only [submit_ready _ _ _ h.noneInHand, hs, State.onHost_actuators,
      abandonForUrgent_queued u i hq]
  have hwaits : Queued (submit tag r s) i := by rwa [Queued, hsub]
  rw [frameOf, whileRunning_running _ _ h.runs] at ht
  injection ht with ht
  rw [← ht, abandonForUrgent_queued _ i hwaits, hsub]

/-! ### Open Stand (R125) -/

/-- The host opens a stand in every state but OPEN and OPENING. -/
theorem openedByHost_iff (a : ActState) : openedByHost a = true ↔ a ≠ .open_ ∧ a ≠ .opening := by
  cases a <;> decide

/-- An Open Stand changes the sequencer's fields alone. -/
theorem openEffect_eq (is : List Stand) (s : State) :
    openEffect is s = { s with actuators := (openEffect is s).actuators } := by
  have h := openEffect_frame is s
  generalize openEffect is s = t at h ⊢
  cases t
  simp only at h
  simp [h]

/-- The stands a selector names: 0 all five, else the one of its number (R125). -/
def Selects (b : Byte) (is : List Stand) : Prop :=
  (b = 0 ∧ is = [0, 1, 2, 3, 4]) ∨ ∃ i : Stand, b.toNat = i.val + 1 ∧ is = [i]

theorem Selects.nodup {b : Byte} {is : List Stand} (h : Selects b is) : is.Nodup := by
  rcases h with ⟨-, rfl⟩ | ⟨i, -, rfl⟩
  · decide
  · exact List.nodup_singleton i

theorem Selects.selector_le {b : Byte} {is : List Stand} (h : Selects b is) : ¬ 5 < b.toNat := by
  rcases h with ⟨rfl, -⟩ | ⟨i, hi, -⟩
  · decide
  · omega

/-- A selected stand after an accepted Open Stand: opened, or kept in OPEN or OPENING. -/
theorem Selects.openEffect_at {b : Byte} {is : List Stand} (h : Selects b is) (s : State) (i : Stand) :
    (openEffect is s).actuators[i] =
      if i ∈ is ∧ s.actuators[i].state ≠ .open_ ∧ s.actuators[i].state ≠ .opening then openingOf s i
      else s.actuators[i] := by
  simp only [openEffect_actuators is s h.nodup i, openedByHost_iff]

theorem serveOpen_noStand (b : Byte) (s : State) (h : 5 < b.toNat) :
    serveOpen b s = (s, ⟨.badParam, [0]⟩) :=
  (if_pos h).trans (badParam_eq 0 s)

theorem serveOpen_selected (b : Byte) (s : State) (is : List Stand) (h : Selects b is) :
    serveOpen b s = (openEffect is s, ⟨.ok, is.map fun i =>
      BitVec.ofNat 8 (actCode (openEffect is s).actuators[i].state)⟩) := by
  simp only [serveOpen, if_neg h.selector_le, be_one]
  rcases h with ⟨rfl, rfl⟩ | ⟨i, hi, rfl⟩
  · rfl
  · simp only [standOfNumber_eq_some b i hi]
    rfl

end Sys2Proof.Machine
end

section
/-! The statement about Open Stand. -/

open Sys2Proof Sys2Proof.Machine

/-- Settles O47: the selected stands take `openingOf`. Their new work waits in its slot, so a transaction
that it ends hands them nothing (R109), and what the request left there stands. -/
theorem openStandRequest : Obligations.OpenStandRequest := by
  intro tag b s h
  refine ⟨fun hb => ?_, fun is hlink hsel => ?_, fun is hsel => ?_⟩
  · exact frameOf_unchanged _ _ _ _ s h (serveOpen_noStand b (taken tag _ s) hb)
  · refine ⟨(openEffect is (taken tag (.openStand b) s)).actuators,
      fun i => Selects.openEffect_at hsel _ i, ?_⟩
    refine frameOf_answered _ _ _ _ s _ h (settled_of_none _ hlink) ?_
    refine (serveOpen_selected b _ is hsel).trans ?_
    rw [openEffect_eq]
    rfl
  · have hs := serveOpen_selected b (taken tag (.openStand b) s) is hsel
    have hat := Selects.openEffect_at hsel (taken tag (.openStand b) s)
    obtain ⟨t, ht, hreply, -⟩ := frameOf_served tag (.openStand b) s _ _ h hs
    refine ⟨t, _, ht, hreply, fun k i hk => ⟨fun hkept => ?_, fun hnot => ?_⟩⟩
    · have hsame : (openEffect is (taken tag (.openStand b) s)).actuators[i] = s.actuators[i] :=
        (hat i).trans (if_neg fun hc => hkept.elim hc.2.1 hc.2.2)
      simp only [List.getElem?_map, hk, Option.map_some, hsame]
    · have hopen : (openEffect is (taken tag (.openStand b) s)).actuators[i] = openingOf s i :=
        (hat i).trans (if_pos ⟨List.mem_of_getElem? hk, not_or.mp hnot⟩)
      have hq : Queued (openEffect is (taken tag (.openStand b) s)) i := by
        rw [Queued, hopen]
        exact ⟨_, rfl, rfl⟩
      refine ⟨?_, (frameOf_queued tag (.openStand b) s t _ _ h hs ht i hq).trans hopen⟩
      simp only [List.getElem?_map, hk, Option.map_some, hopen]
      rfl
end

section
/-! SUPPORT. Engage Stand (R111): a role looked up where it is held once, the latches that name a stand, and
the request's tests in order. -/

namespace Sys2Proof.Machine

/-! ### Roles, latches and the stand's record -/

/-- Where each role is held once, its holder's state is the role's. -/
theorem roleInState_eq (s : State) (r : Role) (st : NodeState) (a : Node) (h : RolesUnique s)
    (hr : r ≠ .none) (ha : s.nodes[a].role = r) :
    roleInState s r st = decide (s.nodes[a].state = st) := by
  simp only [roleInState, roleNode_eq s r a h hr ha]

/-- No holder of the role is in the state. -/
theorem roleInState_eq_false (s : State) (r : Role) (st : NodeState)
    (h : ∀ a : Node, s.nodes[a].role = r → s.nodes[a].state ≠ st) : roleInState s r st = false := by
  unfold roleInState
  split
  · rename_i a ha
    exact decide_eq_false (h a (roleNode_holds s r a ha))
  · rfl

theorem nodeRemote_eq (s : State) (i : Stand) (a : Node) (h : RolesUnique s)
    (ha : s.nodes[a].role = .stand i) : nodeRemote s i = s.nodes[a].remote := by
  simp only [nodeRemote, roleNode_eq s (.stand i) a h (by simp) ha]

/-- A stand is tripped exactly where some latched record names it (R122). -/
theorem tripNames_iff (s : State) (i : Stand) : tripNames s i = true ↔
    ∃ k : Source, s.trips.records[k].latched = true ∧
      s.trips.records[k].affected.getLsbD i.val = true := by
  simp only [tripNames, List.any_eq_true, Vector.mem_toList_iff, Vector.mem_iff_getElem,
    Bool.and_eq_true]
  constructor
  · rintro ⟨_, ⟨k, hk, rfl⟩, hr⟩
    exact ⟨⟨k, hk⟩, hr⟩
  · rintro ⟨k, hr⟩
    exact ⟨_, ⟨k.val, k.isLt, rfl⟩, hr⟩

theorem onActuator_onActuator (s : State) (i : Stand) (f g : Actuator → Actuator) :
    (s.onActuator i f).onActuator i g = s.onActuator i (g ∘ f) := by
  simp only [State.onActuator, upd_upd]

/-- Changes that agree on the fields found make the same state. -/
theorem onActuator_congr (s : State) (i : Stand) (f g : Actuator → Actuator)
    (h : f s.actuators[i] = g s.actuators[i]) : s.onActuator i f = s.onActuator i g := by
  simp only [State.onActuator, upd, h]

/-! ### Engage Stand (R111) -/

/-- The fields of a stand that engages (R111, R112): the target, the position the stand starts from, and the
first step toward the target, built even where the two are equal. -/
def engagedFrom (t p : Int) (maxStep : Nat) (u : Actuator) : Actuator :=
  { u with
    t := some t
    p := p
    state := .travel
    number := u.number + 1
    work := some ⟨.travel (wantedStep p t maxStep), u.number + 1, .queued⟩ }

theorem engageEffect_eq (i : Stand) (s : State) (d : DemandValue) (q : Int)
    (hd : s.demands[i].demand = some d) (hq : s.actuators[i].reported = some q)
    (hw : s.actuators[i].work = none) :
    engageEffect i s = s.onActuator i
      (engagedFrom d.value (clampTo s.stands[i].gapMin s.stands[i].gapMax q) s.stands[i].maxStep) := by
  simp only [engageEffect, applyTravel, buildWork, State.onActuator_actuators, State.onActuator_stands,
    upd_same, hd, hq, hw, Option.map_some, onActuator_onActuator]
  refine onActuator_congr s i _ _ ?_
  simp only [Function.comp_apply, engagedFrom, hq]

/-- A stand that engages is given a step and no GAP_OPEN, so no urgent work. -/
theorem settled_engaged (i : Stand) (t p : Int) (m : Nat) (s : State) (h : Settled s) :
    Settled (s.onActuator i (engagedFrom t p m)) := by
  have hr : Retargets i s (s.onActuator i (engagedFrom t p m)) :=
    retargets_onActuator i _ s (.inr fun w hw => by cases hw; simp)
  exact settled_mono s _ rfl rfl hr.openFilled_mono h

theorem serveEngage_noStand (b : Byte) (s : State) (h : b.toNat = 0 ∨ 5 < b.toNat) :
    serveEngage b s = (s, ⟨.badParam, [0]⟩) := by
  rw [serveEngage, standOfNumber_eq_none b h]
  rfl

section
variable (b : Byte) (s : State) (i : Stand) (hi : b.toNat = i.val + 1)
include hi

theorem serveEngage_notConfigured (hc : s.mill.configured = false ∨ s.mill.n < i.val + 1 ∨
    s.stands[i].configured = false) : serveEngage b s = (s, ⟨.notConfigured, []⟩) := by
  have hno : ¬ (s.mill.configured = true ∧ withinN s i = true ∧ s.stands[i].configured = true) := by
    rintro ⟨hm, hN, hs⟩
    rcases hc with h | h | h
    · exact Bool.eq_false_iff.mp h hm
    · exact Nat.not_lt.mpr (of_decide_eq_true hN) h
    · exact Bool.eq_false_iff.mp h hs
  simp only [serveEngage, standOfNumber_eq_some b i hi, if_pos hno]
  rfl

variable (hc : s.mill.configured = true) (hN : i.val + 1 ≤ s.mill.n)
  (hs : s.stands[i].configured = true)
include hc hN hs

/-- R111's tests past the configuration. -/
theorem serveEngage_configured : serveEngage b s =
    if ¬ roleInState s (.stand i) .present then refuse .nodeAbsent s
    else if ¬ ((s.actuators[i].state = .open_ ∨ s.actuators[i].state = .released) ∧
        s.track.mode ≠ .stopped ∧ nodeRemote s i = true) then refuse .state s
    else if tripNames s i then refuse .tripped s
    else accept [] (engageEffect i s) := by
  have hw : withinN s i = true := decide_eq_true hN
  simp only [serveEngage, standOfNumber_eq_some b i hi]
  exact if_neg (not_not.mpr ⟨hc, hw, hs⟩)

theorem serveEngage_absent
    (ha : ∀ a : Node, s.nodes[a].role = .stand i → s.nodes[a].state ≠ .present) :
    serveEngage b s = (s, ⟨.nodeAbsent, []⟩) := by
  rw [serveEngage_configured b s i hi hc hN hs, roleInState_eq_false s _ _ ha]
  rfl

variable (a : Node) (hu : RolesUnique s) (ha : s.nodes[a].role = .stand i)
  (hp : s.nodes[a].state = .present)
include hu ha hp

/-- R111's tests past the node's presence. -/
theorem serveEngage_present : serveEngage b s =
    if ¬ ((s.actuators[i].state = .open_ ∨ s.actuators[i].state = .released) ∧
        s.track.mode ≠ .stopped ∧ s.nodes[a].remote = true) then refuse .state s
    else if tripNames s i then refuse .tripped s
    else accept [] (engageEffect i s) := by
  rw [serveEngage_configured b s i hi hc hN hs, nodeRemote_eq s i a hu ha,
    roleInState_eq s _ _ a hu (by simp) ha]
  exact if_neg (not_not.mpr (decide_eq_true hp))
end

end Sys2Proof.Machine
end

section
/-! The statement about Engage Stand. -/

open Sys2Proof Sys2Proof.Machine

/-- Settles O46: R111's tests in order; an accepted request leaves the stand `engagedFrom` its demand and its
reported position, which is no urgent work. -/
theorem engageStandRequest : Obligations.EngageStandRequest := by
  intro tag b s h hu
  refine ⟨fun hb => ?_, fun i hi => ⟨fun hc => ?_, fun hc hN hs => ⟨fun habsent => ?_,
    fun a ha hp => ?_⟩⟩⟩
  · exact frameOf_unchanged _ _ _ _ s h (serveEngage_noStand b (taken tag _ s) hb)
  · exact frameOf_unchanged _ _ _ _ s h (serveEngage_notConfigured b (taken tag _ s) i hi hc)
  · exact frameOf_unchanged _ _ _ _ s h (serveEngage_absent b (taken tag _ s) i hi hc hN hs habsent)
  · have hserve := serveEngage_present b (taken tag (.engageStand b) s) i hi hc hN hs a hu ha hp
    have htrip := tripNames_iff (taken tag (.engageStand b) s) i
    refine ⟨fun hready => ?_, fun hready htripped => ?_, fun hready hfree d q hd hq hw => ?_⟩
    · exact frameOf_unchanged _ _ _ _ s h (hserve.trans (if_pos hready))
    · exact frameOf_unchanged _ _ _ _ s h ((hserve.trans (if_neg (not_not.mpr hready))).trans
        (if_pos (htrip.mpr htripped)))
    · refine frameOf_answered _ _ _ _ s _ h (settled_engaged i d.value _ _ s h.settled) ?_
      refine ((hserve.trans (if_neg (not_not.mpr hready))).trans
        (if_neg (mt htrip.mp hfree))).trans ?_
      rw [engageEffect_eq i (taken tag _ s) d q hd hq hw]
      rfl
end

section
/-! SUPPORT. A request's whole event: what abandoning a transaction leaves as it was (R173), and what the part
shows once a request has been served and answered. -/

namespace Sys2Proof.Machine

/-! ### What an abandoned transaction leaves as it was (R118, R159, R173) -/

/-- A command not delivered raises no trip and no stop (R118, R123). -/
theorem takeOutcome_notDelivered_trips (i : Stand) (n : Byte) (s : State) :
    (takeOutcome i n .notDelivered s).trips = s.trips := by
  unfold takeOutcome
  split
  case h_1 => rfl
  case h_2 w _ =>
    split
    case isFalse => rfl
    case isTrue =>
      cases w.cmd with
      | open_ => rfl
      | travel | trim =>
        dsimp only
        split <;> simp

theorem handOn_abandoned_trips (item : Item) (s : State) :
    (handOn item .abandoned s).trips = s.trips := by
  cases item with
  | stop level counts => rfl
  | gapOpen i n => exact takeOutcome_notDelivered_trips i n s
  | gap i cmd n => exact takeOutcome_notDelivered_trips i n s
  | standardize p => simp [handOn]

@[simp] theorem abandonForUrgent_trips (s : State) : (abandonForUrgent s).trips = s.trips := by
  unfold abandonForUrgent
  split
  · rfl
  · split
    · simp [endTxn, targetFailures_abandoned, handOn_abandoned_trips]
    · rfl

@[simp] theorem abandonForUrgent_nodes (s : State) : (abandonForUrgent s).nodes = s.nodes := by
  unfold abandonForUrgent
  split
  · rfl
  · split
    · simp [endTxn, targetFailures_abandoned]
    · rfl

/-- Normal work on the link is cut by urgent work: the link is FREE, the response timer stops and the
abandonment is counted (R164, R173, R178). -/
theorem abandonForUrgent_cut (s : State) (f : InFlight) (hf : s.link.inFlight = some f)
    (hn : normalItem f.item = true) (hu : urgentFilled s = true) :
    (abandonForUrgent s).link = { s.link with
      state := .free, inFlight := none, respTimer := none,
      counters := countEnd .abandoned s.link.counters } := by
  simp only [abandonForUrgent, hf, hn, hu, and_self, if_true, endTxn, targetFailures_abandoned,
    handOn_frame]
  rfl

/-! ### A request served and answered (R173, R187, R188) -/

/-- The state at the end of a request's event: what the request's owner left, with the transaction ended
that urgent work cuts, and the reply on the line. -/
def finished (tag : Byte) (r : Request) (res : Result) (u : State) : State :=
  abandonForUrgent ((abandonForUrgent u).onHost fun p =>
    { p with reply := some ⟨tag, requestCode r, resultByte res.code, res.payload⟩ })

theorem frameOf_finished (tag : Byte) (r : Request) (s u : State) (res : Result) (h : Ready s)
    (hs : serve r (taken tag r s) = (u, res)) :
    frameOf tag r s = .next (finished tag r res u) := by
  rw [frameOf, whileRunning_running _ _ h.runs, submit_ready _ _ _ h.noneInHand, hs, finished]

/-- MSTOP shows the power and the trips alone (R139). -/
theorem mstop_congr (s t : State) (hp : t.power = s.power) (ht : t.trips = s.trips) :
    t.mstop = s.mstop := by
  simp only [State.mstop, emergencyStanding, hp, ht]

section
variable (tag : Byte) (r : Request) (res : Result) (u : State)

/-- What the end of a request's event leaves as the request's owner left it. -/
@[simp] theorem finished_frame :
    (finished tag r res u).power = u.power ∧
    (finished tag r res u).mill = u.mill ∧
    (finished tag r res u).stands = u.stands ∧
    (finished tag r res u).track = u.track ∧
    (finished tag r res u).store = u.store ∧
    (finished tag r res u).demands = u.demands ∧
    (finished tag r res u).trips = u.trips ∧
    (finished tag r res u).nodes = u.nodes := by
  simp [finished]

@[simp] theorem finished_reply : (finished tag r res u).host.reply =
    some ⟨tag, requestCode r, resultByte res.code, res.payload⟩ := by
  simp [finished]

@[simp] theorem finished_mstop : (finished tag r res u).mstop = u.mstop :=
  mstop_congr _ _ (by simp) (by simp)

/-- A transaction cut by the request's urgent work is cut once, before the reply. -/
theorem finished_cut (f : InFlight) (hf : u.link.inFlight = some f)
    (hn : normalItem f.item = true) (hu : urgentFilled u = true) :
    (finished tag r res u).link = { u.link with
      state := .free, inFlight := none, respTimer := none,
      counters := countEnd .abandoned u.link.counters } := by
  have hcut := abandonForUrgent_cut u f hf hn hu
  rw [finished, abandon_of_none _ (by rw [State.onHost_link, hcut]), State.onHost_link, hcut]
end

end Sys2Proof.Machine
end

section
/-! SUPPORT. A latch and the stops (R131 to R135, R139): what a latch leaves in the trip state by the class of
its record, when MSTOP is asserted, and what Trip Request (R145) is served with. -/

namespace Sys2Proof.Machine

/-! ### The stop wanted and the stop confirmation (R133 to R135) -/

/-- EMERGENCY is the strongest stop (R134). -/
theorem wantStop_emergency (s : State) :
    (wantStop .emergency s).trips = { s.trips with stopWanted := .emergency } := by
  rw [wantStop_stopWanted]
  cases s.trips.stopWanted <;> rfl

/-- FAST is wanted only where no stop was (R134). -/
theorem wantStop_fast (s : State) : (wantStop .fast s).trips = { s.trips with
    stopWanted := if s.trips.stopWanted = .none then .fast else s.trips.stopWanted } := by
  rw [wantStop_stopWanted]
  cases s.trips.stopWanted <;> rfl

/-- A confirmation started at a time with a load: the timer runs, or the test made at once has found every
counted node stopping (R133, R135). -/
def ConfirmStarted (now : Time) (load : Nat) (c : ConfirmState) (t : Option Timer) : Prop :=
  (c = .waiting ∧ t = some ⟨now, load⟩) ∨ (c = .confirmed ∧ t = none)

theorem startConfirm_trips (s : State) : ∃ c t, ConfirmStarted s.now s.mill.stopConfirm c t ∧
    (startConfirm s).trips = { s.trips with confirm := c, confirmT := t } := by
  rw [startConfirm, confirmTest_trips]
  split
  · exact ⟨_, _, .inr ⟨rfl, rfl⟩, rfl⟩
  · exact ⟨_, _, .inl ⟨rfl, rfl⟩, rfl⟩

/-! ### A latch by the class of its record (R133) -/

section
variable (k : Source) (s : State)

theorem latchActions_emergency (h : s.trips.records[k].cls = .emergency) :
    (latchActions k s).trips = { s.trips with stopWanted := .emergency } := by
  simp only [latchActions, h, wantStop_emergency, openNamed_frame]

/-- A FAST_STOP latch wants FAST at least, and starts the confirmation from IDLE alone. -/
theorem latchActions_fastStop (h : s.trips.records[k].cls = .fastStop) : ∃ c t,
    (latchActions k s).trips = { s.trips with
      stopWanted := if s.trips.stopWanted = .none then .fast else s.trips.stopWanted
      confirm := c
      confirmT := t } ∧
    (s.trips.confirm = .idle → ConfirmStarted s.now s.mill.stopConfirm c t) ∧
    (s.trips.confirm ≠ .idle → c = s.trips.confirm ∧ t = s.trips.confirmT) := by
  simp only [latchActions, h, wantStop_fast, openNamed_frame]
  split
  case isTrue hidle =>
    obtain ⟨c, t, hstarted, htrips⟩ :=
      startConfirm_trips (wantStop .fast (openNamed s.trips.records[k].affected s))
    simp only [wantStop_fast, wantStop_frame, openNamed_frame] at hstarted htrips
    exact ⟨c, t, htrips, fun _ => hstarted, fun hne => absurd hidle hne⟩
  case isFalse hbusy =>
    refine ⟨s.trips.confirm, s.trips.confirmT, ?_, fun hidle => absurd hidle hbusy,
      fun _ => ⟨rfl, rfl⟩⟩
    simp only [wantStop_fast, openNamed_frame]

/-- A latch of either class wants a stop, and leaves the stop sent and the escalation. -/
theorem latchActions_wants :
    (latchActions k s).trips.stopWanted ≠ .none ∧
      (latchActions k s).trips.stopSent = s.trips.stopSent ∧
      (latchActions k s).trips.escalation = s.trips.escalation := by
  cases h : s.trips.records[k].cls with
  | emergency => simp [latchActions_emergency k s h]
  | fastStop =>
    obtain ⟨c, t, htrips, -⟩ := latchActions_fastStop k s h
    rw [htrips]
    refine ⟨?_, rfl, rfl⟩
    dsimp only
    split
    · exact nofun
    · assumption
end

/-! ### MSTOP (R139) -/

theorem mstop_running (s : State) (h : s.power = .running) : s.mstop = emergencyStanding s := by
  simp only [State.mstop, h]

theorem emergencyStanding_iff (s : State) : emergencyStanding s = true ↔
    (∃ k : Source, s.trips.records[k].latched = true ∧ s.trips.records[k].cls = .emergency) ∨
      s.trips.escalation.isSome = true := by
  simp only [emergencyStanding, Bool.or_eq_true, List.any_eq_true, Vector.mem_toList_iff,
    Vector.mem_iff_getElem, Bool.and_eq_true, decide_eq_true_eq]
  refine or_congr_left ⟨?_, ?_⟩
  · rintro ⟨_, ⟨k, hk, rfl⟩, hr⟩
    exact ⟨⟨k, hk⟩, hr⟩
  · rintro ⟨k, hr⟩
    exact ⟨_, ⟨k.val, k.isLt, rfl⟩, hr⟩

/-- A stop wanted that has not been sent fills the stop slot (R134). -/
theorem urgentFilled_of_stop (s : State) (hw : s.trips.stopWanted ≠ .none)
    (hs : s.trips.stopSent = .none) : urgentFilled s = true := by
  have hlt : stopRank s.trips.stopSent < stopRank s.trips.stopWanted := by
    rw [hs]
    cases h : s.trips.stopWanted with
    | none => exact absurd h hw
    | fast | emergency => decide
  simp only [urgentFilled, stopFilled, decide_eq_true hlt, Bool.or_true, Bool.true_or]

/-! ### Trip Request (R145) -/

/-- The state with another HOST_REQUEST record. -/
def withHostRecord (r : TripRecord) (s : State) : State :=
  s.onTrips fun t => { t with records := t.records.set 29 r }

theorem withHostRecord_at (r : TripRecord) (s : State) (k : Source) :
    (withHostRecord r s).trips.records[k] = if k = 29 then r else s.trips.records[k] :=
  set_at s.trips.records 29 k r

theorem withHostRecord_same (r : TripRecord) (s : State) :
    (withHostRecord r s).trips.records[(29 : Source)] = r :=
  (withHostRecord_at r s 29).trans (if_pos rfl)

/-- A HOST_REQUEST record raised once more while LATCHED (R132). -/
def hostCounted (r : TripRecord) : TripRecord := { r with count := min 255 (r.count + 1) }

/-- HOST_REQUEST's record after a request with a reason that found it CLEAR (R131). -/
def hostLatched (reason : BitVec 16) (s : State) : TripRecord :=
  { s.trips.records[(29 : Source)] with
    latched := true, rank := latchedCount s + 1, time := s.now, count := 1, reported := false,
    detail := reason.toNat }

/-- The state that a latch of HOST_REQUEST leaves (R133). -/
def hostTripped (reason : BitVec 16) (s : State) : State :=
  latchActions 29 (withHostRecord (hostLatched reason s) s)

section
variable (reason : BitVec 16) (s : State)

/-- A LATCHED HOST_REQUEST only counts, and the reply gives the rank it has (R132). -/
theorem serveTripRequest_latched (h : s.trips.records[(29 : Source)].latched = true) :
    serveTripRequest reason s =
      (withHostRecord (hostCounted s.trips.records[(29 : Source)]) s,
        ⟨.ok, [BitVec.ofNat 8 s.trips.records[(29 : Source)].rank, 0]⟩) := by
  have hraise : raiseTrip .hostRequest reason.toNat s =
      withHostRecord (hostCounted s.trips.records[(29 : Source)]) s := if_pos h
  have hk : sourceIndex .hostRequest = 29 := rfl
  simp only [serveTripRequest, hraise, hk, withHostRecord_same, h, be_one]
  rfl

/-- A CLEAR HOST_REQUEST latches, and the reply gives its new rank (R131, R133). -/
theorem serveTripRequest_clear (h : s.trips.records[(29 : Source)].latched = false) :
    serveTripRequest reason s =
      (hostTripped reason s, ⟨.ok, [BitVec.ofNat 8 (latchedCount s + 1), 1]⟩) := by
  have hraise : raiseTrip .hostRequest reason.toNat s = hostTripped reason s :=
    if_neg (Bool.eq_false_iff.mp h)
  have hk : sourceIndex .hostRequest = 29 := rfl
  simp only [serveTripRequest, hraise, hostTripped, hk, latchActions_records, withHostRecord_same, h,
    be_one]
  rfl

@[simp] theorem hostTripped_frame :
    (hostTripped reason s).power = s.power ∧
    (hostTripped reason s).mill = s.mill ∧
    (hostTripped reason s).stands = s.stands ∧
    (hostTripped reason s).track = s.track ∧
    (hostTripped reason s).store = s.store ∧
    (hostTripped reason s).demands = s.demands ∧
    (hostTripped reason s).nodes = s.nodes ∧
    (hostTripped reason s).link = s.link := by
  simp [hostTripped, withHostRecord]

theorem hostTripped_records : (hostTripped reason s).trips.records =
    s.trips.records.set 29 (hostLatched reason s) :=
  latchActions_records 29 _

/-- The latch opens the stands its record names that are in no state of the open group (R122). -/
theorem hostTripped_opens (i : Stand)
    (hi : s.trips.records[(29 : Source)].affected.getLsbD i.val = true)
    (ho : s.actuators[i].state ≠ .open_) (hg : s.actuators[i].state ≠ .opening)
    (hf : s.actuators[i].state ≠ .openFailed) :
    (hostTripped reason s).actuators[i] = openingOf s i := by
  have hopened : openedByTrip s.actuators[i].state = true := by
    cases hstate : s.actuators[i].state with
    | open_ => exact absurd hstate ho
    | opening => exact absurd hstate hg
    | openFailed => exact absurd hstate hf
    | travel | settle | hold | released => rfl
  refine (latchActions_actuators 29 _ i).trans (if_pos ⟨?_, hopened⟩)
  rw [withHostRecord_same]
  exact hi

/-- The trip state after a latch of class EMERGENCY: the confirmation is left alone (R133). -/
theorem hostTripped_emergency (h : s.trips.records[(29 : Source)].cls = .emergency) :
    (hostTripped reason s).trips =
      { (withHostRecord (hostLatched reason s) s).trips with stopWanted := .emergency } :=
  latchActions_emergency 29 _ ((congrArg _ (withHostRecord_same _ s)).trans h)

/-- The trip state after a latch of class FAST_STOP (R133, R135). -/
theorem hostTripped_fastStop (h : s.trips.records[(29 : Source)].cls = .fastStop) : ∃ c t,
    (hostTripped reason s).trips = { (withHostRecord (hostLatched reason s) s).trips with
      stopWanted := if s.trips.stopWanted = .none then .fast else s.trips.stopWanted
      confirm := c
      confirmT := t } ∧
    (s.trips.confirm = .idle → ConfirmStarted s.now s.mill.stopConfirm c t) ∧
    (s.trips.confirm ≠ .idle → c = s.trips.confirm ∧ t = s.trips.confirmT) :=
  latchActions_fastStop 29 _ ((congrArg _ (withHostRecord_same _ s)).trans h)

/-- After a latch a STOP waits, where none has been sent (R133, R134). -/
theorem hostTripped_urgent (h : s.trips.stopSent = .none) :
    urgentFilled (hostTripped reason s) = true := by
  obtain ⟨hwanted, hsent, -⟩ := latchActions_wants 29 (withHostRecord (hostLatched reason s) s)
  exact urgentFilled_of_stop _ hwanted (hsent.trans h)

/-- MSTOP after HOST_REQUEST latches: asserted by a record of class EMERGENCY, and else as it was. -/
theorem hostTripped_mstop (hp : s.power = .running)
    (h : s.trips.records[(29 : Source)].latched = false) :
    (hostTripped reason s).mstop =
      decide (s.trips.records[(29 : Source)].cls = .emergency ∨ s.mstop = true) := by
  obtain ⟨-, -, hesc⟩ := latchActions_wants 29 (withHostRecord (hostLatched reason s) s)
  rw [mstop_running _ hp, mstop_running _ ((hostTripped_frame reason s).1.trans hp), Bool.eq_iff_iff,
    decide_eq_true_eq]
  simp only [emergencyStanding_iff, hostTripped, latchActions_records, withHostRecord_at, hesc]
  constructor
  · rintro (⟨k, hl, hc⟩ | he)
    · by_cases hk : k = 29
      · simp only [if_pos hk] at hc
        exact .inl hc
      · simp only [if_neg hk] at hl hc
        exact .inr (.inl ⟨k, hl, hc⟩)
    · exact .inr (.inr he)
  · rintro (hc | ⟨k, hl, hc⟩ | he)
    · exact .inl ⟨29, rfl, hc⟩
    · have hk : k ≠ 29 := fun e => Bool.eq_false_iff.mp h (e ▸ hl)
      exact .inl ⟨k, by simpa only [if_neg hk] using ⟨hl, hc⟩⟩
    · exact .inr he
end

end Sys2Proof.Machine
end

section
/-! The statement about Trip Request. -/

open Sys2Proof Sys2Proof.Machine

/-- Settles O49: a LATCHED record counts; a CLEAR one latches, and its class gives the stop and the
confirmation. An opened stand's new work waits, so the transaction that the urgent work cuts hands it nothing
(R109). -/
theorem tripRequestRaises : Obligations.TripRequestRaises := by
  intro tag reason s h
  refine ⟨fun hl => ?_, fun hl => ?_, fun hl hsent f hf hn => ?_⟩
  · exact frameOf_answered _ _ _ _ s _ h
      ((settled_congr s (withHostRecord _ s) rfl rfl rfl fun _ => rfl).mpr h.settled)
      (serveTripRequest_latched reason (taken tag _ s) hl)
  · have hs := serveTripRequest_clear reason (taken tag (.tripRequest reason) s) hl
    have hnext := frameOf_finished tag (.tripRequest reason) s _ _ h hs
    have hmstop := hostTripped_mstop reason (taken tag (.tripRequest reason) s) h.runs hl
    refine ⟨_, hnext, finished_reply _ _ _ _, ?_, fun i hi ho hg hf => ?_, fun hc => ?_, fun hc => ?_, ?_⟩
    · simp only [finished_frame]
      exact hostTripped_records reason (taken tag _ s)
    · have hopen := hostTripped_opens reason (taken tag (.tripRequest reason) s) i hi ho hg hf
      exact (frameOf_queued tag (.tripRequest reason) s _ _ _ h hs hnext i
        ⟨_, congrArg Actuator.work hopen, rfl⟩).trans hopen
    · have htrips := hostTripped_emergency reason (taken tag (.tripRequest reason) s) hc
      simp only [finished_frame, finished_mstop, htrips, hmstop]
      exact ⟨trivial, decide_eq_true (.inl hc), rfl⟩
    · obtain ⟨c, t, htrips, hidle, hbusy⟩ :=
        hostTripped_fastStop reason (taken tag (.tripRequest reason) s) hc
      simp only [finished_frame, finished_mstop, htrips, hmstop]
      refine ⟨(decide_eq_decide.mpr (or_iff_right ?_)).trans (Bool.decide_coe _), rfl, hidle, hbusy⟩
      exact hc ▸ nofun
    · simp only [finished_frame, hostTripped_frame]
      exact ⟨rfl, rfl, rfl, rfl, rfl, rfl⟩
  · have hs := serveTripRequest_clear reason (taken tag (.tripRequest reason) s) hl
    have hurgent := hostTripped_urgent reason (taken tag (.tripRequest reason) s) hsent
    have hlink : (hostTripped reason (taken tag (.tripRequest reason) s)).link = s.link := by
      simp only [hostTripped_frame]
      rfl
    refine ⟨_, frameOf_finished tag (.tripRequest reason) s _ _ h hs, ?_⟩
    rw [finished_cut _ _ _ _ f (by rw [hlink, hf]) hn hurgent, hlink]
    exact ⟨rfl, rfl, rfl, rfl, rfl⟩
end

section
/-! SUPPORT. Clear Trips (R148, R149): the active sources as the list of the records that stand, and the state
that a clearing leaves. -/

namespace Sys2Proof.Machine

/-! ### The active sources (R148) -/

/-- Where each role is held once, a role looked up is in a state exactly where its holder is. -/
theorem roleInState_iff (s : State) (r : Role) (st : NodeState) (h : RolesUnique s) (hr : r ≠ .none) :
    roleInState s r st = true ↔ ∃ a : Node, s.nodes[a].role = r ∧ s.nodes[a].state = st := by
  constructor
  · intro hin
    by_contra hno
    rw [roleInState_eq_false s r st fun a ha hst => hno ⟨a, ha, hst⟩] at hin
    cases hin
  · rintro ⟨a, ha, hst⟩
    rw [roleInState_eq s r st a h hr ha]
    exact decide_eq_true hst

/-- Records 0 to 7 are those of the ESTOP lines (R129). -/
theorem exists_line_iff (k : Source) (P : Fin 8 → Prop) :
    (∃ x : Fin 8, k.val = x.val ∧ P x) ↔ ∃ h : k.val < 8, P ⟨k.val, h⟩ := by
  constructor
  · rintro ⟨⟨x, hx⟩, rfl, hP⟩
    exact ⟨hx, hP⟩
  · rintro ⟨h, hP⟩
    exact ⟨_, rfl, hP⟩

/-- Records 19 to 23 are those of the stands' nodes (R129). -/
theorem exists_stand_iff (k : Source) (P : Stand → Prop) :
    (∃ i : Stand, k.val = 19 + i.val ∧ P i) ↔
      ∃ h : 19 ≤ k.val ∧ k.val ≤ 23, P ⟨k.val - 19, by omega⟩ := by
  constructor
  · rintro ⟨i, hi, hP⟩
    have := i.isLt
    refine ⟨by omega, ?_⟩
    simpa only [hi, Nat.add_sub_cancel_left] using hP
  · rintro ⟨h, hP⟩
    exact ⟨_, (Nat.add_sub_cancel' h.1).symm, hP⟩

/-- The model's test of a source is R148's table: its rows stand at indices apart. -/
theorem sourceActive_iff (s : State) (h : RolesUnique s) (k : Source) :
    sourceActive s k = true ↔ SourceStanding s k := by
  have hstand := fun i => roleInState_iff s (.stand i) .lost h nofun
  rw [SourceStanding, ← roleInState_iff s .entry .lost h nofun]
  simp only [← hstand]
  rw [exists_line_iff, exists_stand_iff]
  unfold sourceActive
  split
  case isTrue hline => grind
  case isFalse hline =>
    split
    case isTrue h18 => grind
    case isFalse h18 =>
      split
      case isTrue hnode => grind
      case isFalse hnode => grind

theorem mem_activeSources (s : State) (h : RolesUnique s) (k : Source) :
    k ∈ activeSources s ↔ s.trips.records[k].latched = true ∧ SourceStanding s k := by
  simp only [activeSources, List.mem_filter, mem_allSources, true_and, Bool.and_eq_true,
    sourceActive_iff s h]

/-- The active sources are the ascending list of the latched records whose sources stand. -/
theorem activeSources_eq (s : State) (h : RolesUnique s) (ks : List Source)
    (hasc : ks.Pairwise (· < ·))
    (hmem : ∀ k : Source, k ∈ ks ↔ s.trips.records[k].latched = true ∧ SourceStanding s k) :
    activeSources s = ks := by
  have hall : allSources.Pairwise (· < ·) := by decide
  have hsub : (activeSources s).Pairwise (· < ·) := hall.filter _
  exact hsub.eq_of_mem_iff hasc fun k => (mem_activeSources s h k).trans (hmem k).symm

theorem activeSources_nil (s : State) (h : RolesUnique s)
    (hnone : ∀ k : Source, s.trips.records[k].latched = true → ¬ SourceStanding s k) :
    activeSources s = [] :=
  List.eq_nil_iff_forall_not_mem.mpr fun k hk =>
    let ⟨hl, hs⟩ := (mem_activeSources s h k).mp hk
    hnone k hl hs

/-! ### The clearing (R149, R134) -/

theorem clearAll_at (v : Vector TripRecord 32) (k : Source) :
    (clearAll v)[k] = clearRecord v[k].cls v[k].affected := by
  simp [clearAll]

/-- The state a Clear Trips leaves where the event queue has room for TRIPS_CLEARED (R149, R151). -/
def clearedTrips (s : State) : State :=
  ((s.onLink uncountStop).onTrips fun t =>
    { t with records := clearAll t.records, escalation := none, confirm := .idle, confirmT := none,
             stopWanted := .none, stopSent := .none }).onHost fun h =>
    { h with events := h.events ++
        [⟨.tripsCleared, .none, none, BitVec.ofNat 32 (latchedCount s), s.now⟩] }

theorem clearTripTable_room (s : State) (h : s.host.events.length < 48) :
    clearTripTable s = clearedTrips s := by
  rw [clearTripTable, raise_room, BitVec.ofInt_natCast]
  · rfl
  · exact h

/-- A STOP on the link stays there; it only no longer counts (R149). -/
theorem stopOnLink_clearedTrips (s : State) : stopOnLink (clearedTrips s) = stopOnLink s := by
  have hf : (clearedTrips s).link.inFlight = (uncountStop s.link).inFlight := rfl
  simp only [stopOnLink, hf, uncountStop]
  cases s.link.inFlight with
  | none => rfl
  | some f => obtain ⟨item, cls, target, sent⟩ := f; cases item <;> rfl

/-- Nothing becomes urgent at a clearing, so the transaction in flight is not cut (R173). -/
theorem settled_clearedTrips (s : State) (h : Settled s) : Settled (clearedTrips s) := by
  intro f hf hn
  obtain ⟨g, hg, rfl⟩ := Option.map_eq_some_iff.mp hf
  have hs := h g hg (by obtain ⟨item, cls, target, sent⟩ := g; cases item <;> exact hn)
  simp only [urgentFilled, stopFilled, stopOnLink_clearedTrips, Bool.or_eq_false_iff] at hs ⊢
  exact ⟨⟨hs.1.1, rfl⟩, hs.2⟩

/-- No record is latched after a clearing and the escalation has ended, so MSTOP is released (R139, R149). -/
theorem mstop_clearedTrips (s : State) (h : s.power = .running) : (clearedTrips s).mstop = false := by
  rw [mstop_running (clearedTrips s) h, ← Bool.not_eq_true, emergencyStanding_iff]
  rintro (⟨k, hl, -⟩ | he)
  · have hclear : (clearedTrips s).trips.records[k] = _ := clearAll_at s.trips.records k
    rw [hclear] at hl
    cases hl
  · cases he

/-! ### The request (R148) -/

theorem serveClearTrips_refused (s : State) (ks : List Source) (hne : ks ≠ [])
    (hks : activeSources s = ks) : serveClearTrips s =
      (s, ⟨.sourceActive, BitVec.ofNat 8 ks.length :: ks.map fun k => BitVec.ofNat 8 k.val⟩) := by
  simp only [serveClearTrips, hks, be_one, List.map_eq_flatMap]
  cases ks with
  | nil => exact absurd rfl hne
  | cons k ks => rfl

theorem serveClearTrips_accepts (s : State) (hnone : activeSources s = [])
    (hroom : s.host.events.length < 48) :
    serveClearTrips s = (clearedTrips s, ⟨.ok, [BitVec.ofNat 8 (latchedCount s)]⟩) := by
  rw [serveClearTrips, hnone, clearTripTable_room s hroom, be_one]
  rfl

/-- The link after a clearing, whatever way its transaction's change is written. -/
theorem onLink_uncountStop (s : State) (g : InFlight → InFlight)
    (h : ∀ f, g f = { f with item := match f.item with
      | .stop lv _ => .stop lv false
      | it => it }) :
    (s.onLink fun l => { l with inFlight := l.inFlight.map g }) = s.onLink uncountStop := by
  obtain rfl : g = _ := funext h
  rfl

end Sys2Proof.Machine
end

section
/-! The statement about Clear Trips. -/

open Sys2Proof Sys2Proof.Machine

/-- Settles O50: the list the hypotheses describe is `activeSources`; without one the state is `clearedTrips`,
where nothing has become urgent. -/
theorem clearTripsRequest : Obligations.ClearTripsRequest := by
  intro tag s h hroles
  refine ⟨fun ks hasc hne hmem => ?_, fun hnone hroom =>
    ⟨clearAll s.trips.records, clearAll_at s.trips.records, ?_⟩⟩
  · exact frameOf_unchanged _ _ _ _ s h
      (serveClearTrips_refused (taken tag _ s) ks hne (activeSources_eq s hroles ks hasc hmem))
  · rw [onLink_uncountStop s _ fun f => ?_]
    · exact ⟨frameOf_answered _ _ _ _ s (clearedTrips s) h (settled_clearedTrips s h.settled)
        (serveClearTrips_accepts (taken tag _ s) (activeSources_nil s hroles hnone) hroom),
        mstop_clearedTrips s h.runs⟩
    · obtain ⟨item, cls, target, sent⟩ := f; cases item <;> rfl
end

section
/-! SUPPORT. Events at the host port (chapter 9): ATTN as its condition, a raise into a full queue, and the two
requests that read the queue and set its attention level. -/

namespace Sys2Proof.Machine

/-! ### ATTN (R194) -/

/-- A test some trip record passes is passed by the record of some source. -/
theorem any_records_iff (s : State) (p : TripRecord → Bool) :
    s.trips.records.toList.any p = true ↔ ∃ k : Source, p s.trips.records[k] = true := by
  simp only [List.any_eq_true, Vector.mem_toList_iff, Vector.mem_iff_getElem]
  constructor
  · rintro ⟨_, ⟨k, hk, rfl⟩, hp⟩
    exact ⟨⟨k, hk⟩, hp⟩
  · rintro ⟨k, hp⟩
    exact ⟨_, ⟨k.val, k.isLt, rfl⟩, hp⟩

theorem unreportedTrip_iff (s : State) : unreportedTrip s = true ↔
    ∃ k : Source, s.trips.records[k].latched = true ∧ s.trips.records[k].reported = false := by
  simp only [unreportedTrip, any_records_iff, Bool.and_eq_true, Bool.not_eq_true']

theorem attn_running_iff (s : State) (h : s.power = .running) :
    s.attn = true ↔ (∃ e ∈ s.host.events, s.host.attention ≤ eventLevel e.code) ∨
      ∃ k : Source, s.trips.records[k].latched = true ∧ s.trips.records[k].reported = false := by
  simp only [State.attn, h, Bool.or_eq_true, List.any_eq_true, decide_eq_true_eq,
    unreportedTrip_iff]

/-- The overrun flag does not bear on ATTN, so an event lost to a full queue leaves ATTN (R191, R194). -/
theorem attn_raise_full (code : EventCode) (subject : Subject) (serial : Option Nat) (value : Int)
    (s : State) (h : 48 ≤ s.host.events.length) :
    (raise code subject serial value s).attn = s.attn := by
  rw [raise_full code subject serial value s h]
  rfl

/-! ### Read Events (R192) -/

/-- The reply counts the entries it carries and those that stay in the queue. -/
theorem eventsReply_eq (s : State) (n : Nat) : eventsReply s n =
    [BitVec.ofNat 8 (min n s.host.events.length),
      BitVec.ofNat 8 (s.host.events.length - min n s.host.events.length),
      BitVec.ofNat 8 (bit s.host.overrun 1)] ++ (s.host.events.take n).flatMap eventBytes := by
  simp only [eventsReply, be_one, List.length_take, List.cons_append, List.nil_append]

/-- The state Read Events leaves: the oldest entries removed and the overrun flag clear (R192). -/
def eventsRead (n : Nat) (s : State) : State :=
  s.onHost fun h => { h with events := h.events.drop n, overrun := false }

theorem serveReadEvents_accepts (b : Byte) (s : State) (h : 1 ≤ b.toNat ∧ b.toNat ≤ 10) :
    serveReadEvents b s = (eventsRead b.toNat s, ⟨.ok, eventsReply s b.toNat⟩) :=
  if_pos h

theorem serveReadEvents_refused (b : Byte) (s : State) (h : b.toNat = 0 ∨ 10 < b.toNat) :
    serveReadEvents b s = (s, ⟨.badParam, [0]⟩) :=
  (if_neg (by omega)).trans (badParam_eq 0 s)

/-! ### Set Attention Level (R193) -/

/-- The state Set Attention Level leaves (R193). -/
def withAttention (n : Nat) (s : State) : State :=
  s.onHost fun h => { h with attention := n }

theorem serveAttention_accepts (b : Byte) (s : State) (h : 1 ≤ b.toNat ∧ b.toNat ≤ 7) :
    serveAttention b s =
      (withAttention b.toNat s, ⟨.ok, [BitVec.ofNat 8 s.host.attention]⟩) := by
  rw [serveAttention, if_pos h, be_one]
  rfl

theorem serveAttention_refused (b : Byte) (s : State) (h : b.toNat = 0 ∨ 7 < b.toNat) :
    serveAttention b s = (s, ⟨.badParam, [1]⟩) :=
  (if_neg (by omega)).trans (badParam_eq 1 s)

/-- Only the host port changes, so nothing becomes urgent (R173). -/
theorem settled_onHost (f : HostPort → HostPort) (s : State) : Settled (s.onHost f) ↔ Settled s :=
  settled_congr _ _ rfl rfl rfl fun _ => rfl

end Sys2Proof.Machine
end

section
/-! The statement about events and the requests on their queue. -/

open Sys2Proof Sys2Proof.Machine

/-- Settles O25: the levels are the table's rows; a raise is read at a queue with room and at a full one; each
request is read at a value in its range and out of it. -/
theorem eventRequestsServe : Obligations.EventRequestsServe := by
  refine ⟨⟨rfl, rfl, rfl, rfl, rfl, rfl⟩, attn_running_iff, fun code subject serial value s =>
    ⟨raise_room code subject serial value s, fun hfull =>
      ⟨raise_full code subject serial value s hfull, attn_raise_full code subject serial value s hfull⟩⟩,
    fun tag b s h => ⟨fun hlo hhi => ?_, fun hout => ?_, fun hlo hhi => ?_, fun hout => ?_⟩⟩
  · rw [← eventsReply_eq]
    exact frameOf_answered _ _ _ _ s (eventsRead b.toNat s) h ((settled_onHost _ s).mpr h.settled)
      (serveReadEvents_accepts b (taken tag _ s) ⟨hlo, hhi⟩)
  · exact frameOf_unchanged _ _ _ _ s h (serveReadEvents_refused b (taken tag _ s) hout)
  · exact frameOf_answered _ _ _ _ s (withAttention b.toNat s) h
      ((settled_onHost _ s).mpr h.settled) (serveAttention_accepts b (taken tag _ s) ⟨hlo, hhi⟩)
  · exact frameOf_unchanged _ _ _ _ s h (serveAttention_refused b (taken tag _ s) hout)
end


section
/-! SUPPORT. What one step can do, said once: the events of the lines other than the host line, a frame that
arrives, a byte of the host line, a reply sent, a reset, and the changes of level a held part still takes.
A law that each of these keeps is kept by every step. -/

namespace Sys2Proof.Machine

/-! ### The events of the lines and of time -/

/-- The events a running part takes from its lines and timers, the host line and the resets left out. -/
inductive LineEvent where
  | tick
  | estop (x : Fin 8) (low : Bool)
  | settle (i : Stand)
  | move (i : Stand)
  | openTimer (i : Stand)
  | stopConfirm
  | silence (a : Node)
  | responseTimeout (us : Nat)
  | stuck (us : Nat)
  | pulseOver
  | opportunity
  | won (nodeContended : Bool)
  | nodeWon (urgent : Bool) (address : BitVec 4)
  | holdFreed
  | checkByteSent
  | stopSent
  | response (b : Byte) (parity : Bool)
  | nodeFrame (f : NodeFrame)

/-- What each event of the lines does to a part that runs. -/
def LineEvent.run : LineEvent → State → State
  | .tick => fun s => { s with now := s.now + 1 }
  | .estop x low => estopChange x low
  | .settle i => settleExpiry i
  | .move i => moveExpiry i
  | .openTimer i => openExpiry i
  | .stopConfirm => confirmExpiry
  | .silence a => silenceTest a
  | .responseTimeout us => responseExpiry us
  | .stuck us => stuckDetected us
  | .pulseOver => pulseEnd
  | .opportunity => Machine.opportunity
  | .won c => winArbitration c
  | .nodeWon u a => nodeWins u a
  | .holdFreed => releaseHold
  | .checkByteSent => frameSent
  | .stopSent => broadcastSent
  | .response b p => responseByte b p
  | .nodeFrame f => receiveFrame f

/-- A line's level changes while the part is held: only what the reset will find (R197, log entry 5). -/
def heldPress (x : Fin 8) (low : Bool) (s : State) : State :=
  s.onTrips fun t => { t with pressed := upd t.pressed x fun _ => low }

/-- HOLD changes while the part is held (R197, log entry 5). -/
def heldHold (b : Bool) (s : State) : State := s.onLink fun l => { l with holdOther := b }

/-- The part leaves the run, held in reset or without supply, and a reply on the line is cut (R197, R139). -/
def halted (p : Power) (s : State) : State :=
  ({ s with power := p }).onHost fun h => { h with reply := none }

/-- What the command `c` can be: nothing, an event of a running part from a line, the host line or a frame,
the end of a reset, the start of a halt, or a level that changes while the part is held. -/
inductive Effect (s : State) : State → Prop where
  | idle : Effect s s
  | line (hp : s.power = .running) (e : LineEvent) : Effect s (abandonForUrgent (e.run s))
  | byte (hp : s.power = .running) (b : Byte) (stop : Bool) :
      Effect s (abandonForUrgent (assemble b stop s))
  | reply (hp : s.power = .running) : Effect s (abandonForUrgent (endReply s))
  | frame (hp : s.power = .running) (tag : Byte) (r : Request) :
      Effect s (abandonForUrgent (submit tag r s))
  | reset (hp : s.power = .inReset) : Effect s (afterReset 0 s)
  | halt (p : Power) (hp : p ≠ .running) : Effect s (halted p s)
  | press (hp : s.power ≠ .running) (x : Fin 8) (low : Bool) : Effect s (heldPress x low s)
  | hold (hp : s.power ≠ .running) (b : Bool) : Effect s (heldHold b s)

theorem effect_whileRunning (f : State → State) (s t : State)
    (hf : s.power = .running → Effect s (abandonForUrgent (f s)))
    (h : whileRunning f s = .next t) : Effect s t := by
  by_cases hp : s.power = .running
  · rw [whileRunning_running f s hp] at h
    cases h
    exact hf hp
  · rw [whileRunning_held f s hp] at h
    cases h
    exact .idle

theorem effect_line (e : LineEvent) (s t : State) (h : whileRunning e.run s = .next t) : Effect s t :=
  effect_whileRunning e.run s t (fun hp => .line hp e) h

theorem effect_frame (tag : Byte) (r : Request) (s t : State) (h : frameOf tag r s = .next t) :
    Effect s t :=
  effect_whileRunning _ s t (fun hp => .frame hp tag r) h

theorem effect_badFrameCode (tag code : Byte) (payload : List Byte) (s t : State)
    (h : execBadFrameCode tag code payload s = .next t) : Effect s t := by
  unfold execBadFrameCode at h
  split at h
  · exact effect_frame _ _ s t h
  · cases h
    exact .idle

theorem effect_resetReleased (s t : State) (h : execResetReleased s = .next t) : Effect s t := by
  unfold execResetReleased at h
  split at h
  · rw [← Host.Outcome.next.inj h]
    exact .reset ‹_›
  · rw [← Host.Outcome.next.inj h]
    exact .idle

theorem effect_estopLineChange (x : Fin 8) (low : Bool) (s t : State)
    (h : execEstopLineChange x low s = .next t) : Effect s t := by
  unfold execEstopLineChange at h
  split at h
  · exact effect_line (.estop x low) s t h
  · cases h
    exact .press ‹_› x low

theorem effect_nodeWinsArbitration (u : Bool) (a : BitVec 4) (s t : State)
    (h : execNodeWinsArbitration u a s = .next t) : Effect s t := by
  unfold execNodeWinsArbitration at h
  split at h
  · exact effect_line (.nodeWon u a) s t h
  · cases h
    exact .hold ‹_› true

theorem effect_holdReleased (s t : State) (h : execHoldReleased s = .next t) : Effect s t := by
  unfold execHoldReleased at h
  split at h
  · exact effect_line .holdFreed s t h
  · cases h
    exact .hold ‹_› false

/-- Every command does one of the listed things. -/
theorem exec_effect (c : Instr) (s t : State) (h : exec c s = .next t) : Effect s t := by
  cases c with
  | hostByteReceived b stop => exact effect_whileRunning _ s t (fun hp => .byte hp b stop) h
  | replySent => exact effect_whileRunning _ s t (fun hp => .reply hp) h
  | badFrameCode tag code payload => exact effect_badFrameCode tag code payload s t h
  | resetAsserted => cases h; exact .halt .inReset (by decide)
  | powerLoss => cases h; exact .halt .off (by decide)
  | resetReleased => exact effect_resetReleased s t h
  | estopLineChange x low => exact effect_estopLineChange x low s t h
  | nodeWinsArbitration u a => exact effect_nodeWinsArbitration u a s t h
  | holdReleased => exact effect_holdReleased s t h
  | timeBaseTick => exact effect_line .tick s t h
  | settleTimerExpiry i => exact effect_line (.settle i) s t h
  | moveTimerExpiry i => exact effect_line (.move i) s t h
  | openTimerExpiry i => exact effect_line (.openTimer i) s t h
  | stopConfirmExpiry => exact effect_line .stopConfirm s t h
  | nodeSilence a => exact effect_line (.silence a) s t h
  | responseTimeout us => exact effect_line (.responseTimeout us) s t h
  | stuckLinkDetected us => exact effect_line (.stuck us) s t h
  | linkResetPulseEnd => exact effect_line .pulseOver s t h
  | arbitrationOpportunity => exact effect_line .opportunity s t h
  | arbitrationWon c => exact effect_line (.won c) s t h
  | txnFrameSent => exact effect_line .checkByteSent s t h
  | stopBroadcastSent => exact effect_line .stopSent s t h
  | responseByteReceived b p => exact effect_line (.response b p) s t h
  | nodeFrameRefused f => exact effect_line (.nodeFrame f) s t h
  | standReport r => exact effect_line (.nodeFrame (standReportFrame r)) s t h
  | entryReport r => exact effect_line (.nodeFrame (entryReportFrame r)) s t h
  | gaugeSample r => exact effect_line (.nodeFrame (gaugeSampleFrame r)) s t h
  | _ => exact effect_frame _ _ s t h

theorem step_withPending_cons (c : Instr) (q : List Instr) (s : State) :
    step (s.withPending (c :: q)) = exec c (s.withPending q) := rfl

theorem step_withPending_nil (s : State) : step (s.withPending []) = .next (s.withPending []) := rfl

/-- A step takes the effect of its front command on the state with the queue's rest, or idles. -/
theorem step_effect (s t : State) (h : step s = .next t) : ∃ q, Effect (s.withPending q) t := by
  unfold step at h
  split at h
  · rename_i hq
    cases h
    refine ⟨[], ?_⟩
    have e : s.withPending [] = s := by rw [← hq]; rfl
    rw [e]
    exact .idle
  · rename_i c rest _
    exact ⟨rest, exec_effect c _ t h⟩

/-! ### A law that every step keeps -/

/-- The events that a law must survive, where of the host port only the events matter to
it. -/
structure EventsKeep (P : State → Prop) : Prop where
  pending : ∀ s q, P s → P (s.withPending q)
  host : ∀ s f, (∀ h, (f h).events = h.events) → P s → P (s.onHost f)
  line : ∀ (e : LineEvent) s, s.power = .running → P s → P (e.run s)
  request : ∀ r s, s.power = .running → P s → P (serve r s).1
  abandon : ∀ s, P s → P (abandonForUrgent s)
  reset : ∀ d s, P s → P (afterReset d s)
  halt : ∀ p s, p ≠ .running → P s → P (halted p s)
  press : ∀ x low s, s.power ≠ .running → P s → P (heldPress x low s)
  hold : ∀ b s, s.power ≠ .running → P s → P (heldHold b s)

variable {P : State → Prop}

/-- A frame taken serves its request on the state that has it in hand (R187). -/
theorem EventsKeep.takeHead (K : EventsKeep P) (s : State) (hp : s.power = .running) (h : P s) :
    P (takeHead s) := by
  unfold Machine.takeHead
  split
  · exact h
  · exact K.host _ _ (fun _ => rfl) (K.abandon _ (K.request _ s hp h))

theorem EventsKeep.submit (K : EventsKeep P) (tag : Byte) (r : Request) (s : State)
    (hp : s.power = .running) (h : P s) : P (submit tag r s) := by
  unfold Machine.submit
  split
  · exact K.host _ _ (fun _ => rfl) (K.host _ _ (fun _ => rfl) h)
  · dsimp only
    split
    · exact K.takeHead _ hp (K.host _ _ (fun _ => rfl) (K.host _ _ (fun _ => rfl) h))
    · exact K.host _ _ (fun _ => rfl) (K.host _ _ (fun _ => rfl) h)

theorem EventsKeep.judge (K : EventsKeep P) (bs : List Byte) (s : State) (hp : s.power = .running)
    (h : P s) : P (judge bs s) := by
  unfold Machine.judge
  dsimp only
  split
  · exact K.host _ _ (fun _ => rfl) h
  · split
    · split
      · exact K.submit _ _ s hp h
      · exact K.host _ _ (fun _ => rfl) h
    · exact K.host _ _ (fun _ => rfl) h

theorem EventsKeep.addContent (K : EventsKeep P) (b : Byte) (s : State) (hp : s.power = .running)
    (h : P s) : P (addContent b s) := by
  unfold Machine.addContent
  dsimp only
  split
  · exact K.host _ _ (fun _ => rfl) h
  · split
    · exact K.judge _ s hp h
    · exact K.host _ _ (fun _ => rfl) h

theorem EventsKeep.assemble (K : EventsKeep P) (b : Byte) (stop : Bool) (s : State)
    (hp : s.power = .running) (h : P s) : P (assemble b stop s) := by
  unfold Machine.assemble
  cases s.host.asm with
  | idle =>
    dsimp only
    split
    · exact K.host _ _ (fun _ => rfl) h
    · exact h
  | receiving =>
    dsimp only
    repeat' split
    · exact K.host _ _ (fun _ => rfl) h
    · exact K.host _ _ (fun _ => rfl) h
    · exact K.host _ _ (fun _ => rfl) h
    · exact K.addContent b s hp h
  | escaped =>
    dsimp only
    repeat' split
    · exact K.host _ _ (fun _ => rfl) h
    · exact K.host _ _ (fun _ => rfl) h
    · exact K.addContent _ s hp h
    · exact K.addContent _ s hp h
    · exact K.host _ _ (fun _ => rfl) h

theorem EventsKeep.endReply (K : EventsKeep P) (s : State) (hp : s.power = .running) (h : P s) :
    P (endReply s) := by
  unfold Machine.endReply
  split
  · split
    · exact K.reset 1 s h
    · exact K.takeHead _ hp (K.host _ _ (fun _ => rfl) h)
  · exact h

theorem EventsKeep.effect (K : EventsKeep P) {s t : State} (e : Effect s t) (h : P s) : P t := by
  cases e with
  | idle => exact h
  | line hp e => exact K.abandon _ (K.line e s hp h)
  | byte hp b stop => exact K.abandon _ (K.assemble b stop s hp h)
  | reply hp => exact K.abandon _ (K.endReply s hp h)
  | frame hp tag r => exact K.abandon _ (K.submit tag r s hp h)
  | reset => exact K.reset 0 s h
  | halt p hp => exact K.halt p s hp h
  | press hp x low => exact K.press x low s hp h
  | hold hp b => exact K.hold b s hp h

/-- A law that the events keep is kept by every step. -/
theorem EventsKeep.step (K : EventsKeep P) (s t : State) (h : P s) (hs : step s = .next t) : P t := by
  obtain ⟨q, e⟩ := step_effect s t hs
  exact K.effect e (K.pending s q h)

end Sys2Proof.Machine
end

section
/-! The statement about the step. -/

open Sys2Proof Sys2Proof.Machine

/-- Settles O1: both clauses are the step's own two cases. -/
theorem stepTakesFrontCommand : Obligations.StepTakesFrontCommand :=
  ⟨step_withPending_cons, step_withPending_nil⟩
end


section
/-! SUPPORT. A law of the units that the tracking queue, the Product Store, the mill record and the time base
do not bear on: which operations of the units it has to survive, and that it then survives every event. -/

namespace Sys2Proof.Machine

/-! ### States that differ only in the strip, the products, the mill record and the time -/

/-- `t` is `s` but for the tracking state, the Product Store, the mill record, the time base, the levels of
the straps, and the fields of the link and the host port that no law of a unit reads. -/
structure Alike (s t : State) : Prop where
  power : t.power = s.power
  stands : t.stands = s.stands
  gauges : t.gauges = s.gauges
  demands : t.demands = s.demands
  actuators : t.actuators = s.actuators
  trips : t.trips = s.trips
  nodes : t.nodes = s.nodes
  item : t.link.inFlight.map (·.item) = s.link.inFlight.map (·.item)
  counters : t.link.counters = s.link.counters
  events : t.host.events = s.host.events

theorem alike_onTrack (s : State) (f : Track → Track) : Alike s (s.onTrack f) :=
  ⟨rfl, rfl, rfl, rfl, rfl, rfl, rfl, rfl, rfl, rfl⟩

theorem alike_onStore (s : State) (f : Store → Store) : Alike s (s.onStore f) :=
  ⟨rfl, rfl, rfl, rfl, rfl, rfl, rfl, rfl, rfl, rfl⟩

theorem alike_onMill (s : State) (f : MillRecord → MillRecord) : Alike s (s.onMill f) :=
  ⟨rfl, rfl, rfl, rfl, rfl, rfl, rfl, rfl, rfl, rfl⟩

theorem alike_withPending (s : State) (q : List Instr) : Alike s (s.withPending q) :=
  ⟨rfl, rfl, rfl, rfl, rfl, rfl, rfl, rfl, rfl, rfl⟩

theorem alike_tick (s : State) : Alike s { s with now := s.now + 1 } :=
  ⟨rfl, rfl, rfl, rfl, rfl, rfl, rfl, rfl, rfl, rfl⟩

theorem alike_onLink (s : State) (f : Link → Link)
    (hi : (f s.link).inFlight.map (·.item) = s.link.inFlight.map (·.item))
    (hc : (f s.link).counters = s.link.counters) : Alike s (s.onLink f) :=
  ⟨rfl, rfl, rfl, rfl, rfl, rfl, rfl, hi, hc, rfl⟩

theorem alike_onHost (s : State) (f : HostPort → HostPort) (he : (f s.host).events = s.host.events) :
    Alike s (s.onHost f) :=
  ⟨rfl, rfl, rfl, rfl, rfl, rfl, rfl, rfl, rfl, he⟩

/-! ### The operations a law of the units has to survive -/

/-- No link counter is above 65,535 (R178). -/
structure CountersBounded (c : LinkCounters) : Prop where
  checkErrors : c.checkErrors ≤ 65535
  rejected : c.rejected ≤ 65535
  failed : c.failed ≤ 65535
  abandoned : c.abandoned ≤ 65535
  resets : c.resets ≤ 65535

/-- A law that the operations of the units keep, with those of the requests that bear on a unit. -/
structure UnitsKeep (P : State → Prop) : Prop where
  elsewhere : ∀ {s t}, Alike s t → P s → P t
  release : ∀ s, P s → P (releaseLink s)
  counters : ∀ (f : LinkCounters → LinkCounters) s, (∀ c, CountersBounded c → CountersBounded (f c)) → P s →
    P (s.onLink fun l => { l with counters := f l.counters })
  raised : ∀ c sub n v s, P s → P (raise c sub n v s)
  gauge : ∀ p (f : GaugeRecord → GaugeRecord) s, (∀ r, r.discarded ≤ 65535 → (f r).discarded ≤ 65535) → P s → P (s.onGauge p f)
  node : ∀ a (f : NodeEntry → NodeEntry) s, (∀ n, (f n).role = n.role) → (∀ n, n.failures ≤ 3 → (f n).failures ≤ 3) → P s →
    P (s.onNode a f)
  trip : ∀ src d s, P s → P (raiseTrip src d s)
  confirm : ∀ s, P s → P (confirmTest s)
  low : ∀ z n s, n ≤ 255 → P s → P (s.onTrips fun t => { t with low := upd t.low z fun _ => n })
  drive : ∀ i d s, P s → P (s.onTrips fun t => { t with drive := upd t.drive i fun _ => d })
  driveEntry : ∀ d s, P s → P (s.onTrips fun t => { t with driveEntry := d })
  freeze : ∀ i n s, P s → P (freezeMonitor i n s)
  product : ∀ i y s, P s → P (biteProduct i y s)
  feed : ∀ i y s, P s → P (biteDemand i y s)
  monitor : ∀ i x h s, P s → P (monitorUpdate i x h s)
  report : ∀ i r s, P s → P (takeReport i r s)
  outcome : ∀ i n o s, P s → P (takeOutcome i n o s)
  settle : ∀ i s, P s → P (settleExpiry i s)
  move : ∀ i s, P s → P (moveExpiry i s)
  openTimer : ∀ i s, P s → P (openExpiry i s)
  stopConfirm : ∀ s, P s → P (confirmExpiry s)
  estop : ∀ x low s, P s → P (estopChange x low s)
  won : ∀ c s, P s → P (winArbitration c s)
  stopSent : ∀ s, P s → P (broadcastSent s)
  drop : ∀ r s, r ≠ .none → P s → P (dropRole r s)
  give : ∀ a r s, r ≠ .none → P s → P (giveRole a r s)
  forget : ∀ a r s, P s → P (forgetDrive a r s)
  remove : ∀ i s, P s → P (removeStand i s)
  configureStand : ∀ p s, P s → P (serveConfigureStand p s).1
  startDemands : ∀ s, P s → P (startDemands s)
  stopDemands : ∀ s, P s → P (stopDemands s)
  offset : ∀ i o s, -10000 ≤ o → o ≤ 10000 → P s → P (offsetEffect i o s)
  zeroTrim : ∀ i s, P s → P (zeroTrim i s)
  engage : ∀ b s, P s → P (serveEngage b s).1
  opens : ∀ is s, P s → P (openEffect is s)
  configureTrip : ∀ i c a s, P s → P (serveConfigureTrip i c a s).1
  clearTrips : ∀ s, s.power = .running → P s → P (serveClearTrips s).1
  readTrips : ∀ v f s, P s → P (serveReadTrips v f s).1
  readEvents : ∀ b s, P s → P (serveReadEvents b s).1
  reset : ∀ d s, P s → P (afterReset d s)
  halt : ∀ p s, p ≠ .running → P s → P (halted p s)
  press : ∀ x low s, s.power ≠ .running → P s → P (heldPress x low s)

/-! ### The steps of an advance by name (R19) -/

/-- Step 1 of R19, made in zone 0. -/
def closeAt (z : Zone) (s : State) : State := if z.val = 0 then closeStep s else s

/-- Step 2 of R19, made where a stand of the mill ends the zone. -/
def bitesAt (z : Zone) (s : State) : State :=
  match standAtEnd z with
  | some i => if withinN s i then biteStep i s else s
  | none => s

/-- Step 3 of R19, made where the zone begins at a stand of the mill with a gauge behind it. -/
def passagesAt (z : Zone) (before : Nat) (s : State) : State :=
  match h : z.val with
  | 0 => s
  | j + 1 =>
    let i : Stand := ⟨j, by omega⟩
    if withinN s i ∧ s.gauges[z].installed then passageStep i before s else s

/-- Step 4 of R19, made where a stand of the mill ends the zone. -/
def approachAt (z : Zone) (s : State) : State :=
  match standAtEnd z with
  | some i => if withinN s i then approachStep i s else s
  | none => s

/-- Step 5 of R19, made in zone N. -/
def retireAt (z : Zone) (s : State) : State :=
  if z.val = s.mill.n then retireLoop z s.track.queue.length s else s

theorem advanceSteps_eq (z : Zone) (before : Nat) (s : State) : advanceSteps z before s =
    retireAt z (approachAt z (passagesAt z before (bitesAt z (closeAt z s)))) := by
  have m1 : (closeAt z s).mill = s.mill := by unfold closeAt; split <;> simp
  have g1 : (closeAt z s).gauges = s.gauges := by unfold closeAt; split <;> simp
  have m2 : ∀ u, (bitesAt z u).mill = u.mill := by intro u; unfold bitesAt; (repeat' split) <;> simp
  have g2 : ∀ u, (bitesAt z u).gauges = u.gauges := by
    intro u; unfold bitesAt; (repeat' split) <;> simp
  have m3 : ∀ u, (passagesAt z before u).mill = u.mill := by
    intro u; unfold passagesAt; dsimp only; (repeat' split) <;> simp
  have m4 : ∀ u, (approachAt z u).mill = u.mill := by
    intro u; unfold approachAt; (repeat' split) <;> simp
  rw [retireAt, m4, m3, m2, m1]
  rw [approachAt]
  simp only [withinN, m3, m2, m1]
  rw [passagesAt]
  simp only [withinN, m2, m1, g2, g1]
  unfold bitesAt
  simp only [withinN, m1]
  rfl

namespace UnitsKeep

variable {P : State → Prop}

theorem onTrack (K : UnitsKeep P) (f : Track → Track) (s : State) (h : P s) : P (s.onTrack f) :=
  K.elsewhere (alike_onTrack s f) h

theorem onCell (K : UnitsKeep P) (n : Nat) (f : Cell → Cell) (s : State) (h : P s) :
    P (onCell n f s) :=
  K.onTrack _ s h

theorem onEntry (K : UnitsKeep P) (n : Nat) (i : Stand) (f : StandEntry → StandEntry) (s : State)
    (h : P s) : P (onEntry n i f s) :=
  K.onCell n _ s h

theorem closeForming (K : UnitsKeep P) (f : FormingCell) (n : Nat) (g : FormingCell) (s : State)
    (h : P s) : P (closeForming f n g s) := by
  unfold Machine.closeForming
  exact K.onTrack _ s h

theorem closeHere (K : UnitsKeep P) (f : FormingCell) (s : State) (h : P s) : P (closeHere f s) :=
  K.closeForming f _ _ s h

theorem onStore (K : UnitsKeep P) (f : Store → Store) (s : State) (h : P s) : P (s.onStore f) :=
  K.elsewhere (alike_onStore s f) h

/-- A pass over a list keeps the law where each of its turns does. -/
theorem pass {α : Type} (f : State → α → State) (hf : ∀ s x, P s → P (f s x)) (l : List α) (s : State)
    (h : P s) : P (l.foldl f s) := by
  induction l generalizing s with
  | nil => exact h
  | cons x l ih => exact ih _ (hf s x h)

/-! ### Gauges (chapter 3) -/

theorem gaugeTests (K : UnitsKeep P) (p : Gauge) (s : State) (h : P s) : P (gaugeTests p s) := by
  unfold Machine.gaugeTests
  dsimp only
  repeat' split
  · exact h
  · exact K.gauge p _ s (fun _ hr => hr) h
  · exact K.gauge p _ s (fun _ hr => hr) h
  · exact h

theorem allGaugeTests (K : UnitsKeep P) (s : State) (h : P s) : P (allGaugeTests s) :=
  pass _ (fun s p => K.gaugeTests p s) allGauges s h

theorem setGaugeMode (K : UnitsKeep P) (p : Gauge) (m : GaugeMode) (s : State) (h : P s) :
    P (setGaugeMode p m s) := by
  have h1 := K.gauge p (fun r => { r with
    mode := m, phase := phaseAfter s.gauges[p].phase s.gauges[p].mode m
    inFlight := r.inFlight && decide (phaseAfter s.gauges[p].phase s.gauges[p].mode m = .placed)
    holdOff := r.holdOff && decide (m ≠ .measuring) }) s (fun _ hr => hr) h
  have hc : ∀ u, P u → P (completeStd p u) := fun u hu =>
    K.raised _ _ _ _ _ (K.gauge p _ u (fun _ hr => hr) hu)
  unfold Machine.setGaugeMode
  dsimp only
  repeat' split
  · exact hc _ (K.raised _ _ _ _ _ h1)
  · exact hc _ h1
  · exact K.raised _ _ _ _ _ h1
  · exact h1

theorem gaugeLost (K : UnitsKeep P) (p : Gauge) (s : State) (h : P s) : P (gaugeLost p s) :=
  K.gaugeTests p _ (K.setGaugeMode p _ s h)

theorem discardSample (K : UnitsKeep P) (p : Gauge) (s : State) (h : P s) : P (discardSample p s) :=
  K.gauge p _ s (fun _ _ => Nat.min_le_left _ _) h

theorem attributeSample (K : UnitsKeep P) (p : Gauge) (v : Nat) (s : State) (h : P s) :
    P (attributeSample p v s) := by
  unfold Machine.attributeSample
  split
  · unfold attributeEntry
    repeat' split
    · exact K.discardSample 0 s h
    · exact K.onTrack _ s h
    · exact K.discardSample 0 s h
    · exact K.onTrack _ s h
    · exact K.discardSample 0 s h
  · unfold attributeAfter
    dsimp only
    repeat' split
    · exact K.discardSample _ s h
    · exact K.discardSample _ s h
    · exact K.onEntry _ _ _ s h
    · exact K.discardSample _ s h

theorem takeSample (K : UnitsKeep P) (p : Gauge) (r : GaugeSample) (s : State) (h : P s) :
    P (takeSample p r s) := by
  unfold Machine.takeSample
  dsimp only
  refine K.gaugeTests p _ ?_
  split
  · exact K.attributeSample p _ _ (K.setGaugeMode p _ s h)
  · exact K.setGaugeMode p _ s h

theorem growLength (K : UnitsKeep P) (p : Gauge) (n : Nat) (s : State) (h : P s) :
    P (growLength p n s) := by
  have h1 := K.gauge p (fun r => { r with length := satAdd (2 ^ 48 - 1) s.gauges[p].length n }) s
    (fun _ hr => hr) h
  have h2 := K.gauge p (fun r => { r with phase := .waiting, source := .length }) _ (fun _ hr => hr) h1
  unfold Machine.growLength
  dsimp only
  repeat' split
  · exact h
  · exact h1
  · exact K.raised _ _ _ _ _ (K.gauge p _ _ (fun _ hr => hr) h2)
  · exact h2
  · exact K.raised _ _ _ _ _ (K.gauge p _ _ (fun _ hr => hr) h1)
  · exact h1

theorem takeStdOutcome (K : UnitsKeep P) (p : Gauge) (o : Handed) (s : State) (h : P s) :
    P (takeStdOutcome p o s) := by
  unfold Machine.takeStdOutcome
  dsimp only
  repeat' split
  · exact K.gauge p _ s (fun _ hr => hr) h
  · exact K.raised _ _ _ _ _ (K.gauge p _ s (fun _ hr => hr) h)
  · exact K.gauge p _ s (fun _ hr => hr) h
  · exact h

/-! ### The strip (chapter 2) -/

theorem signalApproach (K : UnitsKeep P) (i : Stand) (y : Cell) (s : State) (h : P s) :
    P (signalApproach i y s) :=
  K.freeze i _ _ (K.onCell _ _ s h)

theorem takeMeasured (K : UnitsKeep P) (i : Stand) (x : Cell) (v : Nat) (s : State) (h : P s) :
    P (takeMeasured i x v s) := by
  unfold Machine.takeMeasured
  split
  · exact K.monitor i x v s h
  · exact h

theorem takeMassFlow (K : UnitsKeep P) (i : Stand) (x : Cell) (m : MassFlow) (s : State) (h : P s) :
    P (takeMassFlow i x m s) := by
  unfold Machine.takeMassFlow
  split
  · exact K.monitor i x _ s h
  · exact h

theorem finalise (K : UnitsKeep P) (i : Stand) (x : Cell) (s : State) (h : P s) :
    P (finalise i x s) := by
  unfold Machine.finalise
  repeat' split
  · exact h
  · exact K.takeMeasured i x _ _ (K.onEntry _ _ _ s h)
  · exact h

theorem formMassFlow (K : UnitsKeep P) (i : Stand) (x : Cell) (n : Nat) (s : State) (h : P s) :
    P (formMassFlow i x n s) := by
  unfold Machine.formMassFlow
  repeat' split
  · exact h
  · exact h
  · exact K.takeMassFlow i x _ _ (K.onEntry _ _ _ s h)

theorem threadingDone (K : UnitsKeep P) (i : Stand) (y : Cell) (s : State) (h : P s) :
    P (threadingDone i y s) := by
  unfold Machine.threadingDone
  split
  · exact K.raised _ _ _ _ _ (K.onTrack _ s h)
  · exact h

theorem bite (K : UnitsKeep P) (i : Stand) (y : Cell) (s : State) (h : P s) : P (bite i y s) := by
  have handed : ∀ u, P u → P (biteDemand i y (biteProduct i y u)) := fun u hu =>
    K.feed i y _ (K.product i y u hu)
  unfold Machine.bite
  dsimp only
  refine K.threadingDone i y _ ?_
  repeat' split
  · exact K.formMassFlow i _ _ _ (handed _ (K.signalApproach i y _ (K.onCell _ _ s h)))
  · exact K.formMassFlow i _ _ _ (handed _ (K.onCell _ _ s h))
  · exact handed _ (K.signalApproach i y _ (K.onCell _ _ s h))
  · exact handed _ (K.onCell _ _ s h)

theorem biteLoop (K : UnitsKeep P) (i : Stand) (fuel : Nat) (s : State) (h : P s) :
    P (biteLoop i fuel s) := by
  induction fuel generalizing s with
  | zero => exact h
  | succ fuel ih =>
    unfold Machine.biteLoop
    repeat' split
    · exact h
    · exact h
    · exact ih _ (K.bite i _ s h)
    · exact h

theorem cobbleCheck (K : UnitsKeep P) (i : Stand) (s : State) (h : P s) : P (cobbleCheck i s) := by
  unfold Machine.cobbleCheck
  repeat' split
  · exact h
  · exact K.trip _ _ _ (K.onTrack _ s h)
  · exact h

theorem biteStep (K : UnitsKeep P) (i : Stand) (s : State) (h : P s) : P (biteStep i s) :=
  K.cobbleCheck i _ (K.biteLoop i _ s h)

theorem confirmHead (K : UnitsKeep P) (i : Stand) (force : Nat) (s : State) (h : P s) :
    P (confirmHead i force s) := by
  unfold Machine.confirmHead
  repeat' split
  · exact h
  · exact K.bite i _ s h
  · exact h
  · exact h

theorem closeStep (K : UnitsKeep P) (s : State) (h : P s) : P (closeStep s) := by
  unfold Machine.closeStep
  dsimp only
  repeat' split
  · exact h
  · exact h
  · exact K.closeHere _ s h
  · exact K.onTrack _ s h
  · exact K.raised _ _ _ _ _ (K.onTrack _ _ (K.onTrack _ s h))

theorem passageStep (K : UnitsKeep P) (i : Stand) (before : Nat) (s : State) (h : P s) :
    P (passageStep i before s) := by
  refine pass _ (fun u y hu => ?_) _ s h
  split
  · exact K.finalise i _ u hu
  · exact hu

theorem approachStep (K : UnitsKeep P) (i : Stand) (s : State) (h : P s) : P (approachStep i s) :=
  pass _ (fun u y hu => K.signalApproach i y u hu) _ s h

theorem afterClosure (K : UnitsKeep P) (s : State) (h : P s) : P (afterClosure s) :=
  K.approachStep 0 _ (K.biteStep 0 s h)

theorem offerRecord (K : UnitsKeep P) (s : State) (h : P s) : P (offerRecord s) := by
  unfold Machine.offerRecord
  dsimp only
  repeat' split
  · exact h
  · exact K.afterClosure _ (K.closeForming _ _ _ s h)
  · exact K.afterClosure _ (K.closeHere _ s h)
  · exact h

theorem retireLoop (K : UnitsKeep P) (z : Zone) (fuel : Nat) (s : State) (h : P s) :
    P (retireLoop z fuel s) := by
  induction fuel generalizing s with
  | zero => exact h
  | succ fuel ih =>
    unfold Machine.retireLoop
    repeat' split
    · exact ih _ (K.offerRecord _ (K.onTrack _ s h))
    · exact h
    · exact h

theorem bitesAt (K : UnitsKeep P) (z : Zone) (s : State) (h : P s) : P (bitesAt z s) := by
  unfold Machine.bitesAt
  repeat' split
  · exact K.biteStep _ s h
  · exact h
  · exact h

theorem passagesAt (K : UnitsKeep P) (z : Zone) (before : Nat) (s : State) (h : P s) :
    P (passagesAt z before s) := by
  unfold Machine.passagesAt
  dsimp only
  repeat' split
  · exact h
  · exact K.passageStep _ before s h
  · exact h

theorem approachAt (K : UnitsKeep P) (z : Zone) (s : State) (h : P s) : P (approachAt z s) := by
  unfold Machine.approachAt
  repeat' split
  · exact K.approachStep _ s h
  · exact h
  · exact h

theorem retireAt (K : UnitsKeep P) (z : Zone) (s : State) (h : P s) : P (retireAt z s) := by
  unfold Machine.retireAt
  split
  · exact K.retireLoop z _ s h
  · exact h

theorem advanceSteps (K : UnitsKeep P) (z : Zone) (before : Nat) (s : State) (h : P s) :
    P (advanceSteps z before s) := by
  rw [advanceSteps_eq]
  refine K.retireAt z _ (K.approachAt z _ (K.passagesAt z before _ (K.bitesAt z _ ?_)))
  unfold closeAt
  split
  · exact K.closeStep s h
  · exact h

theorem testsAfter (K : UnitsKeep P) (z : Zone) (s : State) (h : P s) : P (testsAfter z s) := by
  unfold Machine.testsAfter
  dsimp only
  split
  · exact K.gaugeTests _ _ (K.gaugeTests z s h)
  · exact K.gaugeTests z s h

theorem advance (K : UnitsKeep P) (z : Zone) (n : Nat) (s : State) (h : P s) : P (advance z n s) := by
  unfold Machine.advance
  dsimp only
  split
  · exact h
  · exact K.testsAfter z _ (K.growLength z _ _ (K.advanceSteps z _ _ (K.onTrack _ s h)))

theorem takeWeld (K : UnitsKeep P) (s : State) (h : P s) : P (takeWeld s) := by
  have coil : ∀ p u, P u → P (takeCoil p u) := by
    intro p u hu
    unfold takeCoil
    split
    · exact K.raised _ _ _ _ _ (K.onStore _ u hu)
    · exact K.raised _ _ _ _ _ (K.raised _ _ _ _ _ hu)
  unfold Machine.takeWeld
  dsimp only
  repeat' split
  · exact h
  · exact h
  · exact K.raised _ _ _ _ _ h
  · exact K.allGaugeTests _ (coil _ _ (K.onTrack _ s h))
  · exact K.allGaugeTests _ (coil _ _ (K.closeForming _ _ _ s h))
  · exact K.allGaugeTests _ (coil _ _ (K.onTrack _ s h))

/-! ### Nodes and reports (chapters 7 and 8) -/

theorem frameArrived (K : UnitsKeep P) (a : Node) (s : State) (h : P s) : P (frameArrived a s) := by
  have h1 := K.node a (fun n => { n with lastFrame := s.now, failures := 0, state := .present }) s
    (fun _ => rfl) (fun _ _ => Nat.zero_le _) h
  unfold Machine.frameArrived
  dsimp only
  split
  · exact h1
  · exact K.raised _ _ _ _ _ h1

theorem loseNode (K : UnitsKeep P) (a : Node) (cause : Int) (s : State) (h : P s) :
    P (loseNode a cause s) := by
  have h1 := K.raised .nodeLost (.node a) none cause _
    (K.node a (fun n => { n with state := .lost }) s (fun _ => rfl) (fun _ hn => hn) h)
  unfold Machine.loseNode
  dsimp only
  repeat' split
  · exact h1
  · exact h1
  · exact K.trip _ _ _ h1
  · exact h1
  · exact K.trip _ _ _ h1
  · exact K.gaugeLost _ _ h1

theorem countFailure (K : UnitsKeep P) (a : Node) (s : State) (h : P s) : P (countFailure a s) := by
  have h1 := K.node a (fun n => { n with failures := satAdd 3 n.failures 1 }) s (fun _ => rfl)
    (fun _ _ => Nat.min_le_left _ _) h
  unfold Machine.countFailure
  dsimp only
  split
  · exact K.loseNode a 1 _ h1
  · exact h1

theorem silenceTest (K : UnitsKeep P) (a : Node) (s : State) (h : P s) : P (silenceTest a s) := by
  unfold Machine.silenceTest
  split
  · exact K.loseNode a 0 s h
  · exact h

theorem tensionReading (K : UnitsKeep P) (z : Fin 5) (v : Nat) (s : State) (h : P s) :
    P (tensionReading z v s) := by
  unfold Machine.tensionReading
  dsimp only
  generalize hn : (if (tensioned s z && decide (v < breakTension s z)) = true then
    satAdd 255 s.trips.low[z] 1 else 0) = n
  have hle : n ≤ 255 := by
    rw [← hn]
    split
    · exact Nat.min_le_left _ _
    · exact Nat.zero_le _
  split
  · exact K.trip _ _ _ (K.low z n s hle h)
  · exact K.low z n s hle h

theorem deliverStand (K : UnitsKeep P) (a : Node) (i : Stand) (r : StandReport) (s : State) (h : P s) :
    P (deliverStand a i r s) := by
  have h1 := K.node a (fun n => { n with remote := !reportLocal r, echo := r.echo }) _ (fun _ => rfl)
    (fun _ hn => hn) (K.frameArrived a s h)
  have h2 := K.drive i (driveOf r.drive) _
    (K.advance (zoneAfter i) r.increment.toNat _ (K.confirmHead i r.force.toNat _ h1))
  unfold Machine.deliverStand protectStand trackStand
  refine K.report i r _ (K.confirm _ ?_)
  split
  · exact K.tensionReading _ _ _ h2
  · exact h2

theorem deliverEntry (K : UnitsKeep P) (a : Node) (r : EntryReport) (s : State) (h : P s) :
    P (deliverEntry a r s) := by
  have h1 := K.advance 0 r.increment.toNat _ (K.frameArrived a s h)
  unfold Machine.deliverEntry protectEntry trackEntry
  refine K.confirm _ (K.tensionReading 0 _ _ (K.driveEntry _ _ ?_))
  dsimp only
  split
  · exact K.takeWeld _ h1
  · exact h1

theorem answeredWith (K : UnitsKeep P) (ans : Option Answer) (s : State) (h : P s) :
    P (s.onLink fun l => { l with sender := none, answer := ans }) :=
  K.elsewhere (alike_onLink s _ rfl rfl) h

theorem rejectFrame (K : UnitsKeep P) (sender : BitVec 4) (s : State) (h : P s) :
    P (rejectFrame sender s) := by
  have h1 := K.counters (fun c => { c with rejected := satAdd 65535 c.rejected 1 }) s
    (fun c hc => { hc with rejected := Nat.min_le_left _ _ }) h
  unfold Machine.rejectFrame
  dsimp only
  split
  · exact K.countFailure _ _ h1
  · exact h1

theorem receiveFrame (K : UnitsKeep P) (f : NodeFrame) (s : State) (h : P s) :
    P (receiveFrame f s) := by
  unfold Machine.receiveFrame
  dsimp only
  repeat' split
  · exact K.answeredWith _ s h
  · exact K.counters (fun c => { c with checkErrors := satAdd 65535 c.checkErrors 1 }) _
      (fun c hc => { hc with checkErrors := Nat.min_le_left _ _ }) (K.answeredWith _ s h)
  · exact K.rejectFrame _ _ (K.answeredWith _ s h)
  · exact K.deliverStand _ _ _ _ (K.answeredWith _ s h)
  · exact K.deliverEntry _ _ _ (K.answeredWith _ s h)
  · exact K.takeSample _ _ _ (K.frameArrived _ _ (K.answeredWith _ s h))
  · exact h

/-! ### The part's transactions (chapter 8) -/

theorem countEnd_bounded (e : TxnEnd) (c : LinkCounters) (h : CountersBounded c) :
    CountersBounded (countEnd e c) := by
  unfold countEnd
  split
  · exact { h with failed := Nat.min_le_left _ _ }
  · exact { h with failed := Nat.min_le_left _ _ }
  · exact { h with abandoned := Nat.min_le_left _ _ }
  · exact h
  · exact h
  · exact h

theorem targetFailures (K : UnitsKeep P) (e : TxnEnd) (target : Option Node) (s : State) (h : P s) :
    P (targetFailures e target s) := by
  have zero : ∀ a, P (s.onNode a fun n => { n with failures := 0 }) := fun a =>
    K.node a _ s (fun _ => rfl) (fun _ _ => Nat.zero_le _) h
  unfold Machine.targetFailures
  repeat' split
  · exact h
  · exact K.countFailure _ s h
  · exact K.countFailure _ s h
  · exact h
  · exact zero _
  · exact zero _
  · exact zero _

theorem endTxn (K : UnitsKeep P) (f : InFlight) (e : TxnEnd) (s : State) (h : P s) :
    P (endTxn f e s) := by
  have h1 := K.targetFailures e f.target _
    (K.counters (countEnd e) s (countEnd_bounded e) h)
  unfold Machine.endTxn handOn
  split
  · exact h1
  · exact K.outcome _ _ _ _ h1
  · exact K.outcome _ _ _ _ h1
  · exact K.takeStdOutcome _ _ _ h1

theorem abandonForUrgent (K : UnitsKeep P) (s : State) (h : P s) : P (abandonForUrgent s) := by
  unfold Machine.abandonForUrgent
  repeat' split
  · exact h
  · exact K.endTxn _ _ _ (K.release s h)
  · exact h

theorem responseExpiry (K : UnitsKeep P) (us : Nat) (s : State) (h : P s) :
    P (responseExpiry us s) := by
  unfold Machine.responseExpiry
  repeat' split
  · exact K.endTxn _ _ _ (K.release s h)
  · exact h
  · exact h

theorem responseByte (K : UnitsKeep P) (b : Byte) (parity : Bool) (s : State) (h : P s) :
    P (responseByte b parity s) := by
  unfold Machine.responseByte
  dsimp only
  repeat' split
  · exact h
  · exact K.endTxn _ _ _ (K.release s h)
  · exact K.endTxn _ _ _ (K.release s h)
  · exact h

/-- The first share of a pulse: the link's fields and the counter, before the failure counts (R176). -/
theorem pulseLink (K : UnitsKeep P) (s : State) (h : P s) : P (s.onLink fun l =>
    { l with state := .resetting, inFlight := none, respTimer := none, sender := none, answer := none,
             contending := none, yield := false, lastReset := some s.now,
             counters := { l.counters with resets := satAdd 65535 l.counters.resets 1 } }) := by
  have h1 := K.counters (fun c => { c with resets := satAdd 65535 c.resets 1 }) _
    (fun c hc => { hc with resets := Nat.min_le_left _ _ }) (K.release s h)
  refine K.elsewhere ?_ h1
  exact ⟨rfl, rfl, rfl, rfl, rfl, rfl, rfl, rfl, rfl, rfl⟩

theorem startPulse (K : UnitsKeep P) (s : State) (h : P s) : P (startPulse s) := by
  have h2 := pass _ (fun u a hu => K.node a (fun n => { n with failures := 0 }) u (fun _ => rfl)
    (fun _ _ => Nat.zero_le _) hu) allNodes _ (K.pulseLink s h)
  unfold Machine.startPulse
  dsimp only
  split
  · exact K.endTxn _ _ _ h2
  · exact h2

theorem stuckDetected (K : UnitsKeep P) (us : Nat) (s : State) (h : P s) :
    P (stuckDetected us s) := by
  have h1 := K.raised .linkReset .none none 0 _
    (K.elsewhere (alike_onLink s (fun l => { l with stuck := true }) rfl rfl) h)
  unfold Machine.stuckDetected
  dsimp only
  repeat' split
  · exact K.startPulse _ (K.trip _ _ _ h)
  · exact K.startPulse _ (K.trip _ _ _ h1)
  · exact K.startPulse _ h
  · exact K.startPulse _ h1
  · exact h

theorem frameSent (K : UnitsKeep P) (s : State) (h : P s) : P (frameSent s) := by
  unfold Machine.frameSent
  cases hf : s.link.inFlight with
  | none => exact h
  | some f =>
    dsimp only
    split
    · exact h
    · split
      · exact K.elsewhere (alike_onLink s _ (by simp [hf]) rfl) h
      · exact h

/-- The events of the lines keep a law that the units' operations keep. -/
theorem line (K : UnitsKeep P) (e : LineEvent) (s : State) (h : P s) : P (e.run s) := by
  cases e with
  | tick => exact K.elsewhere (alike_tick s) h
  | estop x low => exact K.estop x low s h
  | settle i => exact K.settle i s h
  | move i => exact K.move i s h
  | openTimer i => exact K.openTimer i s h
  | stopConfirm => exact K.stopConfirm s h
  | silence a => exact K.silenceTest a s h
  | responseTimeout us => exact K.responseExpiry us s h
  | stuck us => exact K.stuckDetected us s h
  | pulseOver =>
    simp only [LineEvent.run, pulseEnd]
    split
    · exact K.elsewhere (alike_onLink s _ (by split <;> rfl) (by split <;> rfl)) h
    · exact h
  | opportunity =>
    simp only [LineEvent.run, Machine.opportunity]
    split
    · exact K.elsewhere (alike_onLink s _ rfl rfl) h
    · exact h
  | won c => exact K.won c s h
  | nodeWon u a =>
    have wins : P (s.onLink fun l => { l with
        state := .node, holdOther := true, sender := some a, answer := none
        nodeContended := l.nodeContended || l.contending.isSome, contending := none }) :=
      K.elsewhere (alike_onLink s _ rfl rfl) h
    simp only [LineEvent.run, nodeWins]
    cases s.link.state with
    | free =>
      dsimp only
      repeat' split
      · exact h
      · exact wins
      · exact h
      · exact wins
    | resetting => exact K.elsewhere (alike_onLink s _ rfl rfl) h
    | node => exact h
    | part => exact h
  | holdFreed =>
    simp only [LineEvent.run, releaseHold]
    split
    · exact K.elsewhere (alike_onLink s _ rfl rfl) h
    · exact K.elsewhere (alike_onLink s _ rfl rfl) h
    · exact h
    · exact h
  | checkByteSent => exact K.frameSent s h
  | stopSent => exact K.stopSent s h
  | response b p => exact K.responseByte b p s h
  | nodeFrame f => exact K.receiveFrame f s h

end UnitsKeep

end Sys2Proof.Machine
end


section
/-! SUPPORT. A law of the units through the requests of the host: with the events of the lines, what it takes
for the law to be kept by every step. -/

namespace Sys2Proof.Machine.UnitsKeep

variable {P : State → Prop}

theorem served {u : State} {r : Result} (h : P u) : P (u, r).1 := h

theorem removeGauge (K : UnitsKeep P) (p : Gauge) (s : State) (h : P s) : P (removeGauge p s) :=
  K.gauge p _ _ (fun _ _ => Nat.zero_le _) (K.drop _ s (by simp) h)

theorem millEffect (K : UnitsKeep P) (p : MillParams) (a : Node) (s : State) (h : P s) :
    P (millEffect p a s) := by
  unfold Machine.millEffect allSilenceTests
  refine K.confirm _ (pass _ (fun u b hu => K.silenceTest b u hu) allNodes _ ?_)
  refine pass _ (fun u z hu => ?_) allGauges _ (pass _ (fun u i hu => ?_) allStands _ ?_)
  · split
    · exact K.removeGauge z u hu
    · exact hu
  · split
    · exact K.remove i u hu
    · exact hu
  · exact K.give a _ _ (by simp) (K.forget a _ _ (K.elsewhere (alike_onMill s _) h))

theorem configureMill (K : UnitsKeep P) (p : MillParams) (s : State) (h : P s) :
    P (serveConfigureMill p s).1 := by
  unfold serveConfigureMill
  simp only [accept, refuse, badParam]
  repeat' split
  · exact h
  · exact h
  · exact served (K.millEffect p _ s h)
  · exact h

theorem configureGauge (K : UnitsKeep P) (p : GaugeParams) (s : State) (h : P s) :
    P (serveConfigureGauge p s).1 := by
  unfold serveConfigureGauge
  simp only [accept, refuse, badParam]
  repeat' split
  · exact h
  · exact h
  · exact h
  · exact h
  · exact served (K.removeGauge _ s h)
  · exact h
  · exact h
  · exact served (K.give _ _ _ (by simp) (K.gauge _ _ s (fun _ _ => Nat.zero_le _) h))
  · exact h
  · exact h

theorem start (K : UnitsKeep P) (b : Byte) (coil : BitVec 32) (s : State) (h : P s) :
    P (serveStart b coil s).1 := by
  have effect : ∀ p, P (startEffect p coil s) := fun p => by
    have h1 : P (startGauges (openRun p coil s)) := by
      unfold startGauges openRun
      exact pass _ (fun u z hu => K.gauge z _ u (fun _ _ => Nat.zero_le _) hu) allGauges _
        (K.onTrack _ s h)
    have h2 : P (startProducts p (startGauges (openRun p coil s))) := by
      unfold startProducts
      refine pass _ (fun u i hu => ?_) allStands _ (K.onStore _ _ h1)
      split
      · exact K.onStore _ u hu
      · exact hu
    unfold startEffect
    exact K.allGaugeTests _ (K.startDemands _ h2)
  unfold serveStart
  simp only [accept, refuse, badParam]
  repeat' split
  · exact h
  · exact h
  · exact h
  · exact served (effect _)
  · exact h

theorem stopEffect (K : UnitsKeep P) (s : State) (h : P s) : P (stopEffect s) := by
  unfold Machine.stopEffect
  exact K.allGaugeTests _ (K.stopDemands _ (K.onStore _ _ (K.onTrack _ s h)))

theorem stop (K : UnitsKeep P) (s : State) (h : P s) : P (serveStop s).1 := by
  unfold serveStop
  simp only [accept, refuse]
  repeat' split
  · exact h
  · exact h
  · exact served (K.stopEffect s h)

theorem orderStd (K : UnitsKeep P) (p : Gauge) (s : State) (h : P s) : P (orderStd p s) := by
  unfold Machine.orderStd
  exact K.gaugeTests _ _ (K.gauge _ _ s (fun _ hr => hr) h)

theorem standardize (K : UnitsKeep P) (b : Byte) (s : State) (h : P s) :
    P (serveStandardize b s).1 := by
  unfold serveStandardize
  simp only [accept, refuse, badParam]
  repeat' split
  · exact h
  · exact h
  · exact h
  · exact served (K.orderStd _ s h)

theorem resetLink (K : UnitsKeep P) (s : State) (h : P s) : P (serveResetLink s).1 := by
  unfold serveResetLink
  simp only [accept]
  split
  · exact h
  · exact served (K.raised _ _ _ _ _ (K.startPulse s h))

theorem setOffset (K : UnitsKeep P) (b : Byte) (o : BitVec 16) (s : State) (h : P s) :
    P (serveOffset b o s).1 := by
  unfold serveOffset
  simp only [accept, refuse, badParam]
  split
  · exact h
  · split
    · exact h
    · split
      · exact h
      · split
        · exact h
        · split
          · exact h
          · exact served (K.offset _ _ s (by omega) (by omega) h)

theorem resetTrim (K : UnitsKeep P) (b : Byte) (s : State) (h : P s) : P (serveResetTrim b s).1 := by
  have effect : ∀ is, P (trimEffect is s).1 := fun is => by
    unfold trimEffect
    exact pass _ (fun u i hu => K.zeroTrim i u hu) is s h
  unfold serveResetTrim
  simp only [refuse, badParam]
  repeat' split
  · exact h
  · exact h
  · exact effect _
  · exact h
  · exact h
  · exact effect _

theorem readNodes (K : UnitsKeep P) (b : Byte) (s : State) (h : P s) : P (serveReadNodes b s).1 := by
  have zero : CountersBounded countersReset := by constructor <;> decide
  unfold serveReadNodes
  simp only [accept, badParam]
  repeat' split
  · exact h
  · exact served (K.counters (fun _ => countersReset) s (fun _ _ => zero) h)
  · exact h

/-- The host port's own requests, but for Read Events, touch no unit. -/
theorem status (K : UnitsKeep P) (b : Byte) (s : State) (h : P s) : P (serveStatus b s).1 := by
  unfold serveStatus
  simp only [accept, badParam]
  repeat' split
  · exact h
  · exact served (K.elsewhere (alike_onHost s _ rfl) h)
  · exact h

theorem attention (K : UnitsKeep P) (b : Byte) (s : State) (h : P s) :
    P (serveAttention b s).1 := by
  unfold serveAttention
  simp only [accept, badParam]
  split
  · exact served (K.elsewhere (alike_onHost s _ rfl) h)
  · exact h

theorem writeProduct (K : UnitsKeep P) (i : Product) (e : ProductEntry) (s : State) (h : P s) :
    P (writeProduct i e s) := by
  unfold Machine.writeProduct
  exact K.onStore _ s h

/-- The requests of the Product Store touch no unit (R72 to R77). -/
theorem load (K : UnitsKeep P) (p : ProductParams) (s : State) (h : P s) : P (serveLoad p s).1 := by
  unfold serveLoad
  simp only [accept, refuse, badParam]
  repeat' split
  · exact h
  · exact h
  · exact h
  · exact served (K.writeProduct _ _ s h)

theorem erase (K : UnitsKeep P) (b : Byte) (s : State) (h : P s) : P (serveErase b s).1 := by
  unfold serveErase
  simp only [accept, refuse, badParam]
  repeat' split
  · exact h
  · exact h
  · exact served (K.writeProduct _ _ s h)
  · exact h

theorem append (K : UnitsKeep P) (coil : BitVec 32) (b : Byte) (s : State) (h : P s) :
    P (serveAppend coil b s).1 := by
  unfold serveAppend
  simp only [accept, refuse, badParam]
  repeat' split
  · exact h
  · exact h
  · exact h
  · exact served (K.onStore _ s h)

theorem openStand (K : UnitsKeep P) (b : Byte) (s : State) (h : P s) : P (serveOpen b s).1 := by
  unfold serveOpen
  simp only [accept, badParam]
  split
  · exact h
  · exact served (K.opens _ s h)

/-- A read request leaves the state as it was. -/
theorem read_unchanged (r : Request) (s : State) :
    (∀ f c n, r = .readCells f c n → (serve r s).1 = s) ∧ (∀ v i, r = .readProduct v i → (serve r s).1 = s) ∧
    ∀ i, r = .readStand i → (serve r s).1 = s := by
  refine ⟨?_, ?_, ?_⟩
  · rintro f c n rfl
    simp only [serve, serveReadCells]
    split <;> rfl
  · rintro v i rfl
    simp only [serve, serveReadProduct]
    (repeat' split) <;> rfl
  · rintro i rfl
    simp only [serve, serveReadStand]
    split <;> rfl

/-- The requests keep a law that the units' operations keep. -/
theorem request (K : UnitsKeep P) (r : Request) (s : State) (hp : s.power = .running) (h : P s) :
    P (serve r s).1 := by
  obtain ⟨cells, product, stand⟩ := read_unchanged r s
  cases r with
  | bad c reason => exact h
  | status c => exact K.status c s h
  | readEvents m => exact K.readEvents m s h
  | setAttentionLevel l => exact K.attention l s h
  | restart => exact h
  | configureMill p => exact K.configureMill p s h
  | configureStand p => exact K.configureStand p s h
  | configureGauge p => exact K.configureGauge p s h
  | startTracking p c => exact K.start p c s h
  | stopTracking => exact K.stop s h
  | readCells f c n => rw [cells f c n rfl]; exact h
  | standardizeGauge p => exact K.standardize p s h
  | readGauges => exact h
  | loadProduct p => exact K.load p s h
  | eraseProduct i => exact K.erase i s h
  | readProduct v i => rw [product v i rfl]; exact h
  | appendCoil c p => exact K.append c p s h
  | clearCoilList => exact served (K.onStore (fun t => { t with coils := [] }) s h)
  | setOffset i o => exact K.setOffset i o s h
  | resetTrim n => exact K.resetTrim n s h
  | engageStand i => exact K.engage i s h
  | openStand n => exact K.openStand n s h
  | readStand i => rw [stand i rfl]; exact h
  | configureTrip i c a => exact K.configureTrip i c a s h
  | tripRequest reason => exact K.trip .hostRequest reason.toNat s h
  | clearTrips => exact K.clearTrips s hp h
  | readTrips v f => exact K.readTrips v f s h
  | resetStandLink => exact K.resetLink s h
  | readNodes c => exact K.readNodes c s h

/-- A law that the units' operations keep is kept by the events. -/
theorem events (K : UnitsKeep P) : EventsKeep P where
  pending s q h := K.elsewhere (alike_withPending s q) h
  host s f hf h := K.elsewhere (alike_onHost s f (hf s.host)) h
  line e s _ h := K.line e s h
  request := K.request
  abandon := K.abandonForUrgent
  reset := K.reset
  halt := K.halt
  press := K.press
  hold _ s _ h := K.elsewhere (alike_onLink s _ rfl rfl) h

/-- A law that the units' operations keep is kept by every step. -/
theorem step (K : UnitsKeep P) (s t : State) (h : P s) (hs : step s = .next t) : P t :=
  K.events.step s t h hs

/-- The reset leaves the values after reset with POWER_UP and the pressed lines raised (R197, R146). -/
theorem afterReset_of (trip : ∀ src d s, P s → P (raiseTrip src d s))
    (fresh : ∀ straps pressed hold q, P (unitsReset straps pressed hold q)) (d : Nat) (s : State) :
    P (afterReset d s) := by
  unfold afterReset raisePressed
  refine pass _ (fun u x hu => ?_) allLines _ (trip _ _ _ (fresh _ _ _ _))
  split
  · exact trip _ _ _ hu
  · exact hu

end Sys2Proof.Machine.UnitsKeep
end


section
/-! SUPPORT. The law of roles (R3): a role is given or dropped by the configuration requests alone, and every
other operation leaves each address its role. -/

namespace Sys2Proof.Machine

/-- The law of roles reads the addresses' roles alone. -/
theorem rolesUnique_congr {s t : State} (h : ∀ a : Node, t.nodes[a].role = s.nodes[a].role)
    (hs : RolesUnique s) : RolesUnique t := fun a b hab hne => by
  rw [h a, h b] at hab
  rw [h a] at hne
  exact hs a b hab hne

theorem rolesUnique_of_nodes {s t : State} (h : t.nodes = s.nodes) (hs : RolesUnique s) :
    RolesUnique t :=
  rolesUnique_congr (fun a => by rw [h]) hs

theorem rolesUnique_onNode (a : Node) (f : NodeEntry → NodeEntry) (s : State)
    (hf : ∀ n, (f n).role = n.role) (hs : RolesUnique s) : RolesUnique (s.onNode a f) := by
  refine rolesUnique_congr (fun b => ?_) hs
  rw [State.onNode_nodes, upd_at]
  split
  · exact hf _
  · rfl

/-- Dropping a role only frees addresses. -/
theorem rolesUnique_dropRole (r : Role) (s : State) (hr : r ≠ .none) (hs : RolesUnique s) :
    RolesUnique (dropRole r s) := by
  intro a b hab hne
  simp only [dropRole_nodes r s hs hr] at hab hne
  have kept : ∀ c : Node, (if s.nodes[c].role = r then nodeReset .none else s.nodes[c]).role ≠ .none →
      (if s.nodes[c].role = r then nodeReset .none else s.nodes[c]).role = s.nodes[c].role := by
    intro c hc
    split at hc
    · exact absurd rfl hc
    · rw [if_neg ‹_›]
  have hb := kept b (hab ▸ hne)
  have ha := kept a hne
  exact hs a b (ha.symm.trans (hab.trans hb)) (ha ▸ hne)

/-- After a role is given, its address alone holds it, and another address holds what it held before. -/
theorem giveRole_holds (a : Node) (r : Role) (s : State) (hr : r ≠ .none) (hs : RolesUnique s)
    (b : Node) (hb : (giveRole a r s).nodes[b].role ≠ .none) :
    (b = a ∧ (giveRole a r s).nodes[b].role = r) ∨
    (b ≠ a ∧ s.nodes[b].role ≠ r ∧ (giveRole a r s).nodes[b].role = s.nodes[b].role) := by
  rw [giveRole_nodes a r s hs hr] at hb ⊢
  by_cases hrole : s.nodes[b].role = r
  · rw [if_pos hrole] at hb ⊢
    by_cases e : b = a
    · rw [if_pos e]
      exact .inl ⟨e, hrole⟩
    · rw [if_neg e] at hb
      exact absurd rfl hb
  · rw [if_neg hrole] at hb ⊢
    by_cases e : b = a
    · rw [if_pos e]
      exact .inl ⟨e, rfl⟩
    · rw [if_neg e]
      exact .inr ⟨e, hrole, rfl⟩

theorem rolesUnique_giveRole (a : Node) (r : Role) (s : State) (hr : r ≠ .none) (hs : RolesUnique s) :
    RolesUnique (giveRole a r s) := by
  intro b c hbc hne
  obtain ⟨hb, hbr⟩ | ⟨_, hbn, hbr⟩ := giveRole_holds a r s hr hs b hne
  · obtain ⟨hc, _⟩ | ⟨_, hcn, hcr⟩ := giveRole_holds a r s hr hs c (hbc ▸ hne)
    · exact hb.trans hc.symm
    · exact absurd (hcr.symm.trans (hbc.symm.trans hbr)) hcn
  · obtain ⟨_, hcr⟩ | ⟨_, _, hcr⟩ := giveRole_holds a r s hr hs c (hbc ▸ hne)
    · exact absurd (hbr.symm.trans (hbc.trans hcr)) hbn
    · exact hs b c (hbr.symm.trans (hbc.trans hcr)) (hbr ▸ hne)

theorem rolesUnique_configureStand (p : StandParams) (s : State) (hs : RolesUnique s) :
    RolesUnique (serveConfigureStand p s).1 := by
  have effect : ∀ i a, RolesUnique (standEffect p i a s) := fun i a => by
    refine rolesUnique_of_nodes (s := giveRole a (.stand i) (forgetDrive a (.stand i)
      (s.onStand i fun _ => standRecordOf p))) (by simp [standEffect]) ?_
    exact rolesUnique_giveRole a _ _ (by simp) (rolesUnique_of_nodes (by simp) hs)
  unfold serveConfigureStand
  simp only [accept, refuse, badParam]
  repeat' split
  · exact hs
  · exact hs
  · exact hs
  · exact hs
  · exact hs
  · exact effect _ _
  · exact hs

/-- Right after a reset no address holds a role. -/
theorem rolesUnique_unitsReset (straps : BitVec 2) (pressed : Vector Bool 8) (hold : Bool)
    (q : List Instr) : RolesUnique (unitsReset straps pressed hold q) := by
  intro a b _ hne
  exact absurd (by simp [unitsReset, nodeReset]) hne

/-- What bears on roles: a role given or dropped, a node's entry refreshed, and the reset. -/
theorem rolesUnique_unitsKeep : UnitsKeep RolesUnique := by
  constructor
  case elsewhere => exact fun h hs => rolesUnique_of_nodes h.nodes hs
  case node => exact fun a f s hf _ hs => rolesUnique_onNode a f s hf hs
  case drop => exact rolesUnique_dropRole
  case give => exact rolesUnique_giveRole
  case remove =>
    exact fun i s hs => rolesUnique_of_nodes (s := dropRole (.stand i) s) rfl
      (rolesUnique_dropRole (.stand i) s (by simp) hs)
  case configureStand => exact rolesUnique_configureStand
  case reset =>
    exact fun d s _ => UnitsKeep.afterReset_of
      (fun src d s hs => rolesUnique_of_nodes (s := s) (by simp) hs) rolesUnique_unitsReset d s
  all_goals
    intros
    refine rolesUnique_of_nodes ?_ ‹RolesUnique _›
    simp [heldPress, halted]

end Sys2Proof.Machine
end

section
/-! The statement about roles. -/

open Sys2Proof Sys2Proof.Machine

/-- Settles O8: roles change by a role given or dropped and by the reset, and each keeps the law. -/
theorem stepKeepsRolesUnique : Obligations.StepKeepsRolesUnique :=
  rolesUnique_unitsKeep.step
end


section
/-! SUPPORT. A law of the trip table: what bears on it are the sources raised, the escalation, the stop
confirmation, the drive states and tensions taken, and the requests of the Trip Controller; every other
operation leaves the Trip Controller as it was. -/

namespace Sys2Proof.Machine

/-- A law that the operations of the Trip Controller keep. `unlinked` is the end of a transaction. -/
structure TripsKeep (P : State → Prop) : Prop where
  congr : ∀ {s t : State}, P s → t.power = s.power → t.trips = s.trips →
    t.link.inFlight.map (·.item) = s.link.inFlight.map (·.item) → P t
  unlinked : ∀ s, P s → P (releaseLink s)
  trip : ∀ src d s, P s → P (raiseTrip src d s)
  confirm : ∀ s, P s → P (confirmTest s)
  escalated : ∀ c sub s, P s → P (escalate c sub s)
  expired : ∀ s, P s → P (s.onTrips fun t => { t with confirm := .expired, confirmT := none })
  low : ∀ z n s, n ≤ 255 → P s → P (s.onTrips fun t => { t with low := upd t.low z fun _ => n })
  drive : ∀ i d s, P s → P (s.onTrips fun t => { t with drive := upd t.drive i fun _ => d })
  driveEntry : ∀ d s, P s → P (s.onTrips fun t => { t with driveEntry := d })
  estop : ∀ x low s, P s → P (estopChange x low s)
  won : ∀ c s, P s → P (winArbitration c s)
  stopSent : ∀ s, P s → P (broadcastSent s)
  configureTrip : ∀ i c a s, P s → P (serveConfigureTrip i c a s).1
  clearTrips : ∀ s, s.power = .running → P s → P (serveClearTrips s).1
  readTrips : ∀ v f s, P s → P (serveReadTrips v f s).1
  reset : ∀ d s, P s → P (afterReset d s)
  halt : ∀ p s, p ≠ .running → P s → P (halted p s)
  press : ∀ x low s, s.power ≠ .running → P s → P (heldPress x low s)

namespace TripsKeep

variable {P : State → Prop}

/-- An operation that leaves the Trip Controller and the link's item as they were. -/
theorem apart (K : TripsKeep P) {s t : State} (h : P s) (hp : t.power = s.power)
    (ht : t.trips = s.trips) (hl : t.link = s.link) : P t :=
  K.congr h hp ht (by rw [hl])

theorem actuatorFault (K : TripsKeep P) (i : Stand) (s : State) (h : P s) : P (actuatorFault i s) := by
  have h1 := K.trip (.actuatorFault i) (standNumber i) s h
  unfold Machine.actuatorFault
  dsimp only
  split
  · exact h1
  · exact K.apart h1 (by simp) (by simp) (by simp)

theorem openFailed (K : TripsKeep P) (i : Stand) (c : Int) (s : State) (h : P s) :
    P (openFailed i c s) := by
  have h1 := K.escalated .openFailed (.stand i) _ (K.apart (t := s.onActuator i fun a =>
    { a with state := .openFailed, work := none, openT := none }) h rfl rfl rfl)
  exact K.apart h1 (by simp [Machine.openFailed]) (by simp [Machine.openFailed])
    (by simp [Machine.openFailed])

/-- The outcome of a command reaches the Trip Controller as an actuator fault, an opening that failed, or
not at all (R119, R124). -/
theorem outcome (K : TripsKeep P) (i : Stand) (n : Byte) (o : Handed) (s : State) (h : P s) :
    P (takeOutcome i n o s) := by
  unfold takeOutcome
  repeat' split
  · exact h
  · exact K.apart h rfl rfl rfl
  · exact K.actuatorFault i s h
  · exact K.apart h (by simp) (by simp) (by simp)
  · exact K.apart h (by simp) (by simp) (by simp)
  · exact K.apart h rfl rfl rfl
  · exact K.openFailed i 1 s h
  · exact K.apart h rfl rfl rfl
  · dsimp only
    repeat' split
    · exact K.apart h (by simp) (by simp) (by simp)
    · exact K.apart h (by simp) (by simp) (by simp)
    · exact K.apart h rfl rfl rfl
  · exact h

theorem moveExpiry (K : TripsKeep P) (i : Stand) (s : State) (h : P s) : P (moveExpiry i s) := by
  unfold Machine.moveExpiry
  split
  · exact K.actuatorFault i _ (K.apart h rfl rfl rfl)
  · exact h

theorem openExpiry (K : TripsKeep P) (i : Stand) (s : State) (h : P s) : P (openExpiry i s) := by
  unfold Machine.openExpiry
  split
  · exact K.openFailed i 0 s h
  · exact h

theorem confirmExpiry (K : TripsKeep P) (s : State) (h : P s) : P (confirmExpiry s) := by
  unfold Machine.confirmExpiry
  split
  · exact K.escalated _ _ _ (K.expired s h)
  · exact h

theorem forgetDrive (K : TripsKeep P) (a : Node) (r : Role) (s : State) (h : P s) :
    P (forgetDrive a r s) := by
  unfold Machine.forgetDrive
  split
  · exact h
  · cases r with
    | none => exact h
    | entry => exact K.driveEntry _ s h
    | stand i => exact K.drive i _ s h
    | gauge p => exact h

theorem configureStand (K : TripsKeep P) (p : StandParams) (s : State) (h : P s) :
    P (serveConfigureStand p s).1 := by
  have effect : ∀ i a, P (standEffect p i a s) := fun i a => by
    have h1 := K.forgetDrive a (.stand i) (s.onStand i fun _ => standRecordOf p)
      (K.apart h rfl rfl rfl)
    unfold standEffect
    exact K.confirm _ (K.apart h1 (by simp) (by simp) (by simp))
  unfold serveConfigureStand
  simp only [accept, refuse, badParam]
  repeat' split
  · exact h
  · exact h
  · exact h
  · exact h
  · exact h
  · exact effect _ _
  · exact h

/-- A law that the Trip Controller's operations keep is kept by the operations of every unit. -/
theorem unitsKeep (K : TripsKeep P) : UnitsKeep P := by
  constructor
  case elsewhere => exact fun h hs => K.congr hs h.power h.trips h.item
  case release => exact K.unlinked
  case trip => exact K.trip
  case confirm => exact K.confirm
  case low => exact K.low
  case drive => exact K.drive
  case driveEntry => exact K.driveEntry
  case outcome => exact K.outcome
  case move => exact K.moveExpiry
  case openTimer => exact K.openExpiry
  case stopConfirm => exact K.confirmExpiry
  case estop => exact K.estop
  case won => exact K.won
  case stopSent => exact K.stopSent
  case forget => exact K.forgetDrive
  case configureStand => exact K.configureStand
  case configureTrip => exact K.configureTrip
  case clearTrips => exact K.clearTrips
  case readTrips => exact K.readTrips
  case reset => exact K.reset
  case halt => exact K.halt
  case press => exact K.press
  case counters => exact fun f s _ h => K.congr h rfl rfl rfl
  all_goals
    intros
    refine K.apart ‹P _› ?_ ?_ ?_
    all_goals simp

end TripsKeep

/-! ### Laws of the trip records alone -/

/-- A law that the changes of the trip records keep, and that reads nothing of the Trip Controller but the
records, the lines' levels and the power. -/
structure RecordsKeep (P : State → Prop) : Prop where
  congr : ∀ {s t : State}, P s → t.power = s.power → t.trips.records = s.trips.records →
    t.trips.pressed = s.trips.pressed → P t
  trip : ∀ src d s, P s → P (raiseTrip src d s)
  estop : ∀ x low s, P s → P (estopChange x low s)
  configureTrip : ∀ i c a s, P s → P (serveConfigureTrip i c a s).1
  clearTrips : ∀ s, s.power = .running → P s → P (serveClearTrips s).1
  readTrips : ∀ v f s, P s → P (serveReadTrips v f s).1
  reset : ∀ d s, P s → P (afterReset d s)
  halt : ∀ p s, p ≠ .running → P s → P (halted p s)
  press : ∀ x low s, s.power ≠ .running → P s → P (heldPress x low s)

@[simp] theorem confirmTest_records (s : State) :
    (confirmTest s).trips.records = s.trips.records := by
  rw [confirmTest_trips]
  split <;> rfl

@[simp] theorem confirmTest_pressed (s : State) :
    (confirmTest s).trips.pressed = s.trips.pressed := by
  rw [confirmTest_trips]
  split <;> rfl

/-- An escalation sets its flag and the stop wanted, and leaves the rest of the Trip Controller. -/
theorem escalate_trips (c : EscalationCause) (sub : Subject) (s : State) :
    (escalate c sub s).trips = if s.trips.escalation = none then
      { s.trips with escalation := some c, stopWanted := .emergency } else s.trips := by
  unfold escalate
  cases he : s.trips.escalation with
  | some c => simp
  | none => simp [wantStop_emergency]

@[simp] theorem escalate_records (c : EscalationCause) (sub : Subject) (s : State) :
    (escalate c sub s).trips.records = s.trips.records := by
  rw [escalate_trips]
  split <;> rfl

@[simp] theorem escalate_pressed (c : EscalationCause) (sub : Subject) (s : State) :
    (escalate c sub s).trips.pressed = s.trips.pressed := by
  rw [escalate_trips]
  split <;> rfl

/-- The end of a STOP broadcast changes the stop sent alone. -/
theorem broadcastSent_trips (s : State) :
    ∃ l, (broadcastSent s).trips = { s.trips with stopSent := l } := by
  unfold broadcastSent
  repeat' split
  · exact ⟨s.trips.stopSent, rfl⟩
  · exact ⟨_, rfl⟩
  · exact ⟨s.trips.stopSent, rfl⟩

/-- A law of the trip records is a law of the trip table. -/
theorem RecordsKeep.tripsKeep {P : State → Prop} (K : RecordsKeep P) : TripsKeep P where
  congr h hp ht _ := K.congr h hp (by rw [ht]) (by rw [ht])
  unlinked _ h := K.congr h rfl rfl rfl
  trip := K.trip
  confirm _ h := K.congr h (by simp) (by simp) (by simp)
  escalated _ _ _ h := K.congr h (by simp) (by simp) (by simp)
  expired _ h := K.congr h rfl rfl rfl
  low _ _ _ _ h := K.congr h rfl rfl rfl
  drive _ _ _ h := K.congr h rfl rfl rfl
  driveEntry _ _ h := K.congr h rfl rfl rfl
  estop := K.estop
  won _ _ h := K.congr h (by simp) (by simp) (by simp)
  stopSent s h := by
    obtain ⟨l, hl⟩ := broadcastSent_trips s
    exact K.congr h (by simp) (by rw [hl]) (by rw [hl])
  configureTrip := K.configureTrip
  clearTrips := K.clearTrips
  readTrips := K.readTrips
  reset := K.reset
  halt := K.halt
  press := K.press

end Sys2Proof.Machine
end


section
/-! SUPPORT. The law of ranks (R131) and the law of the pressed lines (R140): what a raise, a clearing, a Configure
Trip, a Read Trips and the reset leave of the trip records. -/

namespace Sys2Proof.Machine

/-! ### The law of ranks, on a table of records (R131) -/

/-- The number of LATCHED records of a table. -/
def latchesIn (v : Vector TripRecord 32) : Nat := v.toList.countP (·.latched)

/-- A table of records whose ranks are sound (R131). -/
structure Ranked (v : Vector TripRecord 32) : Prop where
  range : ∀ k : Source, v[k].latched = true →
    1 ≤ v[k].rank ∧ v[k].rank ≤ latchesIn v ∧ 1 ≤ v[k].count
  once : ∀ j k : Source, v[j].latched = true → v[k].latched = true → v[j].rank = v[k].rank → j = k
  clear : ∀ k : Source, v[k].latched = false → v[k] = clearRecord v[k].cls v[k].affected

theorem ranksSound_iff (s : State) : RanksSound s ↔ Ranked s.trips.records :=
  ⟨fun h => ⟨h.range, h.once, h.clear⟩, fun h => ⟨h.range, h.once, h.clear⟩⟩

/-- Changing one record moves the number of latches by that record's own. -/
theorem latchesIn_upd (v : Vector TripRecord 32) (k : Source) (f : TripRecord → TripRecord) :
    latchesIn (upd v k f) + (if v[k].latched then 1 else 0) =
      latchesIn v + (if (f v[k]).latched then 1 else 0) := by
  have hk : k.val < v.toList.length := by simp
  have hget : v.toList[k.val] = v[k] := by simp
  have hpos : v[k].latched = true → 0 < v.toList.countP (·.latched) := fun h =>
    List.countP_pos_iff.mpr ⟨v[k], by simp [Vector.mem_toList_iff], h⟩
  simp only [latchesIn, upd, Vector.toList_set]
  rw [List.countP_set hk, hget]
  by_cases h : v[k].latched = true
  · have := hpos h
    simp only [h, if_true]
    omega
  · simp [h, -Fin.getElem_fin]

/-- A change of one record that keeps its latch, rank and count of at least one, or its clearness. -/
theorem Ranked.upd_kept {v : Vector TripRecord 32} (h : Ranked v) (k : Source)
    (f : TripRecord → TripRecord) (hl : (f v[k]).latched = v[k].latched)
    (hr : v[k].latched = true → (f v[k]).rank = v[k].rank ∧ 1 ≤ (f v[k]).count)
    (hc : v[k].latched = false → f v[k] = clearRecord (f v[k]).cls (f v[k]).affected) :
    Ranked (upd v k f) := by
  have hcount : latchesIn (upd v k f) = latchesIn v := by
    have := latchesIn_upd v k f
    rw [hl] at this
    omega
  have latched : ∀ j : Source, (upd v k f)[j].latched = v[j].latched := by
    intro j
    rw [upd_at]
    split
    · subst_vars; exact hl
    · rfl
  have rank : ∀ j : Source, v[j].latched = true →
      (upd v k f)[j].rank = v[j].rank ∧ 1 ≤ (upd v k f)[j].count := by
    intro j hj
    rw [upd_at]
    split
    · subst_vars; exact hr hj
    · exact ⟨rfl, (h.range j hj).2.2⟩
  refine ⟨fun j hj => ?_, fun i j hi hj hij => ?_, fun j hj => ?_⟩
  · rw [latched] at hj
    obtain ⟨hrank, hone⟩ := rank j hj
    obtain ⟨lo, hi, _⟩ := h.range j hj
    rw [hrank, hcount]
    exact ⟨lo, hi, hone⟩
  · rw [latched] at hi hj
    rw [(rank i hi).1, (rank j hj).1] at hij
    exact h.once i j hi hj hij
  · rw [latched] at hj
    rw [upd_at]
    split
    · subst_vars; exact hc hj
    · exact h.clear j hj

/-- A CLEAR record latched takes the rank after the highest (R131). -/
theorem Ranked.upd_latch {v : Vector TripRecord 32} (h : Ranked v) (k : Source)
    (f : TripRecord → TripRecord) (hk : v[k].latched = false) (hl : (f v[k]).latched = true)
    (hr : (f v[k]).rank = latchesIn v + 1) (hc : 1 ≤ (f v[k]).count) : Ranked (upd v k f) := by
  have hcount : latchesIn (upd v k f) = latchesIn v + 1 := by
    have := latchesIn_upd v k f
    simpa [hk, hl, -Fin.getElem_fin] using this
  have other : ∀ j : Source, j ≠ k → (upd v k f)[j] = v[j] := fun j hj => by rw [upd_at, if_neg hj]
  have same : (upd v k f)[k] = f v[k] := by rw [upd_at, if_pos rfl]
  refine ⟨fun j hj => ?_, fun i j hi hj hij => ?_, fun j hj => ?_⟩
  · by_cases e : j = k
    · subst e
      rw [same, hr, hcount]
      exact ⟨Nat.succ_pos _, le_refl _, hc⟩
    · rw [other j e] at hj ⊢
      obtain ⟨lo, hi, one⟩ := h.range j hj
      exact ⟨lo, by omega, one⟩
  · by_cases ei : i = k
    · by_cases ej : j = k
      · exact ei.trans ej.symm
      · subst ei
        rw [same, other j ej, hr] at hij
        rw [other j ej] at hj
        have := (h.range j hj).2.1
        omega
    · by_cases ej : j = k
      · subst ej
        rw [same, other i ei, hr] at hij
        rw [other i ei] at hi
        have := (h.range i hi).2.1
        omega
      · rw [other i ei, other j ej] at hij
        rw [other i ei] at hi
        rw [other j ej] at hj
        exact h.once i j hi hj hij
  · by_cases e : j = k
    · subst e
      rw [same, hl] at hj
      cases hj
    · rw [other j e] at hj ⊢
      exact h.clear j hj

/-- A table of CLEAR records is sound. -/
theorem ranked_clear (v : Vector TripRecord 32)
    (h : ∀ k : Source, ∃ c a, v[k] = clearRecord c a) : Ranked v := by
  have off : ∀ k : Source, v[k].latched = false := fun k => by
    obtain ⟨c, a, e⟩ := h k
    rw [e]
    rfl
  refine ⟨fun k hk => ?_, fun j _ hj => ?_, fun k _ => ?_⟩
  · rw [off k] at hk
    cases hk
  · rw [off j] at hj
    cases hj
  · obtain ⟨c, a, e⟩ := h k
    rw [e]
    rfl

/-! ### The changes of the records -/

theorem ranked_raiseTrip (src : TripSource) (d : Nat) (s : State) (h : RanksSound s) :
    RanksSound (raiseTrip src d s) := by
  rw [ranksSound_iff] at h ⊢
  rw [raiseTrip_records]
  by_cases hk : s.trips.records[sourceIndex src].latched = true
  · refine h.upd_kept _ _ (by simp [hk, -Fin.getElem_fin]) (fun _ => ?_) (fun hf => ?_)
    · have := (h.range _ hk).2.2
      simp only [hk, if_true]
      exact ⟨trivial, by omega⟩
    · rw [hk] at hf
      cases hf
  · rw [Bool.not_eq_true] at hk
    exact h.upd_latch _ _ hk (by simp [hk, -Fin.getElem_fin])
      (by simp [hk, -Fin.getElem_fin]; rfl) (by simp [hk, -Fin.getElem_fin])

/-- An accepted Configure Trip changes the class and the set of a CLEAR record alone (R147). -/
theorem configureTrip_records (i c a : Byte) (s : State) :
    (serveConfigureTrip i c a s).1 = s ∨ ∃ (k : Source) (cls : TripClass) (set : BitVec 5),
      s.trips.records[k].latched = false ∧ (serveConfigureTrip i c a s).1 =
        s.onTrips fun t => { t with records := upd t.records k fun r =>
          { r with cls := cls, affected := set } } := by
  unfold serveConfigureTrip
  split
  · exact .inl rfl
  · rename_i k _
    split
    · exact .inl rfl
    · split
      · exact .inl rfl
      · rename_i hl
        split
        · exact .inl rfl
        · split
          · exact .inl rfl
          · exact .inr ⟨k, _, _, by simpa using hl, rfl⟩

theorem ranked_configureTrip (i c a : Byte) (s : State) (h : RanksSound s) :
    RanksSound (serveConfigureTrip i c a s).1 := by
  obtain e | ⟨k, cls, set, hk, e⟩ := configureTrip_records i c a s
  · rw [e]
    exact h
  · rw [ranksSound_iff] at h ⊢
    rw [e]
    refine h.upd_kept k (fun r => { r with cls := cls, affected := set }) rfl (fun hl => ?_)
      (fun _ => ?_)
    · rw [hk] at hl
      cases hl
    · have := h.clear k hk
      simp only
      rw [this]
      rfl

/-- A Clear Trips refused leaves the state, and an accepted one finds no active source (R148). -/
theorem serveClearTrips_cases (s : State) : (serveClearTrips s).1 = s ∨
    (activeSources s = [] ∧ (serveClearTrips s).1 = clearTripTable s) := by
  unfold serveClearTrips
  split
  · rename_i hnil
    exact .inr ⟨hnil, rfl⟩
  · exact .inl rfl

/-- A clearing takes every record CLEAR and every stop back (R149). -/
theorem clearTripTable_trips (s : State) : (clearTripTable s).trips =
    { s.trips with
      records := clearAll s.trips.records, escalation := none, confirm := .idle, confirmT := none,
      stopWanted := .none, stopSent := .none } := by
  simp [clearTripTable]

theorem ranked_clearTrips (s : State) (h : RanksSound s) : RanksSound (serveClearTrips s).1 := by
  obtain e | ⟨_, e⟩ := serveClearTrips_cases s
  · rw [e]
    exact h
  · rw [ranksSound_iff, e, clearTripTable_trips]
    exact ranked_clear _ fun k => ⟨_, _, clearAll_at _ k⟩

/-- A LATCHED view names latched records alone (R150). -/
theorem recordsFrom_latched (s : State) (n : Nat) (k : Source) (hk : k ∈ recordsFrom s n) :
    s.trips.records[k].latched = true := by
  simp only [recordsFrom, List.mem_filterMap] at hk
  obtain ⟨j, _, hj⟩ := hk
  have := List.find?_some hj
  simp only [Bool.and_eq_true] at this
  exact this.1

theorem Ranked.setReported {v : Vector TripRecord 32} (h : Ranked v) (ks : List Source)
    (hk : ∀ k ∈ ks, v[k].latched = true) : Ranked (setReported ks v) := by
  unfold Machine.setReported
  induction ks generalizing v with
  | nil => exact h
  | cons k ks ih =>
    have hl := hk k List.mem_cons_self
    refine ih (h.upd_kept k _ rfl (fun hr => ⟨rfl, (h.range k hr).2.2⟩) (fun hf => ?_))
      (fun j hj => ?_)
    · rw [hl] at hf
      cases hf
    · rw [upd_at]
      split
      · subst_vars; exact hl
      · exact hk j (List.mem_cons_of_mem k hj)

/-- A Read Trips marks the records of its view, or leaves the state (R150). -/
theorem serveReadTrips_cases (v f : Byte) (s : State) : (serveReadTrips v f s).1 = s ∨
    (serveReadTrips v f s).1 = markReported (recordsFrom s f.toNat) s := by
  unfold serveReadTrips
  repeat' split
  · exact .inr rfl
  · exact .inl rfl
  · exact .inl rfl
  · exact .inl rfl

theorem ranked_readTrips (v f : Byte) (s : State) (h : RanksSound s) :
    RanksSound (serveReadTrips v f s).1 := by
  obtain e | e := serveReadTrips_cases v f s
  · rw [e]
    exact h
  · rw [e, ranksSound_iff]
    exact ((ranksSound_iff s).mp h).setReported _ (recordsFrom_latched s _)

/-- The default records are CLEAR (R129). -/
theorem tripDefaults_clear (k : Source) : ∃ c a, tripDefaults[k] = clearRecord c a := by
  have : ∀ k : Source, tripDefaults[k] = clearRecord tripDefaults[k].cls tripDefaults[k].affected := by
    decide
  exact ⟨_, _, this k⟩

theorem ranksSound_of_records {s t : State} (h : RanksSound s)
    (hr : t.trips.records = s.trips.records) : RanksSound t := by
  rw [ranksSound_iff] at h ⊢
  rw [hr]
  exact h

/-- A change of an ESTOP line's level changes the level, and for a press raises its source (R140). -/
theorem estopChange_cases (x : Fin 8) (low : Bool) (s : State) : estopChange x low s = s ∨
    (low = false ∧ estopChange x low s = heldPress x false s) ∨
    (low = true ∧ estopChange x low s = raiseTrip (.estop x) x.val (heldPress x true s)) := by
  unfold estopChange
  split
  · exact .inl rfl
  · cases low
    · exact .inr (.inl ⟨rfl, rfl⟩)
    · exact .inr (.inr ⟨rfl, rfl⟩)

/-- What bears on ranks: a source raised, a clearing, a Configure Trip, a Read Trips, and the reset. -/
theorem ranksSound_recordsKeep : RecordsKeep RanksSound where
  congr h _ hr _ := ranksSound_of_records h hr
  trip := ranked_raiseTrip
  estop x low s h := by
    obtain e | ⟨_, e⟩ | ⟨_, e⟩ := estopChange_cases x low s
    · rw [e]
      exact h
    · rw [e]
      exact ranksSound_of_records h rfl
    · rw [e]
      exact ranked_raiseTrip _ _ _ (ranksSound_of_records h rfl)
  configureTrip := ranked_configureTrip
  clearTrips s _ h := ranked_clearTrips s h
  readTrips := ranked_readTrips
  reset d s _ := UnitsKeep.afterReset_of ranked_raiseTrip
    (fun _ _ _ _ => (ranksSound_iff _).mpr (ranked_clear _ tripDefaults_clear)) d s
  halt _ _ _ h := ranksSound_of_records h rfl
  press _ _ _ _ h := ranksSound_of_records h rfl

/-! ### The law of the pressed lines (R140, R148) -/

/-- A raise latches its source's record and unlatches none (R131, R132). -/
theorem raiseTrip_latched (src : TripSource) (d : Nat) (s : State) (k : Source) :
    (raiseTrip src d s).trips.records[k].latched =
      (decide (k = sourceIndex src) || s.trips.records[k].latched) := by
  rw [raiseTrip_records, upd_at]
  by_cases e : k = sourceIndex src
  · subst e
    by_cases hl : s.trips.records[sourceIndex src].latched = true
    · simp [hl, -Fin.getElem_fin]
    · simp [hl, -Fin.getElem_fin]
  · simp [e]

theorem raiseTrip_pressed (src : TripSource) (d : Nat) (s : State) :
    (raiseTrip src d s).trips.pressed = s.trips.pressed := by
  unfold raiseTrip
  dsimp only
  split
  · rfl
  · unfold latch latchActions startConfirm
    dsimp only
    split
    · split <;> simp [wantStop_stopWanted]
    · simp [wantStop_stopWanted]

theorem pressedLatched_congr {s t : State} (h : PressedLatched s) (hp : t.power = s.power)
    (hr : ∀ k : Source, s.trips.records[k].latched = true → t.trips.records[k].latched = true)
    (hl : t.trips.pressed = s.trips.pressed) : PressedLatched t := fun hrun x hx =>
  hr _ (h (hp ▸ hrun) x (hl ▸ hx))

theorem pressedLatched_raiseTrip (src : TripSource) (d : Nat) (s : State) (h : PressedLatched s) :
    PressedLatched (raiseTrip src d s) :=
  pressedLatched_congr h (by simp) (fun k hk => by rw [raiseTrip_latched, hk, Bool.or_true])
    (raiseTrip_pressed src d s)

/-- A press raises its source at once, and a release leaves a line that claims nothing. -/
theorem pressedLatched_estop (x : Fin 8) (low : Bool) (s : State) (h : PressedLatched s) :
    PressedLatched (estopChange x low s) := by
  obtain e | ⟨_, e⟩ | ⟨_, e⟩ := estopChange_cases x low s
  · rw [e]
    exact h
  · rw [e]
    intro hrun y hy
    refine h hrun y ?_
    have hp : (heldPress x false s).trips.pressed = upd s.trips.pressed x fun _ => false := rfl
    rw [hp, upd_at] at hy
    split at hy
    · cases hy
    · exact hy
  · rw [e]
    intro hrun y hy
    rw [raiseTrip_pressed] at hy
    rw [raiseTrip_latched, Bool.or_eq_true, decide_eq_true_eq]
    have hp : (heldPress x true s).trips.pressed = upd s.trips.pressed x fun _ => true := rfl
    rw [hp, upd_at] at hy
    by_cases e : y = x
    · exact .inl (congrArg (fun z => sourceIndex (.estop z)) e)
    · rw [if_neg e] at hy
      have hpow : s.power = .running := by simpa [heldPress] using hrun
      exact .inr (h hpow y hy)

/-- A Clear Trips is accepted only while no line with a latched record is pressed (R148). -/
theorem pressedLatched_clearTrips (s : State) (hp : s.power = .running) (h : PressedLatched s) :
    PressedLatched (serveClearTrips s).1 := by
  obtain e | ⟨hnone, e⟩ := serveClearTrips_cases s
  · rw [e]
    exact h
  · rw [e]
    intro _ x hx
    rw [clearTripTable_trips] at hx
    have hact : sourceIndex (.estop x) ∈ activeSources s := by
      simp only [activeSources, List.mem_filter, mem_allSources, true_and, Bool.and_eq_true]
      refine ⟨h hp x hx, ?_⟩
      rw [sourceActive, dif_pos (show (sourceIndex (.estop x)).val < 8 from x.isLt)]
      exact hx
    rw [hnone] at hact
    cases hact

theorem pressedLatched_configureTrip (i c a : Byte) (s : State) (h : PressedLatched s) :
    PressedLatched (serveConfigureTrip i c a s).1 := by
  obtain e | ⟨k, cls, set, _, e⟩ := configureTrip_records i c a s
  · rw [e]
    exact h
  · rw [e]
    refine pressedLatched_congr h rfl (fun j hj => ?_) rfl
    rw [State.onTrips_trips, upd_at]
    split <;> exact hj

theorem setReported_latched (ks : List Source) (v : Vector TripRecord 32) (k : Source) :
    (setReported ks v)[k].latched = v[k].latched := by
  unfold setReported
  induction ks generalizing v with
  | nil => rfl
  | cons j ks ih =>
    rw [List.foldl_cons, ih, upd_at]
    split <;> rfl

theorem pressedLatched_readTrips (v f : Byte) (s : State) (h : PressedLatched s) :
    PressedLatched (serveReadTrips v f s).1 := by
  obtain e | e := serveReadTrips_cases v f s
  · rw [e]
    exact h
  · rw [e]
    refine pressedLatched_congr h rfl (fun k hk => ?_) rfl
    simp only [markReported, State.onTrips_trips, setReported_latched]
    exact hk

/-- One turn of the pass that raises the pressed lines at a reset (R140, R146). -/
def pressTurn (s : State) (x : Fin 8) : State :=
  if s.trips.pressed[x] then raiseTrip (.estop x) x.val s else s

theorem raisePressed_eq (s : State) : raisePressed s = allLines.foldl pressTurn s := rfl

theorem pressTurn_pressed (s : State) (x : Fin 8) : (pressTurn s x).trips.pressed = s.trips.pressed := by
  unfold pressTurn
  split
  · exact raiseTrip_pressed _ _ _
  · rfl

/-- A turn latches its own line's record where the line is pressed, and unlatches none. -/
theorem pressTurn_latched (s : State) (x y : Fin 8) (hx : s.trips.pressed[x] = true)
    (h : x = y ∨ s.trips.records[sourceIndex (.estop x)].latched = true) :
    (pressTurn s y).trips.records[sourceIndex (.estop x)].latched = true := by
  unfold pressTurn
  obtain e | h := h
  · subst e
    rw [if_pos hx, raiseTrip_latched, decide_eq_true rfl, Bool.true_or]
  · split
    · rw [raiseTrip_latched, h, Bool.or_true]
    · exact h

/-- A pass that raises the source of each pressed line leaves each of its lines latched. -/
theorem pressPass_latched (l : List (Fin 8)) (s : State) (x : Fin 8) (hx : s.trips.pressed[x] = true)
    (h : x ∈ l ∨ s.trips.records[sourceIndex (.estop x)].latched = true) :
    (l.foldl pressTurn s).trips.records[sourceIndex (.estop x)].latched = true := by
  induction l generalizing s with
  | nil => exact h.resolve_left (by simp)
  | cons y l ih =>
    refine ih (pressTurn s y) (by rw [pressTurn_pressed]; exact hx) ?_
    obtain hm | hl := h
    · obtain e | hm := List.mem_cons.mp hm
      · exact .inr (pressTurn_latched s x y hx (.inl e))
      · exact .inl hm
    · exact .inr (pressTurn_latched s x y hx (.inr hl))

theorem pressPass_pressed (l : List (Fin 8)) (s : State) :
    (l.foldl pressTurn s).trips.pressed = s.trips.pressed := by
  induction l generalizing s with
  | nil => rfl
  | cons y l ih => exact (ih _).trans (pressTurn_pressed s y)

theorem pressedLatched_raisePressed (s : State) : PressedLatched (raisePressed s) := by
  intro _ x hx
  rw [raisePressed_eq] at hx ⊢
  rw [pressPass_pressed] at hx
  exact pressPass_latched allLines s x hx (.inl (mem_allLines x))

/-- What bears on pressed lines: a line's change, a source raised, a clearing, and the reset; while the part
is held the law claims nothing. -/
theorem pressedLatched_recordsKeep : RecordsKeep PressedLatched where
  congr h hp hr hl := pressedLatched_congr h hp (fun k hk => by rw [hr]; exact hk) hl
  trip := pressedLatched_raiseTrip
  estop := pressedLatched_estop
  configureTrip := pressedLatched_configureTrip
  clearTrips := pressedLatched_clearTrips
  readTrips := pressedLatched_readTrips
  reset _ _ _ := pressedLatched_raisePressed _
  halt _ _ hp _ hrun := absurd hrun hp
  press _ _ _ hp _ hrun := absurd hrun hp

end Sys2Proof.Machine
end

section
/-! The statements about ranks and pressed lines. -/

open Sys2Proof Sys2Proof.Machine

/-- Settles O9: a raise takes the next rank or only counts, and nothing else gives or takes one but a clearing
of the whole table. -/
theorem stepKeepsFirstOutRanks : Obligations.StepKeepsFirstOutRanks :=
  ranksSound_recordsKeep.tripsKeep.unitsKeep.step

/-- Settles O10: a press raises its source, no operation unlatches a record but a clearing, and a clearing is
refused while a latched line is pressed. -/
theorem stepKeepsPressedLatched : Obligations.StepKeepsPressedLatched :=
  pressedLatched_recordsKeep.tripsKeep.unitsKeep.step
end


section
/-! SUPPORT. The law of the stops (R133 to R138): a latch and the escalation only strengthen the stop wanted, a
broadcast that still counts carries no more than the stop wanted, and the confirm timer follows WAITING. -/

namespace Sys2Proof.Machine

/-! ### The law on the Trip Controller and the link's item -/

/-- A cause of MSTOP stands: an EMERGENCY latch or the escalation (R139). -/
def CauseStands (t : Trips) : Prop :=
  (∃ k : Source, t.records[k].latched = true ∧ t.records[k].cls = .emergency) ∨
    t.escalation.isSome = true

/-- The law of the stops on a Trip Controller and the item on the link (R133 to R136). -/
structure StopLaw (t : Trips) (item : Option Item) : Prop where
  emergency : CauseStands t → t.stopWanted = .emergency
  sent : stopRank t.stopSent ≤ stopRank t.stopWanted
  onLink : ∀ lv, item = some (.stop lv true) → stopRank lv ≤ stopRank t.stopWanted
  timer : t.confirmT.isSome = true ↔ t.confirm = .waiting

/-- The item of the part's transaction. -/
def linkItem (s : State) : Option Item := s.link.inFlight.map (·.item)

theorem stopsSound_iff (s : State) : StopsSound s ↔ StopLaw s.trips (linkItem s) := by
  constructor
  · intro h
    refine ⟨fun hc => h.emergency ((emergencyStanding_iff s).mpr hc), h.sent, fun lv hlv => ?_, h.timer⟩
    obtain ⟨f, hf, hi⟩ := Option.map_eq_some_iff.mp hlv
    exact h.onLink f lv hf hi
  · intro h
    refine ⟨fun hc => h.emergency ((emergencyStanding_iff s).mp hc), h.sent, fun f lv hf hi => ?_,
      h.timer⟩
    exact h.onLink lv (by simp only [linkItem, hf, Option.map_some, hi])

theorem stopsSound_congr {s t : State} (h : StopsSound s) (ht : t.trips = s.trips)
    (hl : linkItem t = linkItem s) : StopsSound t := by
  rw [stopsSound_iff] at h ⊢
  rw [ht, hl]
  exact h

/-- A change of the Trip Controller that weakens no stop wanted, sends no more, and leaves a cause of MSTOP
with EMERGENCY wanted. -/
theorem StopLaw.strengthen {t u : Trips} {item : Option Item} (h : StopLaw t item)
    (hc : CauseStands u → u.stopWanted = .emergency)
    (hw : stopRank t.stopWanted ≤ stopRank u.stopWanted) (hs : u.stopSent = t.stopSent)
    (ht : u.confirmT.isSome = true ↔ u.confirm = .waiting) : StopLaw u item :=
  ⟨hc, hs ▸ h.sent.trans hw, fun lv hlv => (h.onLink lv hlv).trans hw, ht⟩

/-- With another item on the link that is no STOP that counts. -/
theorem StopLaw.offLink {t : Trips} {item : Option Item} (h : StopLaw t item) (new : Option Item)
    (hn : ∀ lv, new ≠ some (.stop lv true)) : StopLaw t new :=
  ⟨h.emergency, h.sent, fun lv hlv => absurd hlv (hn lv), h.timer⟩

theorem stopRank_le_emergency (l : StopLevel) : stopRank l ≤ stopRank .emergency := by
  cases l <;> decide

theorem stopRank_le_fast (l : StopLevel) :
    stopRank l ≤ stopRank (if l = .none then .fast else l) := by
  cases l <;> decide

/-! ### Raises, the confirmation and the escalation -/

/-- A count of a latched record changes no cause of MSTOP. -/
theorem stopsSound_recount (k : Source) (s : State) (h : StopsSound s) : StopsSound (recount k s) := by
  rw [stopsSound_iff] at h ⊢
  refine h.strengthen (fun hc => h.emergency ?_) (le_refl _) rfl h.timer
  obtain ⟨j, hl, he⟩ | he := hc
  · have hrec : (recount k s).trips.records[j].latched = s.trips.records[j].latched ∧
        (recount k s).trips.records[j].cls = s.trips.records[j].cls := by
      simp only [recount, State.onTrips_trips, upd_at]
      split <;> exact ⟨rfl, rfl⟩
    exact .inl ⟨j, hrec.1 ▸ hl, hrec.2 ▸ he⟩
  · exact .inr he

/-- A latch of an EMERGENCY record wants EMERGENCY, and one of a FAST_STOP record adds no cause of MSTOP. -/
theorem stopsSound_latch (k : Source) (d : Nat) (s : State) (h : StopsSound s) :
    StopsSound (latch k d s) := by
  rw [stopsSound_iff] at h ⊢
  have hlink : linkItem (latch k d s) = linkItem s := by simp [linkItem]
  rw [hlink, latch]
  generalize hu : (s.onTrips fun t => { t with records := upd t.records k fun r =>
    { r with latched := true, rank := latchedCount s + 1, time := s.now, count := 1,
             reported := false, detail := d } }) = u
  have hrec : ∀ j : Source, j ≠ k → u.trips.records[j] = s.trips.records[j] := fun j hj => by
    rw [← hu, State.onTrips_trips, upd_at, if_neg hj]
  have hrest : u.trips.escalation = s.trips.escalation ∧ u.trips.stopWanted = s.trips.stopWanted ∧
      u.trips.stopSent = s.trips.stopSent ∧ u.trips.confirm = s.trips.confirm ∧
      u.trips.confirmT = s.trips.confirmT := by
    rw [← hu]
    exact ⟨rfl, rfl, rfl, rfl, rfl⟩
  obtain ⟨hesc, hwant, hsent, hconf, hconfT⟩ := hrest
  cases hcls : u.trips.records[k].cls with
  | emergency =>
    rw [latchActions_emergency k u hcls]
    exact h.strengthen (fun _ => rfl) (stopRank_le_emergency _) hsent
      (by rw [hconf, hconfT]; exact h.timer)
  | fastStop =>
    obtain ⟨c, t, htrips, hidle, hbusy⟩ := latchActions_fastStop k u hcls
    rw [htrips]
    refine h.strengthen (fun hc => ?_) ?_ hsent ?_
    · have hold : CauseStands s.trips := by
        obtain ⟨j, hl, he⟩ | he := hc
        · by_cases e : j = k
          · subst e
            have : u.trips.records[j].cls = .emergency := he
            rw [hcls] at this
            cases this
          · exact .inl ⟨j, by rw [← hrec j e]; exact hl, by rw [← hrec j e]; exact he⟩
        · exact .inr (by rw [← hesc]; exact he)
      simp only [hwant, h.emergency hold]
      rfl
    · simp only [hwant]
      exact stopRank_le_fast _
    · by_cases hi : u.trips.confirm = .idle
      · obtain ⟨hc, ht⟩ | ⟨hc, ht⟩ := hidle hi
        · simp [hc, ht]
        · simp [hc, ht]
      · obtain ⟨hc, ht⟩ := hbusy hi
        simp only [hc, ht, hconf, hconfT]
        exact h.timer

theorem stopsSound_raiseTrip (src : TripSource) (d : Nat) (s : State) (h : StopsSound s) :
    StopsSound (raiseTrip src d s) := by
  unfold raiseTrip
  dsimp only
  split
  · exact stopsSound_recount _ s h
  · exact stopsSound_latch _ d s h

theorem stopsSound_confirmTest (s : State) (h : StopsSound s) : StopsSound (confirmTest s) := by
  rw [stopsSound_iff] at h ⊢
  have hlink : linkItem (confirmTest s) = linkItem s := by simp [linkItem]
  rw [hlink, confirmTest_trips]
  split
  · exact h.strengthen h.emergency (le_refl _) rfl (by simp)
  · exact h

theorem stopsSound_escalate (c : EscalationCause) (sub : Subject) (s : State) (h : StopsSound s) :
    StopsSound (escalate c sub s) := by
  rw [stopsSound_iff] at h ⊢
  have hlink : linkItem (escalate c sub s) = linkItem s := by simp [linkItem]
  rw [hlink, escalate_trips]
  split
  · exact h.strengthen (fun _ => rfl) (stopRank_le_emergency _) rfl h.timer
  · exact h

/-! ### The requests of the Trip Controller -/

/-- A Configure Trip changes a CLEAR record, which is no cause of MSTOP. -/
theorem stopsSound_configureTrip (i c a : Byte) (s : State) (h : StopsSound s) :
    StopsSound (serveConfigureTrip i c a s).1 := by
  obtain e | ⟨k, cls, set, hk, e⟩ := configureTrip_records i c a s
  · rw [e]
    exact h
  · rw [stopsSound_iff] at h ⊢
    rw [e]
    refine h.strengthen (fun hc => h.emergency ?_) (le_refl _) rfl h.timer
    obtain ⟨j, hl, he⟩ | he := hc
    · rw [State.onTrips_trips] at hl he
      rw [upd_at] at hl he
      by_cases ej : j = k
      · subst ej
        rw [if_pos rfl] at hl
        rw [hk] at hl
        cases hl
      · rw [if_neg ej] at hl he
        exact .inl ⟨j, hl, he⟩
    · exact .inr he

/-- A clearing leaves no cause of MSTOP and no stop, and a STOP on the link counts no longer (R149). -/
theorem stopsSound_clearTrips (s : State) (h : StopsSound s) : StopsSound (serveClearTrips s).1 := by
  obtain e | ⟨_, e⟩ := serveClearTrips_cases s
  · rw [e]
    exact h
  · rw [stopsSound_iff, e, clearTripTable_trips]
    have quiet : StopLaw { s.trips with
        records := clearAll s.trips.records, escalation := none, confirm := .idle, confirmT := none,
        stopWanted := .none, stopSent := .none } none := by
      refine ⟨fun hc => ?_, le_refl _, fun lv hlv => (nomatch hlv), by simp⟩
      obtain ⟨k, hl, _⟩ | he := hc
      · rw [clearAll_at] at hl
        cases hl
      · cases he
    refine quiet.offLink _ fun lv hlv => ?_
    simp only [linkItem, clearTripTable, raise_frame, State.onLink_link, State.onTrips_link,
      uncountStop, Option.map_map, Option.map_eq_some_iff] at hlv
    obtain ⟨f, _, hf⟩ := hlv
    simp only [Function.comp_apply] at hf
    split at hf
    · cases hf
    · rename_i hne
      exact hne _ _ hf

theorem stopsSound_readTrips (v f : Byte) (s : State) (h : StopsSound s) :
    StopsSound (serveReadTrips v f s).1 := by
  obtain e | e := serveReadTrips_cases v f s
  · rw [e]
    exact h
  · rw [stopsSound_iff] at h ⊢
    rw [e]
    refine h.strengthen (fun hc => h.emergency ?_) (le_refl _) rfl h.timer
    have cls : ∀ (ks : List Source) (w : Vector TripRecord 32) (k : Source),
        (setReported ks w)[k].cls = w[k].cls := by
      intro ks
      unfold setReported
      induction ks with
      | nil => exact fun _ _ => rfl
      | cons j ks ih =>
        intro w k
        rw [List.foldl_cons, ih, upd_at]
        split <;> rfl
    obtain ⟨k, hl, he⟩ | he := hc
    · simp only [markReported, State.onTrips_trips] at hl he
      rw [setReported_latched] at hl
      rw [cls] at he
      exact .inl ⟨k, hl, he⟩
    · exact .inr he

/-! ### The link's item -/

/-- The part chooses a STOP only of the stop wanted (R168). -/
theorem chooseItem_stop (s : State) (lv : StopLevel) (b : Bool) (r : Fin 11)
    (h : chooseItem s = some (.stop lv b, r)) : lv = s.trips.stopWanted := by
  unfold chooseItem at h
  split at h
  · cases h
    rfl
  · split at h
    · obtain ⟨w, _, hw⟩ := Option.map_eq_some_iff.mp h
      cases hw
    · split at h
      · obtain ⟨it, hit, he⟩ := Option.map_eq_some_iff.mp h
        cases he
        unfold ringItem at hit
        split at hit
        · obtain ⟨w, _, hw⟩ := Option.map_eq_some_iff.mp hit
          cases hw
        · cases hit
      · cases h

/-- A win leaves the link's item or puts the chosen one in flight (R163). -/
theorem winArbitration_item (c : Bool) (s : State) : linkItem (winArbitration c s) = linkItem s ∨
    ∃ it r, chooseItem (s.onLink fun l => { l with contending := none, nodeContended := c }) =
      some (it, r) ∧ linkItem (winArbitration c s) = some it := by
  unfold winArbitration
  split
  · exact .inl rfl
  · split
    · exact .inl rfl
    · dsimp only
      split
      · exact .inl rfl
      · rename_i item ring hch
        refine .inr ⟨item, ring, hch, ?_⟩
        cases item <;> rfl

theorem stopsSound_won (c : Bool) (s : State) (h : StopsSound s) :
    StopsSound (winArbitration c s) := by
  obtain e | ⟨it, r, hch, e⟩ := winArbitration_item c s
  · exact stopsSound_congr h (by simp) e
  · rw [stopsSound_iff] at h ⊢
    have ht : (winArbitration c s).trips = s.trips := by simp
    rw [ht, e]
    refine ⟨h.emergency, h.sent, fun lv hlv => ?_, h.timer⟩
    cases hlv
    rw [chooseItem_stop _ lv true r hch]
    exact le_refl _

/-- The end of a broadcast makes its kind the stop sent where it still counts, and it was no stronger than
the stop wanted (R134). -/
theorem stopsSound_stopSent (s : State) (h : StopsSound s) : StopsSound (broadcastSent s) := by
  rw [stopsSound_iff] at h
  unfold broadcastSent
  cases hf : s.link.inFlight with
  | none => exact (stopsSound_iff s).mpr h
  | some f =>
    dsimp only
    split
    · rename_i lv counts hi
      rw [stopsSound_iff]
      refine ⟨h.emergency, ?_, fun _ hlv => (nomatch hlv), h.timer⟩
      simp only [State.onTrips_trips]
      split
      · rename_i hc
        refine h.onLink lv ?_
        rw [linkItem, hf, Option.map_some, hi, hc.1]
      · exact h.sent
    · exact (stopsSound_iff s).mpr h

theorem stopsSound_unitsReset (straps : BitVec 2) (pressed : Vector Bool 8) (hold : Bool)
    (q : List Instr) : StopsSound (unitsReset straps pressed hold q) := by
  rw [stopsSound_iff]
  refine ⟨fun hc => ?_, le_refl _, fun _ hlv => (nomatch hlv), ?_⟩
  · obtain ⟨k, hl, _⟩ | he := hc
    · obtain ⟨c, a, e⟩ := tripDefaults_clear k
      have : (clearRecord c a).latched = true := e ▸ hl
      cases this
    · cases he
  · simp [unitsReset, tripsReset]

/-- What bears on the stops: raises, the escalation and the confirmation, the part's own broadcasts, and the
requests of the Trip Controller. -/
theorem stopsSound_tripsKeep : TripsKeep StopsSound where
  congr h _ ht hl := stopsSound_congr h ht hl
  unlinked s h := (stopsSound_iff _).mpr (((stopsSound_iff s).mp h).offLink none fun _ h => nomatch h)
  trip := stopsSound_raiseTrip
  confirm := stopsSound_confirmTest
  escalated := stopsSound_escalate
  expired s h := by
    rw [stopsSound_iff] at h ⊢
    exact h.strengthen h.emergency (le_refl _) rfl (by simp)
  low _ _ _ _ h := ⟨h.emergency, h.sent, h.onLink, h.timer⟩
  drive _ _ _ h := ⟨h.emergency, h.sent, h.onLink, h.timer⟩
  driveEntry _ _ h := ⟨h.emergency, h.sent, h.onLink, h.timer⟩
  estop x low s h := by
    have pressed : ∀ b, StopsSound (heldPress x b s) := fun _ =>
      ⟨h.emergency, h.sent, h.onLink, h.timer⟩
    obtain e | ⟨_, e⟩ | ⟨_, e⟩ := estopChange_cases x low s
    · rw [e]
      exact h
    · rw [e]
      exact pressed _
    · rw [e]
      exact stopsSound_raiseTrip _ _ _ (pressed _)
  won := stopsSound_won
  stopSent := stopsSound_stopSent
  configureTrip := stopsSound_configureTrip
  clearTrips s _ h := stopsSound_clearTrips s h
  readTrips := stopsSound_readTrips
  reset d s _ := UnitsKeep.afterReset_of stopsSound_raiseTrip stopsSound_unitsReset d s
  halt _ _ _ h := stopsSound_congr h rfl rfl
  press _ _ _ _ h := ⟨h.emergency, h.sent, h.onLink, h.timer⟩

end Sys2Proof.Machine
end

section
/-! The statement about stops. -/

open Sys2Proof Sys2Proof.Machine

/-- Settles O11: each operation of the Trip Controller and each item put on the link keeps the law, and the
others leave both. -/
theorem stepKeepsStopLevels : Obligations.StepKeepsStopLevels :=
  stopsSound_tripsKeep.unitsKeep.step
end


section
/-! SUPPORT. The law of the stands (R108, R122): a stand's work belongs to its actuator state, and a stand that a
latched record names is wanted out of the strip. The states that travel or hold are outside the open group,
so a stand in them is named by no latch, and what the sequencer does there is free. -/

namespace Sys2Proof.Machine

/-! ### The Gap Demand Unit's operations as compositions -/

/-- A law that any change of the demand terms, the strip and the products keeps, and that a demand composed
or ended and an event raised keep. -/
structure TermsFree (P : State → Prop) : Prop where
  terms : ∀ i f s, P s → P (s.onDemand i f)
  track : ∀ f s, P s → P (s.onTrack f)
  store : ∀ f s, P s → P (s.onStore f)
  raised : ∀ c sub n v s, P s → P (raise c sub n v s)
  compose : ∀ i s, P s → P (composeDemand i s)
  ended : ∀ i s, P s → P (endDemand i s)

namespace TermsFree

variable {P : State → Prop}

theorem entry (K : TermsFree P) (n : Nat) (i : Stand) (f : StandEntry → StandEntry) (s : State)
    (h : P s) : P (onEntry n i f s) := by
  unfold onEntry onCell
  exact K.track _ s h

theorem product (K : TermsFree P) (i : Stand) (y : Cell) (s : State) (h : P s) :
    P (biteProduct i y s) := by
  unfold biteProduct switchDemand endFreeze
  dsimp only
  split
  · exact h
  · exact K.raised _ _ _ _ _ (K.compose i _ (K.terms i _ _ (K.terms i _ _ (K.store _ s h))))

theorem feed (K : TermsFree P) (i : Stand) (y : Cell) (s : State) (h : P s) : P (biteDemand i y s) := by
  unfold biteDemand endFreeze
  exact K.compose i _ (K.terms i _ _ (K.entry _ _ _ _ (K.terms i _ s h)))

theorem monitor (K : TermsFree P) (i : Stand) (x : Cell) (v : Nat) (s : State) (h : P s) :
    P (monitorUpdate i x v s) := by
  unfold monitorUpdate
  dsimp only
  split
  · exact K.compose i _ (K.entry _ _ _ _ (K.terms i _ s h))
  · exact h

theorem startDemands (K : TermsFree P) (s : State) (h : P s) : P (startDemands s) := by
  unfold Machine.startDemands
  exact UnitsKeep.pass _ (fun u i hu => K.compose i u hu) allStands _
    (UnitsKeep.pass _ (fun u i hu => K.terms i _ u hu) allStands s h)

theorem stopDemands (K : TermsFree P) (s : State) (h : P s) : P (stopDemands s) := by
  unfold Machine.stopDemands
  exact UnitsKeep.pass _ (fun u i hu => K.terms i _ _ (K.ended i u hu)) allStands s h

theorem offset (K : TermsFree P) (i : Stand) (o : Int) (s : State) (h : P s) :
    P (offsetEffect i o s) := by
  unfold offsetEffect
  split
  · exact h
  · exact K.compose i _ (K.terms i _ s h)

theorem zeroTrim (K : TermsFree P) (i : Stand) (s : State) (h : P s) : P (zeroTrim i s) := by
  unfold Machine.zeroTrim
  exact K.compose i _ (K.terms i _ s h)

theorem reclamp (K : TermsFree P) (i : Stand) (s : State) (h : P s) : P (reclampDemand i s) := by
  unfold reclampDemand
  exact K.compose i _ (K.terms i _ s h)

end TermsFree

/-! ### The law of the stands, stand by stand -/

/-- The law on one stand's fields, with whether a latched record names it. -/
structure StandLaw (a : Actuator) (named : Prop) : Prop where
  home : ∀ w, a.work = some w → a.state = homeState w.cmd
  out : named → openGroup a.state

theorem standsSound_iff (s : State) :
    StandsSound s ↔ ∀ i : Stand, StandLaw s.actuators[i] (tripNames s i = true) :=
  ⟨fun h i => ⟨h.home i, h.named i⟩, fun h => ⟨fun i => (h i).home, fun i => (h i).out⟩⟩

theorem tripNames_congr {s t : State} (h : t.trips.records = s.trips.records) (i : Stand) :
    tripNames t i = tripNames s i := by
  simp only [tripNames, h]

theorem standsSound_congr {s t : State} (h : StandsSound s) (ha : t.actuators = s.actuators)
    (hr : t.trips.records = s.trips.records) : StandsSound t := by
  rw [standsSound_iff] at h ⊢
  intro i
  rw [ha, tripNames_congr hr]
  exact h i

/-- A change of one stand's fields that fits the law there. -/
theorem standsSound_onActuator (i : Stand) (f : Actuator → Actuator) (s : State) (h : StandsSound s)
    (hf : StandLaw (f s.actuators[i]) (tripNames s i = true)) : StandsSound (s.onActuator i f) := by
  rw [standsSound_iff] at h ⊢
  intro j
  rw [tripNames_congr (s := s) (t := s.onActuator i f) rfl, State.onActuator_actuators, upd_at]
  split
  · subst_vars; exact hf
  · exact h j

/-- A stand in TRAVEL, SETTLE or HOLD is named by no latch. -/
theorem not_named (s : State) (i : Stand) (h : StandsSound s) (hs : ¬ openGroup s.actuators[i].state) :
    tripNames s i ≠ true := fun hn => hs (h.named i hn)

theorem not_openGroup_travel : ¬ openGroup .travel := by rintro (h | h | h) <;> cases h
theorem not_openGroup_hold : ¬ openGroup .hold := by rintro (h | h | h) <;> cases h
theorem not_openGroup_settle : ¬ openGroup .settle := by rintro (h | h | h) <;> cases h

/-! ### Work built, dropped and handed back (R107, R108, R118) -/

theorem standsSound_buildWork (i : Stand) (cmd : GapCommand) (s : State) (h : StandsSound s)
    (hc : s.actuators[i].state = homeState cmd) : StandsSound (buildWork i cmd s) :=
  standsSound_onActuator i _ s h ⟨fun w hw => by cases hw; exact hc, h.named i⟩

theorem standsSound_dropWork (i : Stand) (s : State) (h : StandsSound s) :
    StandsSound (dropWork i s) :=
  standsSound_onActuator i _ s h ⟨fun _ hw => (nomatch hw), h.named i⟩

/-- The stand's work in another phase, or with fields of the stand changed that the law does not read. -/
theorem standsSound_rephase (i : Stand) (w : Work) (ph : WorkPhase) (f : Actuator → Actuator)
    (s : State) (h : StandsSound s) (hw : s.actuators[i].work = some w)
    (hs : (f s.actuators[i]).state = s.actuators[i].state)
    (hf : (f s.actuators[i]).work = some { w with phase := ph }) : StandsSound (s.onActuator i f) := by
  refine standsSound_onActuator i f s h ⟨fun v hv => ?_, fun hn => hs ▸ h.named i hn⟩
  rw [hf] at hv
  cases hv
  rw [hs]
  exact h.home i w hw

theorem standsSound_putIntoOpening (i : Stand) (s : State) (h : StandsSound s) :
    StandsSound (putIntoOpening i s) := by
  rw [standsSound_iff] at h ⊢
  intro j
  have hr : (putIntoOpening i s).trips.records = s.trips.records := by simp
  rw [tripNames_congr hr, putIntoOpening_eq, set_at]
  split
  · exact ⟨fun w hw => by cases hw; rfl, fun _ => .inl rfl⟩
  · exact h j

theorem standsSound_applyTravel (i : Stand) (s : State) (h : StandsSound s)
    (hs : s.actuators[i].state = .travel) : StandsSound (applyTravel i s) := by
  unfold applyTravel
  dsimp only
  repeat' split
  · exact h
  · exact standsSound_buildWork i _ s h hs
  · exact h
  · exact standsSound_buildWork i _ s h hs
  · exact h
  · exact h

/-- A stand that no latch names enters TRAVEL (R116). -/
theorem standsSound_enterTravel (i : Stand) (s : State) (h : StandsSound s)
    (hn : tripNames s i ≠ true) : StandsSound (enterTravel i s) := by
  refine standsSound_applyTravel i _ ?_ (by simp [upd_at, -Fin.getElem_fin])
  refine standsSound_onActuator i _ _ (standsSound_dropWork i s h) ⟨fun w hw => ?_, fun h => (hn h).elim⟩
  simp [dropWork, upd_at, -Fin.getElem_fin] at hw

theorem standsSound_applyHold (i : Stand) (s : State) (h : StandsSound s)
    (hs : s.actuators[i].state = .hold) : StandsSound (applyHold i s) := by
  have hn : tripNames s i ≠ true := not_named s i h (hs ▸ not_openGroup_hold)
  unfold applyHold
  dsimp only
  repeat' split
  · exact h
  · exact standsSound_dropWork i s h
  · exact h
  · exact standsSound_buildWork i _ s h hs
  · exact standsSound_buildWork i _ s h hs
  · exact standsSound_enterTravel i s h hn

/-! ### Demands (R90, R110) -/

theorem standsSound_newDemand (i : Stand) (d : Option Int) (s : State) (h : StandsSound s) :
    StandsSound (newDemand i d s) := by
  have h1 : StandsSound (s.onActuator i fun a => { a with t := d }) :=
    standsSound_onActuator i _ s h ⟨h.home i, h.named i⟩
  have hs : (s.onActuator i fun a => { a with t := d }).actuators[i].state =
      s.actuators[i].state := by simp [upd_at, -Fin.getElem_fin]
  unfold newDemand
  dsimp only
  split
  · rename_i ht
    split
    · exact h1
    · exact standsSound_applyTravel i _ h1 (hs.trans ht)
  · rename_i hh
    split
    · exact h1
    · exact standsSound_applyHold i _ h1 (hs.trans hh)
  · exact h1
  · exact h1
  · exact h1
  · exact h1
  · exact h1

theorem standsSound_endDemand (i : Stand) (s : State) (h : StandsSound s) :
    StandsSound (endDemand i s) := by
  have h1 : StandsSound (s.onDemand i fun d => { d with demand := none, limited := false }) :=
    standsSound_congr h rfl rfl
  unfold endDemand
  dsimp only
  split
  · exact standsSound_newDemand i none _ h1
  · exact h1

theorem standsSound_raise (c : EventCode) (sub : Subject) (n : Option Nat) (v : Int) (s : State)
    (h : StandsSound s) : StandsSound (raise c sub n v s) :=
  standsSound_congr h (by simp) (by simp)

theorem standsSound_composeDemand (i : Stand) (s : State) (h : StandsSound s) :
    StandsSound (composeDemand i s) := by
  have h1 : ∀ f, StandsSound (s.onDemand i f) := fun f => standsSound_congr h rfl rfl
  unfold composeDemand
  dsimp only
  split
  · repeat' split
    · exact standsSound_raise _ _ _ _ _ (h1 _)
    · exact h1 _
    · exact standsSound_newDemand i _ _ (standsSound_raise _ _ _ _ _ (h1 _))
    · exact standsSound_newDemand i _ _ (h1 _)
  · exact standsSound_endDemand i s h

theorem standsSound_termsFree : TermsFree StandsSound where
  terms _ _ _ h := standsSound_congr h rfl rfl
  track _ _ h := standsSound_congr h rfl rfl
  store _ _ h := standsSound_congr h rfl rfl
  raised := standsSound_raise
  compose := standsSound_composeDemand
  ended := standsSound_endDemand

/-! ### Trips (R122, R133) -/

/-- After a raise a latched record names a stand where one did before, or where the raised record, found
CLEAR, names it. -/
theorem raiseTrip_names (src : TripSource) (d : Nat) (s : State) (i : Stand)
    (h : tripNames (raiseTrip src d s) i = true) : tripNames s i = true ∨
      (s.trips.records[sourceIndex src].latched = false ∧
        s.trips.records[sourceIndex src].affected.getLsbD i.val = true) := by
  rw [tripNames_iff] at h
  obtain ⟨k, hl, ha⟩ := h
  rw [raiseTrip_records, upd_at] at hl ha
  by_cases e : k = sourceIndex src
  · subst e
    rw [if_pos rfl] at ha
    by_cases hk : s.trips.records[sourceIndex src].latched = true
    · rw [if_pos hk] at ha
      exact .inl ((tripNames_iff s i).mpr ⟨_, hk, ha⟩)
    · rw [if_neg hk] at ha
      exact .inr ⟨by simpa using hk, ha⟩
  · rw [if_neg e] at hl ha
    exact .inl ((tripNames_iff s i).mpr ⟨k, hl, ha⟩)

theorem openGroup_of_not_opened (a : ActState) (h : openedByTrip a ≠ true) : openGroup a := by
  cases a
  · exact .inr (.inl rfl)
  · exact absurd rfl h
  · exact absurd rfl h
  · exact absurd rfl h
  · exact .inl rfl
  · exact .inr (.inr rfl)
  · exact absurd rfl h

/-- A latch opens every stand its record names that is not out of the strip already. -/
theorem standsSound_raiseTrip (src : TripSource) (d : Nat) (s : State) (h : StandsSound s) :
    StandsSound (raiseTrip src d s) := by
  rw [standsSound_iff] at h ⊢
  intro i
  rw [raiseTrip_actuators]
  split
  · exact ⟨fun w hw => by cases hw; rfl, fun _ => .inl rfl⟩
  · rename_i hno
    refine ⟨(h i).home, fun hn => ?_⟩
    obtain hn | ⟨hl, ha⟩ := raiseTrip_names src d s i hn
    · exact (h i).out hn
    · exact openGroup_of_not_opened _ fun ho => hno ⟨hl, ha, ho⟩

theorem standsSound_openFailed (i : Stand) (c : Int) (s : State) (h : StandsSound s) :
    StandsSound (openFailed i c s) := by
  have h1 : StandsSound (s.onActuator i fun a =>
      { a with state := .openFailed, work := none, openT := none }) :=
    standsSound_onActuator i _ s h ⟨fun w hw => (nomatch hw), fun _ => .inr (.inr rfl)⟩
  exact standsSound_congr h1 (by simp [openFailed]) (by simp [openFailed])

theorem standsSound_actuatorFault (i : Stand) (s : State) (h : StandsSound s) :
    StandsSound (actuatorFault i s) := by
  unfold actuatorFault
  dsimp only
  split
  · exact standsSound_raiseTrip _ _ s h
  · exact standsSound_putIntoOpening i _ (standsSound_raiseTrip _ _ s h)

/-! ### Steps and trims (R113 to R117) -/

theorem standsSound_settleExpire (i : Stand) (s : State) (h : StandsSound s)
    (hs : s.actuators[i].state = .settle) : StandsSound (settleExpire i s) := by
  have hwork : s.actuators[i].work = none := by
    cases hw : s.actuators[i].work with
    | none => rfl
    | some w =>
      have := h.home i w hw
      rw [hs] at this
      cases hc : w.cmd <;> rw [hc] at this <;> cases this
  have h1 : StandsSound (s.onActuator i fun a => { a with state := .hold, c := a.p, settleT := none }) :=
    standsSound_onActuator i _ s h ⟨fun w hw => (nomatch hwork.symm.trans hw),
      fun hn => (not_named s i h (hs ▸ not_openGroup_settle) hn).elim⟩
  unfold settleExpire
  dsimp only
  split
  · exact h1
  · exact standsSound_applyHold i _ h1 (by simp [upd_at, -Fin.getElem_fin])

theorem standsSound_completeStep (i : Stand) (pos : Int) (s : State) (h : StandsSound s)
    (hs : s.actuators[i].state = .travel) : StandsSound (completeStep i pos s) := by
  have hn := not_named s i h (hs ▸ not_openGroup_travel)
  have h1 : StandsSound (s.onActuator i fun a => { a with p := pos, work := none, moveT := none }) :=
    standsSound_onActuator i _ s h ⟨fun w hw => (nomatch hw), fun hc => (hn hc).elim⟩
  have hs1 : (s.onActuator i fun a => { a with p := pos, work := none, moveT := none }
      ).actuators[i] = { s.actuators[i] with p := pos, work := none, moveT := none } := by
    simp [upd_at, -Fin.getElem_fin]
  have h2 : StandsSound ((s.onActuator i fun a =>
      { a with p := pos, work := none, moveT := none }).onActuator i fun a =>
      { a with state := .settle, settleT := some ⟨s.now, s.stands[i].settle⟩ }) := by
    refine standsSound_onActuator i _ _ h1 ⟨fun w hw => ?_, fun hc => (hn hc).elim⟩
    rw [hs1] at hw
    cases hw
  unfold completeStep
  dsimp only
  repeat' split
  · exact standsSound_settleExpire i _ h2 (by simp [upd_at, -Fin.getElem_fin])
  · exact h2
  · exact standsSound_applyTravel i _ h1 (by rw [hs1]; exact hs)

theorem standsSound_acceptTrim (i : Stand) (v : Int) (s : State) (h : StandsSound s)
    (hs : s.actuators[i].state = .hold) : StandsSound (acceptTrim i v s) := by
  refine standsSound_applyHold i _ ?_ (by simp [upd_at, hs, -Fin.getElem_fin])
  exact standsSound_onActuator i _ s h ⟨fun w hw => (nomatch hw), h.named i⟩

theorem standsSound_rejectTrim (i : Stand) (v : Int) (s : State) (h : StandsSound s)
    (hs : s.actuators[i].state = .hold) : StandsSound (rejectTrim i v s) := by
  have h1 := standsSound_raise .trimRejected (.stand i) none v _ (standsSound_dropWork i s h)
  unfold rejectTrim
  dsimp only
  split
  · exact h1
  · exact standsSound_applyHold i _ h1 (by simp [dropWork, upd_at, hs, -Fin.getElem_fin])

/-- The outcome of the current work finds the stand in its work's own state (R108, R109). -/
theorem standsSound_takeOutcome (i : Stand) (n : Byte) (o : Handed) (s : State) (h : StandsSound s) :
    StandsSound (takeOutcome i n o s) := by
  unfold takeOutcome
  cases hw : s.actuators[i].work with
  | none => exact h
  | some w =>
    have hhome := h.home i w hw
    have requeued : StandsSound (requeue i w s) :=
      standsSound_rephase i w .queued _ s h hw rfl rfl
    have hst : (requeue i w s).actuators[i].state = s.actuators[i].state := by
      simp [requeue, upd_at, -Fin.getElem_fin]
    dsimp only
    split
    · split
      · exact standsSound_rephase i w .moving _ s h hw rfl rfl
      · exact standsSound_actuatorFault i s h
      · rename_i v hc
        exact standsSound_acceptTrim i v s h (hhome.trans (by rw [hc]; rfl))
      · rename_i v hc
        exact standsSound_rejectTrim i v s h (hhome.trans (by rw [hc]; rfl))
      · exact standsSound_rephase i w .moving _ s h hw rfl rfl
      · exact standsSound_openFailed i 1 s h
      · exact requeued
      · split
        · exact standsSound_applyTravel i _ requeued ‹_›
        · exact standsSound_applyHold i _ requeued ‹_›
        · exact requeued
    · exact h

/-! ### Reports (R106, R114, R117, R120, R124) -/

theorem standsSound_takeLocal (i : Stand) (s : State) (h : StandsSound s) :
    StandsSound (takeLocal i s) := by
  unfold takeLocal
  dsimp only
  split
  · rename_i hc
    exact standsSound_raise _ _ _ _ _ (standsSound_onActuator i _ s h
      ⟨fun w hw => (nomatch hw), fun hn => (hc.2 hn).elim⟩)
  · exact h

theorem standsSound_takeOpen (i : Stand) (echo : Byte) (s : State) (h : StandsSound s) :
    StandsSound (takeOpen i echo s) := by
  have h1 : StandsSound (raise .standOpened (.stand i) none echo.toNat (s.onActuator i fun a =>
      { a with state := .open_, work := none, openT := none })) :=
    standsSound_raise _ _ _ _ _ (standsSound_onActuator i _ s h
      ⟨fun w hw => (nomatch hw), fun _ => .inr (.inl rfl)⟩)
  unfold takeOpen
  dsimp only
  repeat' split
  · exact h1
  · exact h
  · exact h
  · exact h1
  · exact h

theorem standsSound_takeInPosition (i : Stand) (echo : Byte) (s : State) (h : StandsSound s) :
    StandsSound (takeInPosition i echo s) := by
  unfold takeInPosition
  dsimp only
  repeat' split
  · exact h
  · exact standsSound_completeStep i _ s h ‹_›
  · exact standsSound_acceptTrim i _ s h ‹_›
  · exact h
  · exact h

theorem standsSound_takeReport (i : Stand) (r : StandReport) (s : State) (h : StandsSound s) :
    StandsSound (takeReport i r s) := by
  have h1 : StandsSound (s.onActuator i fun a => { a with reported := some r.position.toInt }) :=
    standsSound_onActuator i _ s h ⟨h.home i, h.named i⟩
  have h2 : ∀ b : Bool, StandsSound (if b = true then takeLocal i (s.onActuator i fun a =>
      { a with reported := some r.position.toInt }) else s.onActuator i fun a =>
      { a with reported := some r.position.toInt }) := fun b => by
    split
    · exact standsSound_takeLocal i _ h1
    · exact h1
  unfold takeReport
  dsimp only
  repeat' split
  · exact standsSound_takeInPosition i _ _ (standsSound_takeOpen i _ _ (standsSound_takeLocal i _ h1))
  · exact standsSound_takeInPosition i _ _ (standsSound_takeOpen i _ _ h1)
  · exact standsSound_takeInPosition i _ _ (standsSound_takeLocal i _ h1)
  · exact standsSound_takeInPosition i _ _ h1
  · exact standsSound_takeOpen i _ _ (standsSound_takeLocal i _ h1)
  · exact standsSound_takeOpen i _ _ h1
  · exact standsSound_takeLocal i _ h1
  · exact h1

/-! ### Timers, arbitration and requests -/

theorem standsSound_settleExpiry (i : Stand) (s : State) (h : StandsSound s) :
    StandsSound (settleExpiry i s) := by
  unfold settleExpiry
  split
  · rename_i hc
    exact standsSound_settleExpire i s h hc.1
  · exact h

theorem standsSound_moveExpiry (i : Stand) (s : State) (h : StandsSound s) :
    StandsSound (moveExpiry i s) := by
  unfold moveExpiry
  split
  · exact standsSound_actuatorFault i _ (standsSound_onActuator i _ s h ⟨h.home i, h.named i⟩)
  · exact h

theorem standsSound_openExpiry (i : Stand) (s : State) (h : StandsSound s) :
    StandsSound (openExpiry i s) := by
  unfold openExpiry
  split
  · exact standsSound_openFailed i 0 s h
  · exact h

/-- An item marked in flight moves its stand's work into that phase, and no state (R163). -/
theorem standsSound_markInFlight (it : Item) (s : State) (h : StandsSound s) :
    StandsSound (markInFlight it s) := by
  have mark : ∀ i : Stand, StandsSound (s.onActuator i fun a =>
      { a with work := a.work.map fun w => { w with phase := .inFlight } }) := fun i => by
    refine standsSound_onActuator i _ s h ⟨fun w hw => ?_, h.named i⟩
    obtain ⟨v, hv, rfl⟩ := Option.map_eq_some_iff.mp hw
    exact h.home i v hv
  cases it with
  | stop lv b => exact h
  | gapOpen i n => exact mark i
  | gap i c n => exact mark i
  | standardize p => exact standsSound_congr h rfl rfl

theorem standsSound_won (c : Bool) (s : State) (h : StandsSound s) :
    StandsSound (winArbitration c s) := by
  unfold winArbitration
  split
  · exact h
  · split
    · exact h
    · dsimp only
      split
      · exact standsSound_congr h rfl rfl
      · exact standsSound_markInFlight _ _ (standsSound_congr h rfl rfl)

theorem standsSound_engage (b : Byte) (s : State) (h : StandsSound s) :
    StandsSound (serveEngage b s).1 := by
  unfold serveEngage
  simp only [accept, refuse, badParam]
  repeat' split
  · exact h
  · exact h
  · exact h
  · exact h
  · exact h
  · rename_i i _ _ _ hstate hnamed
    have hwork : s.actuators[i].work = none := by
      cases hw : s.actuators[i].work with
      | none => rfl
      | some w =>
        have := h.home i w hw
        obtain ⟨ho | hr, _⟩ := not_not.mp hstate
        · rw [ho] at this
          cases hc : w.cmd <;> rw [hc] at this <;> cases this
        · rw [hr] at this
          cases hc : w.cmd <;> rw [hc] at this <;> cases this
    refine standsSound_applyTravel i _ ?_ (by simp [upd_at, -Fin.getElem_fin])
    exact standsSound_onActuator i _ s h ⟨fun w hw => (nomatch hwork.symm.trans hw),
      fun hn => (hnamed hn).elim⟩

theorem standsSound_configureStand (p : StandParams) (s : State) (h : StandsSound s) :
    StandsSound (serveConfigureStand p s).1 := by
  have effect : ∀ i a, StandsSound (standEffect p i a s) := fun i a => by
    have h1 : StandsSound (giveRole a (.stand i)
        (forgetDrive a (.stand i) (s.onStand i fun _ => standRecordOf p))) := by
      refine standsSound_congr h (by simp) ?_
      simp only [forgetDrive, giveRole_frame]
      split <;> rfl
    exact standsSound_congr (standsSound_termsFree.reclamp i _ h1) (by simp [standEffect])
      (by simp [standEffect])
  unfold serveConfigureStand
  simp only [accept, refuse, badParam]
  repeat' split
  · exact h
  · exact h
  · exact h
  · exact h
  · exact h
  · exact effect _ _
  · exact h

/-- A Configure Trip changes the set of a CLEAR record, which names no stand. -/
theorem standsSound_configureTrip (i c a : Byte) (s : State) (h : StandsSound s) :
    StandsSound (serveConfigureTrip i c a s).1 := by
  obtain e | ⟨k, cls, set, hk, e⟩ := configureTrip_records i c a s
  · rw [e]
    exact h
  · rw [e]
    refine ⟨h.home, fun j hn => h.named j ?_⟩
    obtain ⟨m, hl, ha⟩ := (tripNames_iff _ j).mp hn
    rw [State.onTrips_trips, upd_at] at hl ha
    by_cases em : m = k
    · subst em
      rw [if_pos rfl] at hl
      exact nomatch hk.symm.trans hl
    · rw [if_neg em] at hl ha
      exact (tripNames_iff s j).mpr ⟨m, hl, ha⟩

/-- After a clearing no latch names a stand (R149). -/
theorem standsSound_clearTrips (s : State) (h : StandsSound s) :
    StandsSound (serveClearTrips s).1 := by
  obtain e | ⟨_, e⟩ := serveClearTrips_cases s
  · rw [e]
    exact h
  · rw [e]
    have ha : (clearTripTable s).actuators = s.actuators := by simp [clearTripTable]
    refine ⟨fun i w hw => by rw [ha] at hw ⊢; exact h.home i w hw, fun i hn => ?_⟩
    obtain ⟨k, hl, _⟩ := (tripNames_iff _ i).mp hn
    rw [clearTripTable_trips, clearAll_at] at hl
    cases hl

/-- A Read Trips marks records and names no other stand (R150). -/
theorem standsSound_readTrips (v f : Byte) (s : State) (h : StandsSound s) :
    StandsSound (serveReadTrips v f s).1 := by
  have affected : ∀ (ks : List Source) (w : Vector TripRecord 32) (k : Source),
      (setReported ks w)[k].affected = w[k].affected := by
    intro ks
    unfold setReported
    induction ks with
    | nil => exact fun _ _ => rfl
    | cons j ks ih =>
      intro w k
      rw [List.foldl_cons, ih, upd_at]
      split <;> rfl
  obtain e | e := serveReadTrips_cases v f s
  · rw [e]
    exact h
  · rw [e]
    refine ⟨h.home, fun i hn => h.named i ?_⟩
    obtain ⟨k, hl, ha⟩ := (tripNames_iff _ i).mp hn
    simp only [markReported, State.onTrips_trips] at hl ha
    rw [setReported_latched] at hl
    rw [affected] at ha
    exact (tripNames_iff s i).mpr ⟨k, hl, ha⟩

theorem standsSound_unitsReset (straps : BitVec 2) (pressed : Vector Bool 8) (hold : Bool)
    (q : List Instr) : StandsSound (unitsReset straps pressed hold q) := by
  refine ⟨fun i w hw => ?_, fun i hn => ?_⟩
  · simp [unitsReset, actuatorReset] at hw
  · obtain ⟨k, hl, _⟩ := (tripNames_iff _ i).mp hn
    obtain ⟨c, a, e⟩ := tripDefaults_clear k
    have : (clearRecord c a).latched = true := e ▸ hl
    cases this

/-- What bears on the stands: the sequencer's own operations, the demands handed to it, the raises that
open stands, and the requests that engage, open or remove one. -/
theorem standsSound_unitsKeep : UnitsKeep StandsSound := by
  constructor
  case elsewhere => exact fun h hs => standsSound_congr hs h.actuators (by rw [h.trips])
  case trip => exact standsSound_raiseTrip
  case product => exact standsSound_termsFree.product
  case feed => exact standsSound_termsFree.feed
  case monitor => exact standsSound_termsFree.monitor
  case report => exact standsSound_takeReport
  case outcome => exact standsSound_takeOutcome
  case settle => exact standsSound_settleExpiry
  case move => exact standsSound_moveExpiry
  case openTimer => exact standsSound_openExpiry
  case stopConfirm =>
    intro s h
    refine standsSound_congr h (by simp) ?_
    unfold confirmExpiry
    split
    · rw [escalate_records]
      rfl
    · rfl
  case estop =>
    intro x low s h
    obtain e | ⟨_, e⟩ | ⟨_, e⟩ := estopChange_cases x low s
    · rw [e]
      exact h
    · rw [e]
      exact standsSound_congr h rfl rfl
    · rw [e]
      exact standsSound_raiseTrip _ _ _ (standsSound_congr h rfl rfl)
  case won => exact standsSound_won
  case stopSent =>
    intro s h
    obtain ⟨l, hl⟩ := broadcastSent_trips s
    exact standsSound_congr h (by simp) (by rw [hl])
  case forget =>
    intro a r s h
    refine standsSound_congr h (by simp) ?_
    unfold forgetDrive
    split
    · rfl
    · cases r <;> rfl
  case remove =>
    exact fun i s h => standsSound_onActuator i _ _
      (standsSound_congr (s := s) h (by simp) (by simp)) ⟨fun w hw => (nomatch hw), fun _ => .inr (.inl rfl)⟩
  case configureStand => exact standsSound_configureStand
  case startDemands => exact standsSound_termsFree.startDemands
  case stopDemands => exact standsSound_termsFree.stopDemands
  case offset => exact fun i o s _ _ h => standsSound_termsFree.offset i o s h
  case zeroTrim => exact standsSound_termsFree.zeroTrim
  case engage => exact standsSound_engage
  case opens =>
    intro is s h
    unfold openEffect
    refine UnitsKeep.pass _ (fun u i hu => ?_) is s h
    split
    · exact standsSound_putIntoOpening i u hu
    · exact hu
  case configureTrip => exact standsSound_configureTrip
  case clearTrips => exact fun s _ h => standsSound_clearTrips s h
  case readTrips => exact standsSound_readTrips
  case reset =>
    exact fun d s _ => UnitsKeep.afterReset_of standsSound_raiseTrip standsSound_unitsReset d s
  all_goals
    intros
    refine standsSound_congr ‹StandsSound _› ?_ ?_
    all_goals simp [heldPress, halted]

end Sys2Proof.Machine
end

section
/-! The statement about tripped stands. -/

open Sys2Proof Sys2Proof.Machine

/-- Settles O12: a latch opens the stands it names, and a stand leaves the open group only where no latch names
it. -/
theorem stepKeepsTrippedStandsOpen : Obligations.StepKeepsTrippedStandsOpen :=
  standsSound_unitsKeep.step
end


section
/-! SUPPORT. The law of the demands (R89): a term is clamped where it is written, a composition clamps the
demand, and a Configure Stand clamps the terms to the new limits before it composes. -/

namespace Sys2Proof.Machine

/-- The law on one stand: its limits in order, its terms within theirs, its demand within its gap limits. -/
structure DemandLaw (r : StandRecord) (d : DemandState) : Prop where
  order : r.configured = true → r.gapMin < r.gapMax
  ff : r.configured = true → d.ff.natAbs ≤ r.ffLimit
  trim : r.configured = true → d.trim.natAbs ≤ r.monLimit
  demand : ∀ v, r.configured = true → d.demand = some v → r.gapMin ≤ v.value ∧ v.value ≤ r.gapMax

theorem demandSound_iff (s : State) :
    DemandSound s ↔ ∀ i : Stand, DemandLaw s.stands[i] s.demands[i] :=
  ⟨fun h i => ⟨h.order i, h.ff i, h.trim i, h.demand i⟩,
    fun h => ⟨fun i => (h i).order, fun i => (h i).ff, fun i => (h i).trim, fun i => (h i).demand⟩⟩

theorem demandSound_congr {s t : State} (h : DemandSound s) (hs : t.stands = s.stands)
    (hd : t.demands = s.demands) : DemandSound t := by
  rw [demandSound_iff] at h ⊢
  rw [hs, hd]
  exact h

/-- A change of one stand's fields that fits the law there. -/
theorem demandSound_onDemand (i : Stand) (f : DemandState → DemandState) (s : State)
    (h : DemandSound s) (hf : DemandLaw s.stands[i] (f s.demands[i])) :
    DemandSound (s.onDemand i f) := by
  rw [demandSound_iff] at h ⊢
  intro j
  rw [State.onDemand_demands, upd_at, State.onDemand_stands]
  split
  · subst_vars; exact hf
  · exact h j

theorem clampTo_bounds (lo hi v : Int) (h : lo ≤ hi) : lo ≤ clampTo lo hi v ∧ clampTo lo hi v ≤ hi := by
  unfold clampTo
  split
  · omega
  · split <;> omega

theorem clampSym_natAbs (l : Nat) (v : Int) : (clampSym l v).natAbs ≤ l := by
  have := clampTo_bounds (-(l : Int)) l v (by omega)
  unfold clampSym
  omega

/-- A demand to be composed lies within the gap limits of its stand (R89). -/
theorem demandOf_bounds (s : State) (i : Stand) (v : DemandValue) (hv : demandOf s i = some v)
    (ho : s.stands[i].gapMin ≤ s.stands[i].gapMax) :
    s.stands[i].gapMin ≤ v.value ∧ v.value ≤ s.stands[i].gapMax := by
  unfold demandOf at hv
  split at hv
  · obtain ⟨p, _, rfl⟩ := Option.map_eq_some_iff.mp hv
    exact clampTo_bounds _ _ _ ho
  · cases hv

/-- A composition makes the demand fit, where the limits are in order and the terms fit. -/
theorem demandSound_composed (i : Stand) (s : State)
    (hi : s.stands[i].configured = true → s.stands[i].gapMin < s.stands[i].gapMax ∧
      s.demands[i].ff.natAbs ≤ s.stands[i].ffLimit ∧ s.demands[i].trim.natAbs ≤ s.stands[i].monLimit)
    (h : ∀ j : Stand, j ≠ i → DemandLaw s.stands[j] s.demands[j]) : DemandSound (composeDemand i s) := by
  obtain ⟨lim, hd⟩ := composeDemand_demands i s
  rw [demandSound_iff]
  intro j
  have hs : (composeDemand i s).stands = s.stands := by simp
  rw [hs, hd, upd_at]
  by_cases e : j = i
  · subst e
    rw [if_pos rfl]
    exact ⟨fun hc => (hi hc).1, fun hc => (hi hc).2.1, fun hc => (hi hc).2.2,
      fun v hc hv => demandOf_bounds s j v hv (hi hc).1.le⟩
  · rw [if_neg e]
    exact h j e

theorem demandSound_composeDemand (i : Stand) (s : State) (h : DemandSound s) :
    DemandSound (composeDemand i s) :=
  demandSound_composed i s (fun hc => ⟨h.order i hc, h.ff i hc, h.trim i hc⟩)
    fun j _ => (demandSound_iff s).mp h j

theorem demandSound_endDemand (i : Stand) (s : State) (h : DemandSound s) :
    DemandSound (endDemand i s) := by
  have h1 : DemandSound (s.onDemand i fun d => { d with demand := none, limited := false }) :=
    demandSound_onDemand i _ s h ⟨h.order i, h.ff i, h.trim i, fun v _ hv => nomatch hv⟩
  rw [endDemand_eq]
  exact demandSound_congr h1 rfl rfl

theorem demandSound_raise (c : EventCode) (sub : Subject) (n : Option Nat) (v : Int) (s : State)
    (h : DemandSound s) : DemandSound (raise c sub n v s) :=
  demandSound_congr h (by simp) (by simp)

theorem demandSound_onEntry (n : Nat) (i : Stand) (f : StandEntry → StandEntry) (s : State)
    (h : DemandSound s) : DemandSound (onEntry n i f s) :=
  demandSound_congr h rfl rfl

theorem demandSound_freeze (i : Stand) (f : DemandState → Option Nat) (s : State) (h : DemandSound s) :
    DemandSound (s.onDemand i fun d => { d with freeze := f d }) :=
  demandSound_onDemand i _ s h ⟨h.order i, h.ff i, h.trim i, h.demand i⟩

theorem demandSound_trim (i : Stand) (f : DemandState → Int) (s : State) (h : DemandSound s)
    (hf : (f s.demands[i]).natAbs ≤ s.stands[i].monLimit ∨ s.stands[i].configured ≠ true) :
    DemandSound (s.onDemand i fun d => { d with trim := f d }) :=
  demandSound_onDemand i _ s h
    ⟨h.order i, h.ff i, fun hc => hf.resolve_right (not_not.mpr hc), h.demand i⟩

theorem demandSound_ff (i : Stand) (v : Int) (s : State) (h : DemandSound s)
    (hv : v.natAbs ≤ s.stands[i].ffLimit) :
    DemandSound (s.onDemand i fun d => { d with ff := v }) :=
  demandSound_onDemand i _ s h ⟨h.order i, fun _ => hv, h.trim i, h.demand i⟩

/-- The feedforward term of a bite is within its limit (R92, R93). -/
theorem feedforward_natAbs (s : State) (i : Stand) (y : Cell) :
    (feedforward s i y).natAbs ≤ s.stands[i].ffLimit := by
  unfold feedforward
  split
  · exact clampSym_natAbs _ _
  · exact Nat.zero_le _

/-- A product switched in leaves the trim or takes it to 0 (R99). -/
theorem demandSound_product (i : Stand) (y : Cell) (s : State) (h : DemandSound s) :
    DemandSound (biteProduct i y s) := by
  unfold biteProduct switchDemand endFreeze
  dsimp only
  split
  · exact h
  · refine demandSound_raise _ _ _ _ _ (demandSound_composeDemand i _ ?_)
    refine demandSound_trim i _ _ (demandSound_freeze i _ _ (demandSound_congr h rfl rfl)) ?_
    by_cases hc : s.stands[i].configured = true
    · left
      split
      · simpa [upd_at, -Fin.getElem_fin] using h.trim i hc
      · exact Nat.zero_le _
    · exact .inr hc

theorem demandSound_feed (i : Stand) (y : Cell) (s : State) (h : DemandSound s) :
    DemandSound (biteDemand i y s) := by
  unfold biteDemand endFreeze
  refine demandSound_composeDemand i _ (demandSound_ff i _ _ ?_ (feedforward_natAbs _ i y))
  exact demandSound_onEntry _ _ _ _ (demandSound_freeze i _ s h)

theorem demandSound_monitor (i : Stand) (x : Cell) (v : Nat) (s : State) (h : DemandSound s) :
    DemandSound (monitorUpdate i x v s) := by
  unfold monitorUpdate
  dsimp only
  split
  · refine demandSound_composeDemand i _ (demandSound_onEntry _ _ _ _
      (demandSound_trim i _ s h (.inl ?_)))
    exact clampSym_natAbs _ _
  · exact h

theorem demandSound_startDemands (s : State) (h : DemandSound s) : DemandSound (startDemands s) := by
  unfold startDemands
  refine UnitsKeep.pass _ (fun u i hu => demandSound_composeDemand i u hu) allStands _
    (UnitsKeep.pass _ (fun u i hu => ?_) allStands s h)
  exact demandSound_onDemand i _ u hu
    ⟨hu.order i, fun _ => Nat.zero_le _, fun _ => Nat.zero_le _, hu.demand i⟩

theorem demandSound_stopDemands (s : State) (h : DemandSound s) : DemandSound (stopDemands s) := by
  unfold stopDemands
  exact UnitsKeep.pass _ (fun u i hu => demandSound_freeze i _ _ (demandSound_endDemand i u hu))
    allStands s h

theorem demandSound_offset (i : Stand) (o : Int) (s : State) (h : DemandSound s) :
    DemandSound (offsetEffect i o s) := by
  unfold offsetEffect
  split
  · exact h
  · exact demandSound_composeDemand i _ (demandSound_onDemand i _ s h
      ⟨h.order i, h.ff i, h.trim i, h.demand i⟩)

/-- The numbered checks that none fails all hold. -/
theorem firstFailing_none_all (l : List (Nat × Bool)) (h : firstFailing l = none) :
    ∀ x ∈ l, x.2 = true := by
  induction l with
  | nil => exact fun _ hx => nomatch hx
  | cons c l ih =>
    obtain ⟨n, ok⟩ := c
    cases ok with
    | false => simp [firstFailing] at h
    | true =>
      simp only [firstFailing, if_true] at h
      exact List.forall_mem_cons.mpr ⟨rfl, ih h⟩

theorem standChecks_order (s : State) (p : StandParams) (i : Stand)
    (h : firstFailing (standChecks s p i) = none) : p.gapMin.toInt < p.gapMax.toInt := by
  have := firstFailing_none_all _ h (4, decide (p.gapMin.toInt < p.gapMax.toInt))
    (by simp [standChecks])
  simpa using this

/-- An accepted Configure Stand has its limits in order, clamps the terms to them, and composes (R11). -/
theorem demandSound_standEffect (p : StandParams) (i : Stand) (a : Node) (s : State)
    (ho : p.gapMin.toInt < p.gapMax.toInt) (h : DemandSound s) : DemandSound (standEffect p i a s) := by
  rw [demandSound_iff] at h
  generalize hu : giveRole a (.stand i) (forgetDrive a (.stand i) (s.onStand i fun _ =>
    standRecordOf p)) = u
  have hstands : u.stands = upd s.stands i fun _ => standRecordOf p := by rw [← hu]; simp
  have hdemands : u.demands = s.demands := by rw [← hu]; simp
  have hrec : u.stands[i] = standRecordOf p := by rw [hstands, upd_same]
  have hclamp : DemandSound (reclampDemand i u) := by
    refine demandSound_composed i _ (fun _ => ?_) (fun j hj => ?_)
    · rw [State.onDemand_stands, State.onDemand_demands, upd_same]
      exact ⟨by rw [hrec]; exact ho, clampSym_natAbs _ _, clampSym_natAbs _ _⟩
    · rw [State.onDemand_stands, State.onDemand_demands, upd_other _ _ _ _ hj, hdemands, hstands,
        upd_other _ _ _ _ hj]
      exact h j
  unfold standEffect
  dsimp only
  rw [hu]
  exact demandSound_congr hclamp (by simp) (by simp)

theorem demandSound_configureStand (p : StandParams) (s : State) (h : DemandSound s) :
    DemandSound (serveConfigureStand p s).1 := by
  unfold serveConfigureStand
  simp only [accept, refuse, badParam]
  repeat' split
  · exact h
  · exact h
  · exact h
  · exact h
  · exact h
  · rename_i i _ _ _ _ _ _ a hchecks _
    exact demandSound_standEffect p i a s (standChecks_order s p i hchecks) h
  · exact h

theorem demandSound_onStand_reset (i : Stand) (s : State) (h : DemandSound s) :
    DemandSound (s.onStand i fun _ => standReset) := by
  rw [demandSound_iff] at h ⊢
  intro j
  rw [State.onStand_stands, upd_at, State.onStand_demands]
  split
  · exact ⟨fun hc => (nomatch hc), fun hc => (nomatch hc), fun hc => (nomatch hc),
      fun _ hc => (nomatch hc)⟩
  · exact h j

theorem demandSound_remove (i : Stand) (s : State) (h : DemandSound s) :
    DemandSound (removeStand i s) := by
  have h1 := demandSound_onStand_reset i _ (demandSound_congr (s := s) (t := dropRole (.stand i) s) h
    (by simp) (by simp))
  have h2 : DemandSound (((dropRole (.stand i) s).onStand i fun _ => standReset).onDemand i
      fun _ => demandReset) :=
    demandSound_onDemand i _ _ h1 ⟨h1.order i, fun _ => Nat.zero_le _, fun _ => Nat.zero_le _,
      fun _ _ hv => (nomatch hv)⟩
  exact demandSound_congr h2 rfl rfl

theorem demandSound_unitsReset (straps : BitVec 2) (pressed : Vector Bool 8) (hold : Bool)
    (q : List Instr) : DemandSound (unitsReset straps pressed hold q) := by
  have off : ∀ i : Stand, (unitsReset straps pressed hold q).stands[i].configured ≠ true := by
    intro i
    simp [unitsReset, standReset]
  exact ⟨fun i hc => absurd hc (off i), fun i hc => absurd hc (off i), fun i hc => absurd hc (off i),
    fun i _ hc => absurd hc (off i)⟩

/-- What bears on demands: the bites and monitor updates that write a term, the requests that clear, move or
limit one, and the reset. -/
theorem demandSound_unitsKeep : UnitsKeep DemandSound := by
  constructor
  case elsewhere => exact fun h hs => demandSound_congr hs h.stands h.demands
  case freeze => exact fun i n s h => demandSound_freeze i _ s h
  case product => exact demandSound_product
  case feed => exact demandSound_feed
  case monitor => exact demandSound_monitor
  case startDemands => exact demandSound_startDemands
  case stopDemands => exact demandSound_stopDemands
  case offset => exact fun i o s _ _ h => demandSound_offset i o s h
  case zeroTrim =>
    exact fun i s h => demandSound_composeDemand i _ (demandSound_trim i _ s h (.inl (Nat.zero_le _)))
  case remove => exact demandSound_remove
  case configureStand => exact demandSound_configureStand
  case reset =>
    exact fun d s _ => UnitsKeep.afterReset_of
      (fun src d s h => demandSound_congr (s := s) h (by simp) (by simp)) demandSound_unitsReset d s
  all_goals
    intros
    refine demandSound_congr ‹DemandSound _› ?_ ?_
    all_goals simp [heldPress, halted]

end Sys2Proof.Machine
end

section
/-! The statement about demands. -/

open Sys2Proof Sys2Proof.Machine

/-- Settles O13: every term is clamped where it is written and every demand where it is composed. -/
theorem stepKeepsDemandsWithinLimits : Obligations.StepKeepsDemandsWithinLimits :=
  demandSound_unitsKeep.step
end


section
/-! SUPPORT. A law of the strip and the Product Store: what bears on it are the cells changed, bitten, closed and
retired, the forming cell, the coils and the active products, and the requests that start or end a run or
write the store; every other operation leaves both as they were. -/

namespace Sys2Proof.Machine

/-- A product that a forming cell may take on: its own, its pending weld's, or a coil's (R22 to R25). -/
def Offered (s : State) (f : FormingCell) (p : Product) : Prop :=
  p = f.product ∨ (∃ w, f.pendingWeld = some w ∧ p = w.product) ∨ ∃ c ∈ s.store.coils, p = c.product

/-- Tracking is not STOPPED. -/
def Tracking (s : State) : Prop := s.track.mode ≠ .stopped

/-- A law that the operations on the strip and the Product Store keep. `Free` says what the law needs of the
number of cells before one is added: every number below 256 will do, and every one that a retirement leaves. -/
structure StripKeep (Free : Nat → Prop) (P : State → Prop) : Prop where
  free : ∀ n, n < 256 → Free n
  freed : ∀ x y rest s, s.track.queue = x :: y :: rest → P s → Free (rest.length + 1)
  congr : ∀ {s t : State}, P s → t.track = s.track → t.store = s.store → P t
  cell : ∀ n (f : Cell → Cell) s, (∀ c, (f c).serial = c.serial ∧ (f c).product = c.product) → P s →
    P (onCell n f s)
  active : ∀ i p s, Tracking s → (∃ c ∈ s.track.queue, c.product = p) → P s →
    P (s.onStore fun t => { t with active := upd t.active i fun _ => some p })
  runs : ∀ s, Tracking s → P s → P (s.onTrack fun t => { t with mode := .running })
  close : ∀ f l0 new s, Tracking s → s.track.forming = some f → Free s.track.queue.length →
    new.pendingWeld = none → Offered s f new.product → P s → P (closeForming f l0 new s)
  reform : ∀ f new s, s.track.forming = some f → Offered s f new.product →
    (∀ w, new.pendingWeld = some w → Offered s f w.product) → P s →
    P (s.onTrack fun t => { t with forming := some new })
  poolFull : ∀ s, Tracking s → P s → P (s.onTrack fun t => { t with poolFull := true })
  cobble : ∀ i s, P s → P (s.onTrack fun t => { t with cobble := some i })
  odo : ∀ z n s, P s → P (s.onTrack fun t => { t with odo := upd t.odo z fun _ => n })
  retire : ∀ x y rest s, s.track.queue = x :: y :: rest → P s →
    P (s.onTrack fun t => { t with queue := y :: rest })
  coil : ∀ c rest s, s.store.coils = c :: rest → P s →
    P (s.onStore fun t => { t with coils := rest })
  start : ∀ b c s, P s → P (serveStart b c s).1
  stop : ∀ s, P s → P (serveStop s).1
  load : ∀ p s, P s → P (serveLoad p s).1
  erase : ∀ b s, P s → P (serveErase b s).1
  append : ∀ c b s, P s → P (serveAppend c b s).1
  clear : ∀ s, P s → P (serveClearCoils s).1
  reset : ∀ d s, P s → P (afterReset d s)

namespace StripKeep

variable {Free : Nat → Prop} {P : State → Prop}

/-- The law together with a run that goes on. -/
def Live (P : State → Prop) (s : State) : Prop := P s ∧ Tracking s

theorem live_congr (K : StripKeep Free P) {s t : State} (h : Live P s) (ht : t.track = s.track)
    (hs : t.store = s.store) : Live P t :=
  ⟨K.congr h.1 ht hs, by rw [Tracking, ht]; exact h.2⟩

/-- What an operation apart from the strip and the store leaves of a law that reads only these. -/
def StripOnly (Q : State → Prop) : Prop :=
  ∀ s t : State, Q s → t.track = s.track → t.store = s.store → Q t

theorem stripOnly (K : StripKeep Free P) : StripOnly P := fun _ _ h => K.congr h

theorem stripOnly_live (K : StripKeep Free P) : StripOnly (Live P) := fun _ _ h => K.live_congr h

section
variable {Q : State → Prop}

theorem StripOnly.terms (R : StripOnly Q) (i : Stand) (f : DemandState → DemandState) (s : State)
    (h : Q s) : Q (s.onDemand i f) :=
  R s _ h rfl rfl

theorem StripOnly.compose (R : StripOnly Q) (i : Stand) (s : State) (h : Q s) : Q (composeDemand i s) :=
  R s _ h (by simp) (by simp)

theorem StripOnly.raised (R : StripOnly Q) (c : EventCode) (sub : Subject) (n : Option Nat) (v : Int)
    (s : State) (h : Q s) : Q (raise c sub n v s) :=
  R s _ h (by simp) (by simp)

theorem StripOnly.allGaugeTests (R : StripOnly Q) (s : State) (h : Q s) : Q (allGaugeTests s) :=
  R s _ h (by simp) (by simp)
end

theorem live_pass {α : Type} (f : State → α → State) (hf : ∀ s x, Live P s → Live P (f s x))
    (l : List α) (s : State) (h : Live P s) : Live P (l.foldl f s) :=
  UnitsKeep.pass f hf l s h

/-! ### Cells and bites -/

theorem live_cell (K : StripKeep Free P) (n : Nat) (f : Cell → Cell) (s : State)
    (hf : ∀ c, (f c).serial = c.serial ∧ (f c).product = c.product) (h : Live P s) :
    Live P (onCell n f s) :=
  ⟨K.cell n f s hf h.1, h.2⟩

theorem live_entry (K : StripKeep Free P) (n : Nat) (i : Stand) (f : StandEntry → StandEntry) (s : State)
    (h : Live P s) : Live P (onEntry n i f s) := by
  unfold onEntry
  exact K.live_cell n _ s (fun _ => ⟨rfl, rfl⟩) h

theorem live_approach (K : StripKeep Free P) (i : Stand) (y : Cell) (s : State) (h : Live P s) :
    Live P (signalApproach i y s) := by
  unfold signalApproach freezeMonitor
  exact K.stripOnly_live.terms _ _ _ (K.live_cell _ _ s (fun _ => ⟨rfl, rfl⟩) h)

/-- Some cell of the queue names a product. -/
def CellNames (s : State) (p : Product) : Prop := ∃ c ∈ s.track.queue, c.product = p

theorem cellNames_onCell (n : Nat) (f : Cell → Cell) (s : State) (p : Product)
    (hf : ∀ c, (f c).product = c.product) (h : CellNames s p) : CellNames (onCell n f s) p := by
  obtain ⟨c, hc, hp⟩ := h
  refine ⟨if c.serial = n then f c else c, ?_, ?_⟩
  · simp only [onCell, State.onTrack_track]
    exact List.mem_map_of_mem hc
  · split
    · rw [hf, hp]
    · exact hp

theorem live_product (K : StripKeep Free P) (i : Stand) (y : Cell) (s : State)
    (hy : CellNames s y.product) (h : Live P s) : Live P (biteProduct i y s) := by
  unfold biteProduct
  split
  · exact h
  · exact K.live_congr (s := s.onStore fun t => { t with active := upd t.active i fun _ => some y.product })
      ⟨K.active i y.product s h.2 hy h.1, h.2⟩ (by simp) (by simp)

theorem live_feed (K : StripKeep Free P) (i : Stand) (y : Cell) (s : State) (h : Live P s) :
    Live P (biteDemand i y s) := by
  unfold biteDemand endFreeze
  exact K.stripOnly_live.compose _ _ (K.stripOnly_live.terms _ _ _
    (K.live_entry y.serial i _ _ (K.stripOnly_live.terms _ _ s h)))

theorem live_monitor (K : StripKeep Free P) (i : Stand) (x : Cell) (v : Nat) (s : State) (h : Live P s) :
    Live P (monitorUpdate i x v s) := by
  unfold monitorUpdate
  dsimp only
  split
  · exact K.stripOnly_live.compose _ _ (K.live_entry x.serial i _ _
      (K.stripOnly_live.terms _ _ s h))
  · exact h

theorem live_formMassFlow (K : StripKeep Free P) (i : Stand) (x : Cell) (n : Nat) (s : State)
    (h : Live P s) : Live P (formMassFlow i x n s) := by
  unfold formMassFlow takeMassFlow
  repeat' split
  · exact h
  · exact h
  · exact K.live_monitor i x _ _ (K.live_entry _ _ _ s h)
  · exact K.live_entry _ _ _ s h

theorem live_finalise (K : StripKeep Free P) (i : Stand) (x : Cell) (s : State) (h : Live P s) :
    Live P (finalise i x s) := by
  unfold finalise takeMeasured
  dsimp only
  repeat' split
  · exact h
  · exact K.live_monitor i x _ _ (K.live_entry _ _ _ s h)
  · exact K.live_entry _ _ _ s h
  · exact h

theorem live_threadingDone (K : StripKeep Free P) (i : Stand) (y : Cell) (s : State) (h : Live P s) :
    Live P (threadingDone i y s) := by
  unfold threadingDone
  split
  · exact K.live_congr (s := s.onTrack fun t => { t with mode := .running })
      ⟨K.runs s h.2 h.1, nofun⟩ (by simp) (by simp)
  · exact h

theorem live_bite (K : StripKeep Free P) (i : Stand) (y : Cell) (s : State)
    (hy : CellNames s y.product) (h : Live P s) : Live P (bite i y s) := by
  have entered : ∀ e : StandEntry,
      Live P (onCell y.serial (fun c => { c with entries := c.entries ++ [e] }) s) ∧
      CellNames (onCell y.serial (fun c => { c with entries := c.entries ++ [e] }) s) y.product :=
    fun e => ⟨K.live_cell _ _ s (fun _ => ⟨rfl, rfl⟩) h, cellNames_onCell _ _ s _ (fun _ => rfl) hy⟩
  have near : ∀ u, Live P u → CellNames u y.product →
      Live P (signalApproach i y u) ∧ CellNames (signalApproach i y u) y.product := fun u hu hn =>
    ⟨K.live_approach i y u hu, cellNames_onCell _ _ u _ (fun _ => rfl) hn⟩
  have handed : ∀ u, Live P u ∧ CellNames u y.product →
      Live P (biteDemand i y (biteProduct i y u)) := fun u hu =>
    K.live_feed i y _ (K.live_product i y u hu.2 hu.1)
  unfold bite
  dsimp only
  refine K.live_threadingDone i y _ ?_
  repeat' split
  · exact K.live_formMassFlow i _ _ _ (handed _ (near _ (entered _).1 (entered _).2))
  · exact K.live_formMassFlow i _ _ _ (handed _ (entered _))
  · exact handed _ (near _ (entered _).1 (entered _).2)
  · exact handed _ (entered _)

theorem live_biteLoop (K : StripKeep Free P) (i : Stand) (fuel : Nat) (s : State) (h : Live P s) :
    Live P (biteLoop i fuel s) := by
  induction fuel generalizing s with
  | zero => exact h
  | succ fuel ih =>
    unfold biteLoop
    split
    · exact h
    · rename_i y hy
      repeat' split
      · exact h
      · exact ih _ (K.live_bite i y s ⟨y, List.mem_of_find?_eq_some hy, rfl⟩ h)
      · exact h

theorem live_biteStep (K : StripKeep Free P) (i : Stand) (s : State) (h : Live P s) :
    Live P (biteStep i s) := by
  have h1 := K.live_biteLoop i s.track.queue.length s h
  unfold biteStep cobbleCheck
  repeat' split
  · exact h1
  · exact K.live_congr (s := (biteLoop i s.track.queue.length s).onTrack fun t =>
      { t with cobble := some i }) ⟨K.cobble i _ h1.1, h1.2⟩ (by simp) (by simp)
  · exact h1

theorem live_confirmHead (K : StripKeep Free P) (i : Stand) (force : Nat) (s : State) (h : Live P s) :
    Live P (confirmHead i force s) := by
  unfold confirmHead
  split
  · split
    · exact h
    · rename_i y hy
      split
      · exact K.live_bite i y s ⟨y, List.mem_of_find?_eq_some hy, rfl⟩ h
      · exact h
  · exact h

theorem live_approachStep (K : StripKeep Free P) (i : Stand) (s : State) (h : Live P s) :
    Live P (approachStep i s) := by
  unfold approachStep
  exact live_pass _ (fun u y hu => K.live_approach i y u hu) _ s h

theorem live_passageStep (K : StripKeep Free P) (i : Stand) (before : Nat) (s : State) (h : Live P s) :
    Live P (passageStep i before s) := by
  unfold passageStep
  refine live_pass _ (fun u y hu => ?_) _ s h
  split
  · exact K.live_finalise i _ u hu
  · exact hu

/-! ### The forming cell and retirement -/

theorem live_close (K : StripKeep Free P) (f : FormingCell) (l0 : Nat) (new : FormingCell) (s : State)
    (hf : s.track.forming = some f) (hq : Free s.track.queue.length) (hw : new.pendingWeld = none)
    (hp : Offered s f new.product) (h : Live P s) : Live P (closeForming f l0 new s) :=
  ⟨K.close f l0 new s h.2 hf hq hw hp h.1, h.2⟩

theorem live_closeHere (K : StripKeep Free P) (f : FormingCell) (s : State)
    (hf : s.track.forming = some f) (hq : Free s.track.queue.length) (h : Live P s) :
    Live P (closeHere f s) := by
  unfold closeHere
  exact K.live_close f _ _ s hf hq rfl (.inl rfl) h

theorem live_reform (K : StripKeep Free P) (f new : FormingCell) (s : State)
    (hf : s.track.forming = some f) (hp : Offered s f new.product)
    (hw : ∀ w, new.pendingWeld = some w → Offered s f w.product) (h : Live P s) :
    Live P (s.onTrack fun t => { t with forming := some new }) :=
  ⟨K.reform f new s hf hp hw h.1, h.2⟩

theorem live_closeStep (K : StripKeep Free P) (s : State) (h : Live P s) : Live P (closeStep s) := by
  unfold closeStep
  split
  · exact h
  · rename_i f hf
    split
    · exact h
    · split
      · rename_i hfree
        exact K.live_closeHere f s hf (K.free _ (by simpa [recordFree] using hfree)) h
      · have h1 : Live P (s.onTrack fun t => { t with forming := some { f with extended := true } }) :=
          K.live_reform f _ s hf (.inl rfl) (fun w hw => .inr (.inl ⟨w, hw, rfl⟩)) h
        dsimp only
        split
        · exact h1
        · exact K.live_congr (s := (s.onTrack fun t =>
            { t with forming := some { f with extended := true } }).onTrack fun t =>
            { t with poolFull := true }) ⟨K.poolFull _ h1.2 h1.1, h1.2⟩ (by simp) (by simp)

theorem live_afterClosure (K : StripKeep Free P) (s : State) (h : Live P s) : Live P (afterClosure s) := by
  unfold afterClosure
  exact K.live_approachStep 0 _ (K.live_biteStep 0 s h)

theorem live_offerRecord (K : StripKeep Free P) (s : State) (hq : Free s.track.queue.length)
    (h : Live P s) : Live P (offerRecord s) := by
  unfold offerRecord
  split
  · exact h
  · rename_i f hf
    split
    · rename_i w hw
      exact K.live_afterClosure _ (K.live_close f _ _ s hf hq rfl (.inr (.inl ⟨w, hw, rfl⟩)) h)
    · split
      · exact K.live_afterClosure _ (K.live_closeHere f s hf hq h)
      · exact h

theorem live_retireLoop (K : StripKeep Free P) (z : Zone)
    (fuel : Nat) (s : State) (h : Live P s) : Live P (retireLoop z fuel s) := by
  induction fuel generalizing s with
  | zero => exact h
  | succ fuel ih =>
    unfold retireLoop
    split
    · rename_i x y rest hq
      split
      · refine ih _ (K.live_offerRecord _ ?_ ⟨K.retire x y rest s hq h.1, h.2⟩)
        simpa only [State.onTrack_track, List.length_cons] using K.freed x y rest s hq h.1
      · exact h
    · exact h

theorem live_advanceSteps (K : StripKeep Free P) (z : Zone)
    (before : Nat) (s : State) (h : Live P s) : Live P (advanceSteps z before s) := by
  have close : Live P (closeAt z s) := by
    unfold closeAt
    split
    · exact K.live_closeStep s h
    · exact h
  have bites : Live P (bitesAt z (closeAt z s)) := by
    unfold bitesAt
    repeat' split
    · exact K.live_biteStep _ _ close
    · exact close
    · exact close
  have passages : Live P (passagesAt z before (bitesAt z (closeAt z s))) := by
    unfold passagesAt
    dsimp only
    repeat' split
    · exact bites
    · exact K.live_passageStep _ before _ bites
    · exact bites
  have near : Live P (approachAt z (passagesAt z before (bitesAt z (closeAt z s)))) := by
    unfold approachAt
    repeat' split
    · exact K.live_approachStep _ _ passages
    · exact passages
    · exact passages
  rw [advanceSteps_eq]
  unfold retireAt
  split
  · exact K.live_retireLoop z _ _ near
  · exact near

/-! ### Reports, welds and samples -/

theorem advance (K : StripKeep Free P) (z : Zone) (n : Nat)
    (s : State) (h : P s) : P (advance z n s) := by
  unfold Machine.advance
  dsimp only
  split
  · exact h
  · rename_i hmode
    have h1 := K.live_advanceSteps z s.track.odo[z] (s.onTrack fun t => { t with
      odo := upd t.odo z fun _ => satAdd odoMax s.track.odo[z] n }) ⟨K.odo z _ s h, hmode⟩
    exact K.congr h1.1 (by simp) (by simp)

theorem confirmHead (K : StripKeep Free P) (i : Stand) (force : Nat) (s : State) (h : P s) :
    P (confirmHead i force s) := by
  by_cases hm : Tracking s
  · exact (K.live_confirmHead i force s ⟨h, hm⟩).1
  · unfold Machine.confirmHead
    split
    · rename_i hc
      exact absurd (by rw [Tracking, hc.1]; exact nofun) hm
    · exact h

theorem takeCoil (K : StripKeep Free P) (p : Product) (s : State) (h : P s) : P (takeCoil p s) := by
  unfold Machine.takeCoil
  split
  · rename_i c rest hc
    exact K.congr (K.coil c rest s hc h) (by simp) (by simp)
  · exact K.congr h (by simp) (by simp)

/-- The product a weld takes is a coil's, or the kept one (R78, R79). -/
theorem nextCoil_offered (s : State) (f : FormingCell) :
    Offered s f (nextCoil s f.product).product := by
  unfold nextCoil
  split
  · rename_i c rest hc
    exact .inr (.inr ⟨c, by rw [hc]; exact List.mem_cons_self, rfl⟩)
  · exact .inl rfl

theorem takeWeld (K : StripKeep Free P) (s : State) (h : P s) : P (takeWeld s) := by
  unfold Machine.takeWeld
  split
  · exact h
  · exact h
  · rename_i f hf hmode
    have taken : ∀ u, P u → P (allGaugeTests (Machine.takeCoil f.product u)) := fun u hu =>
      K.stripOnly.allGaugeTests _ (K.takeCoil f.product u hu)
    dsimp only
    split
    · exact K.stripOnly.raised _ _ _ _ _ h
    · split
      · exact taken _ (K.reform f _ s hf (nextCoil_offered s f)
          (fun w hw => .inr (.inl ⟨w, hw, rfl⟩)) h)
      · split
        · rename_i hfree
          exact taken _ (K.close f _ _ s hmode hf (K.free _ (by simpa [recordFree] using hfree)) rfl
            (nextCoil_offered s f) h)
        · refine taken _ (K.reform f _ s hf (.inl rfl) (fun w hw => ?_) h)
          cases hw
          exact nextCoil_offered s f

theorem attributeSample (K : StripKeep Free P) (p : Gauge) (v : Nat) (s : State) (h : P s) :
    P (attributeSample p v s) := by
  unfold Machine.attributeSample
  split
  · unfold attributeEntry
    split
    · exact K.congr h rfl rfl
    · rename_i f hf
      split
      · rename_i w hw
        split
        · refine K.reform f _ s hf (.inl rfl) (fun u hu => ?_) h
          cases hu
          exact .inr (.inl ⟨w, hw, rfl⟩)
        · exact K.congr h rfl rfl
      · split
        · exact K.reform f _ s hf (.inl rfl) (fun w hw => .inr (.inl ⟨w, hw, rfl⟩)) h
        · exact K.congr h rfl rfl
  · unfold attributeAfter
    dsimp only
    repeat' split
    · exact K.congr h rfl rfl
    · exact K.congr h rfl rfl
    · exact K.cell _ _ s (fun _ => ⟨rfl, rfl⟩) h
    · exact K.congr h rfl rfl

theorem takeSample (K : StripKeep Free P) (p : Gauge) (r : GaugeSample) (s : State) (h : P s) :
    P (takeSample p r s) := by
  have h1 : P (setGaugeMode p (sampleMode r.status) s) := K.congr h (by simp) (by simp)
  unfold Machine.takeSample
  dsimp only
  split
  · exact K.congr (K.attributeSample p r.thickness.toNat _ h1) (by simp) (by simp)
  · exact K.congr h1 (by simp) (by simp)

theorem receiveFrame (K : StripKeep Free P) (f : NodeFrame)
    (s : State) (h : P s) : P (receiveFrame f s) := by
  unfold Machine.receiveFrame
  split
  · dsimp only
    split
    · exact K.congr h rfl rfl
    · exact K.congr h rfl rfl
    · exact K.congr h (by simp) (by simp)
    · rename_i a i r _
      have h1 : P ((frameArrived a (s.onLink fun l =>
          { l with sender := none, answer := some .accept })).onNode a fun n =>
          { n with remote := !reportLocal r, echo := r.echo }) := K.congr h (by simp) (by simp)
      have h2 := K.advance (zoneAfter i) r.increment.toNat _ (K.confirmHead i r.force.toNat _ h1)
      unfold deliverStand trackStand
      exact K.congr h2 (by simp) (by simp)
    · rename_i a r _
      have h1 := K.advance 0 r.increment.toNat _ (K.congr (s := s) (t := frameArrived a
        (s.onLink fun l => { l with sender := none, answer := some .accept })) h (by simp) (by simp))
      unfold deliverEntry trackEntry
      dsimp only
      split
      · exact K.congr (K.takeWeld _ h1) (by simp [protectEntry]) (by simp [protectEntry])
      · exact K.congr h1 (by simp [protectEntry]) (by simp [protectEntry])
    · unfold deliverSample
      exact K.takeSample _ _ _ (K.congr h (by simp) (by simp))
  · exact h

theorem line (K : StripKeep Free P) (e : LineEvent)
    (s : State) (h : P s) : P (e.run s) := by
  cases e with
  | nodeFrame f => exact K.receiveFrame f s h
  | tick => exact K.congr h rfl rfl
  | _ => exact K.congr h (by simp [LineEvent.run]) (by simp [LineEvent.run])

theorem request (K : StripKeep Free P) (r : Request) (s : State) (h : P s) : P (serve r s).1 := by
  cases r with
  | startTracking p c => exact K.start p c s h
  | stopTracking => exact K.stop s h
  | loadProduct p => exact K.load p s h
  | eraseProduct i => exact K.erase i s h
  | appendCoil c p => exact K.append c p s h
  | clearCoilList => exact K.clear s h
  | _ => exact K.congr h (by simp [serve]) (by simp [serve])

theorem events (K : StripKeep Free P) : EventsKeep P where
  pending _ _ h := K.congr h rfl rfl
  host _ _ _ h := K.congr h rfl rfl
  line e s _ h := K.line e s h
  request r s _ h := K.request r s h
  abandon _ h := K.congr h (by simp) (by simp)
  reset := K.reset
  halt _ _ _ h := K.congr h rfl rfl
  press _ _ _ _ h := K.congr h rfl rfl
  hold _ _ _ h := K.congr h rfl rfl

end StripKeep

end Sys2Proof.Machine
end


section
/-! SUPPORT. The run of consecutive serials (R26) under the operations on the strip. -/

namespace Sys2Proof.Machine

/-- The serials of a queue from oldest to newest are consecutive and end below the next serial (R26). -/
def Consecutive (q : List Cell) (next : Nat) : Prop :=
  ∀ j c, q[j]? = some c → c.serial + (q.length - j) = next

theorem consecutive_nil (n : Nat) : Consecutive [] n := nofun

theorem Consecutive.add {q : List Cell} {n : Nat} (h : Consecutive q n) (x : Cell) (hx : x.serial = n) :
    Consecutive (q ++ [x]) (n + 1) := by
  intro j c hc
  rw [List.getElem?_append] at hc
  split at hc
  · have := h j c hc
    simp only [List.length_append, List.length_singleton]
    omega
  · rename_i hj
    obtain rfl | hj' : j = q.length ∨ q.length < j := by omega
    · simp at hc
      subst hc
      simp [hx]
    · rw [List.getElem?_eq_none (by simp; omega)] at hc
      cases hc

theorem Consecutive.tail {x : Cell} {q : List Cell} {n : Nat} (h : Consecutive (x :: q) n) :
    Consecutive q n := by
  intro j c hc
  have := h (j + 1) c hc
  simp only [List.length_cons] at this
  omega

theorem Consecutive.map {q : List Cell} {n : Nat} (h : Consecutive q n) (f : Cell → Cell)
    (hf : ∀ c, (f c).serial = c.serial) : Consecutive (q.map f) n := by
  intro j c hc
  obtain ⟨d, hd, rfl⟩ := List.getElem?_map .. ▸ hc |> Option.map_eq_some_iff.mp
  rw [hf, List.length_map]
  exact h j d hd

theorem runSound_congr {s t : State} (h : RunSound s) (ht : t.track = s.track)
    (hs : t.store = s.store) : RunSound t := by
  obtain ⟨stopped, running, cells, serials⟩ := h
  exact ⟨by rw [ht, hs]; exact stopped, by rw [ht, hs]; exact running, by rw [ht]; exact cells,
    by rw [ht]; exact serials⟩

/-- A law of the run speaks of the tracking state apart from the odometers and the cobble record, of the
threading product, and of the active products while STOPPED. -/
theorem RunSound.of {s t : State} (h : RunSound s) (hmode : t.track.mode = s.track.mode)
    (hform : t.track.forming = s.track.forming) (hq : t.track.queue = s.track.queue)
    (hn : t.track.nextSerial = s.track.nextSerial) (hpool : t.track.poolFull = s.track.poolFull)
    (hthr : t.store.threading = s.store.threading)
    (hact : s.track.mode = .stopped → t.store.active = s.store.active) : RunSound t := by
  obtain ⟨stopped, running, cells, serials⟩ := h
  refine ⟨fun hm => ?_, ?_, ?_, ?_⟩
  · rw [hmode] at hm
    rw [hform, hq, hpool, hthr, hact hm]
    exact stopped hm
  · rw [hmode, hform, hthr]; exact running
  · rw [hq]; exact cells
  · rw [hq, hn]; exact serials

/-- While the part tracks, the law of the run is about the forming cell, the threading product and the
serials. -/
theorem runSound_tracking {s : State} (hm : Tracking s) (hform : s.track.forming.isSome = true)
    (hthr : s.store.threading.isSome = true) (cells : s.track.queue.length ≤ 256)
    (serials : Consecutive s.track.queue s.track.nextSerial) : RunSound s :=
  ⟨fun h => absurd h hm, fun _ => ⟨hform, hthr⟩, cells, serials⟩

theorem RunSound.tracking_of_forming {s : State} (h : RunSound s) {f : FormingCell}
    (hf : s.track.forming = some f) : Tracking s := by
  intro hm
  rw [(h.stopped hm).1] at hf
  cases hf

theorem runSound_start (b : Byte) (c : BitVec 32) (s : State) (h : RunSound s) :
    RunSound (serveStart b c s).1 := by
  unfold serveStart
  split
  · exact h
  · split
    · exact h
    · rename_i hm
      have hq : s.track.queue = [] := (h.stopped (Decidable.of_not_not hm)).2.1
      repeat' split
      · exact h
      · rename_i p _ _
        refine runSound_tracking ?_ ?_ ?_ ?_ ?_
        · simp [Tracking, accept, startEffect_track p c s hq]
        · simp [accept, startEffect_track p c s hq]
        · simp [accept, startEffect_store, startBase_store]
        · simp [accept, startEffect_track p c s hq]
        · simpa [accept, startEffect_track p c s hq] using consecutive_nil 1
      · exact h

theorem runSound_stop (s : State) (h : RunSound s) : RunSound (serveStop s).1 := by
  unfold serveStop
  repeat' split
  · exact h
  · exact h
  · refine ⟨fun _ => ?_, ?_, ?_, ?_⟩
    · simp [accept, stopEffect, stopProducts, closeRun]
    · simp [accept, stopEffect, stopProducts, closeRun]
    · simp [accept, stopEffect, stopProducts, closeRun]
    · simp [accept, stopEffect, stopProducts, closeRun]

theorem runSound_reset (d : Nat) (s : State) : RunSound (afterReset d s) := by
  have ht : (afterReset d s).track = trackReset := by simp [afterReset, unitsReset]
  have hs : (afterReset d s).store = storeReset := by simp [afterReset, unitsReset]
  refine runSound_congr (s := unitsReset 0 (Vector.replicate 8 false) false []) ?_ ht hs
  refine ⟨fun _ => ?_, ?_, ?_, ?_⟩ <;> simp [unitsReset, trackReset, storeReset]

theorem runSound_stripKeep : StripKeep (· < 256) RunSound where
  free _ hn := hn
  freed x y rest s hq h := by
    have := h.cells
    rw [hq] at this
    simp only [List.length_cons] at this
    omega
  congr h ht hs := runSound_congr h ht hs
  cell n f s hf h := by
    obtain ⟨stopped, running, cells, serials⟩ := h
    refine ⟨fun hm => ?_, running, ?_, ?_⟩
    · obtain ⟨hform, hq, rest⟩ := stopped hm
      exact ⟨hform, by simp [onCell, hq], rest⟩
    · simpa [onCell] using cells
    · refine Consecutive.map serials _ fun c => ?_
      split
      · exact (hf c).1
      · rfl
  active i p s hm _ h := h.of rfl rfl rfl rfl rfl rfl fun hs => absurd hs hm
  runs s hm h := runSound_tracking nofun (h.running hm).1 (h.running hm).2 h.cells h.serials
  close f l0 new s hm hf hq _ _ h := by
    refine runSound_tracking hm rfl (h.running hm).2 ?_ ?_
    · simpa [closeForming] using hq
    · exact Consecutive.add h.serials _ rfl
  reform f new s hf _ _ h :=
    runSound_tracking (h.tracking_of_forming hf) rfl (h.running (h.tracking_of_forming hf)).2
      h.cells h.serials
  poolFull s hm h := runSound_tracking hm (h.running hm).1 (h.running hm).2 h.cells h.serials
  cobble i s h := h.of rfl rfl rfl rfl rfl rfl fun _ => rfl
  odo z n s h := h.of rfl rfl rfl rfl rfl rfl fun _ => rfl
  retire x y rest s hq h := by
    have hm : Tracking s := fun hm => by
      have := (h.stopped hm).2.1
      rw [hq] at this
      cases this
    have hcells := h.cells
    have hserials : Consecutive s.track.queue _ := h.serials
    rw [hq] at hcells hserials
    exact runSound_tracking hm (h.running hm).1 (h.running hm).2 (by simp at hcells ⊢; omega)
      hserials.tail
  coil c rest s _ h := h.of rfl rfl rfl rfl rfl rfl fun _ => rfl
  start := runSound_start
  stop := runSound_stop
  load p s h := by
    unfold serveLoad
    repeat' split
    all_goals exact h.of rfl rfl rfl rfl rfl rfl fun _ => rfl
  erase b s h := by
    unfold serveErase
    repeat' split
    all_goals exact h.of rfl rfl rfl rfl rfl rfl fun _ => rfl
  append c b s h := by
    unfold serveAppend
    repeat' split
    all_goals exact h.of rfl rfl rfl rfl rfl rfl fun _ => rfl
  clear s h := by
    unfold serveClearCoils
    exact h.of rfl rfl rfl rfl rfl rfl fun _ => rfl
  reset d s _ := runSound_reset d s

end Sys2Proof.Machine
end

section
/-! The statement about the serial run (O14). -/

open Sys2Proof Sys2Proof.Machine

/-- Settles O14: the operations that bear on the strip keep the law of the run. -/
theorem stepKeepsSerialRun : Obligations.StepKeepsSerialRun := by
  unfold Obligations.StepKeepsSerialRun
  intro s t h hstep
  exact runSound_stripKeep.events.step s t h hstep

end


section
/-! SUPPORT. The holders of products (R70), one by one: the cells, the forming cell and its pending weld, the
coils, the active products and the threading product. -/

namespace Sys2Proof.Machine

/-- Every holder names a loaded product. -/
structure HoldersLoaded (s : State) : Prop where
  cells : ∀ c ∈ s.track.queue, s.store.table[c.product].loaded = true
  forming : ∀ f, s.track.forming = some f → s.store.table[f.product].loaded = true
  weld : ∀ f w, s.track.forming = some f → f.pendingWeld = some w →
    s.store.table[w.product].loaded = true
  coils : ∀ c ∈ s.store.coils, s.store.table[c.product].loaded = true
  active : ∀ (i : Stand) p, s.store.active[i] = some p → s.store.table[p].loaded = true
  threading : ∀ p, s.store.threading = some p → s.store.table[p].loaded = true

/-- A product is referenced exactly when some holder names it. -/
theorem refCount_ne_zero (s : State) (p : Product) :
    s.refCount p ≠ 0 ↔ (∃ c ∈ s.track.queue, c.product = p) ∨
      (∃ f, s.track.forming = some f ∧ f.product = p) ∨
      (∃ f w, s.track.forming = some f ∧ f.pendingWeld = some w ∧ w.product = p) ∨
      (∃ i : Stand, s.store.active[i] = some p) ∨ (∃ c ∈ s.store.coils, c.product = p) ∨
      s.store.threading = some p := by
  have cells : cellRefs s p ≠ 0 ↔ ∃ c ∈ s.track.queue, c.product = p := by
    simp [cellRefs, List.countP_eq_zero]
  have coils : coilRefs s p ≠ 0 ↔ ∃ c ∈ s.store.coils, c.product = p := by
    simp [coilRefs, List.countP_eq_zero]
  have active : activeRefs s p ≠ 0 ↔ ∃ i : Stand, s.store.active[i] = some p := by
    rw [activeRefs, Ne, List.countP_eq_zero]
    simp only [decide_eq_true_eq, not_forall, not_not, Vector.mem_toList_iff, exists_prop]
    constructor
    · rintro ⟨a, ha, rfl⟩
      obtain ⟨i, hi, h⟩ := Vector.mem_iff_getElem.mp ha
      exact ⟨⟨i, hi⟩, h⟩
    · rintro ⟨i, h⟩
      exact ⟨_, Vector.mem_iff_getElem.mpr ⟨i.val, i.isLt, h⟩, rfl⟩
  have forming : bit (formingNames s p) 1 ≠ 0 ↔ ∃ f, s.track.forming = some f ∧ f.product = p := by
    cases hf : s.track.forming <;> simp [formingNames, hf, bit]
  have weld : bit (pendingNames s p) 1 ≠ 0 ↔
      ∃ f w, s.track.forming = some f ∧ f.pendingWeld = some w ∧ w.product = p := by
    cases hf : s.track.forming with
    | none => simp [pendingNames, pendingWeldOf, hf, bit]
    | some f => cases hw : f.pendingWeld <;> simp [pendingNames, pendingWeldOf, hf, hw, bit]
  have threading : bit (decide (s.store.threading = some p)) 1 ≠ 0 ↔ s.store.threading = some p := by
    simp [bit]
  rw [← cells, ← coils, ← active, ← forming, ← weld, ← threading, State.refCount]
  omega

theorem productsHeld_iff (s : State) : ProductsHeld s ↔ HoldersLoaded s := by
  unfold ProductsHeld
  simp only [refCount_ne_zero]
  constructor
  · intro h
    exact ⟨fun c hc => h _ (.inl ⟨c, hc, rfl⟩), fun f hf => h _ (.inr (.inl ⟨f, hf, rfl⟩)),
      fun f w hf hw => h _ (.inr (.inr (.inl ⟨f, w, hf, hw, rfl⟩))),
      fun c hc => h _ (.inr (.inr (.inr (.inr (.inl ⟨c, hc, rfl⟩))))),
      fun i p hi => h _ (.inr (.inr (.inr (.inl ⟨i, hi⟩)))),
      fun p hp => h _ (.inr (.inr (.inr (.inr (.inr hp)))))⟩
  · rintro ⟨cells, forming, weld, coils, active, threading⟩ p
      (⟨c, hc, rfl⟩ | ⟨f, hf, rfl⟩ | ⟨f, w, hf, hw, rfl⟩ | ⟨i, hi⟩ | ⟨c, hc, rfl⟩ | hp)
    · exact cells c hc
    · exact forming f hf
    · exact weld f w hf hw
    · exact active i p hi
    · exact coils c hc
    · exact threading p hp

theorem HoldersLoaded.offered {s : State} (h : HoldersLoaded s) {f : FormingCell} {p : Product}
    (hf : s.track.forming = some f) (hp : Offered s f p) : s.store.table[p].loaded = true := by
  obtain rfl | ⟨w, hw, rfl⟩ | ⟨c, hc, rfl⟩ := hp
  · exact h.forming f hf
  · exact h.weld f w hf hw
  · exact h.coils c hc

/-- The holders of a state that keeps the coils, with products loaded that still are. -/
theorem HoldersLoaded.of {s t : State} (h : HoldersLoaded s) (htable : t.store.table = s.store.table)
    (hcells : ∀ c ∈ t.track.queue, ∃ d ∈ s.track.queue, d.product = c.product)
    (hform : t.track.forming = s.track.forming)
    (hcoils : ∀ c ∈ t.store.coils, c ∈ s.store.coils)
    (hactive : ∀ (i : Stand) p, t.store.active[i] = some p → s.store.table[p].loaded = true)
    (hthr : t.store.threading = s.store.threading) : HoldersLoaded t := by
  obtain ⟨cells, forming, weld, coils, active, threading⟩ := h
  refine ⟨?_, ?_, ?_, ?_, ?_, ?_⟩
  · intro c hc
    obtain ⟨d, hd, hp⟩ := hcells c hc
    rw [htable]
    simpa only [hp] using cells d hd
  · rw [htable, hform]; exact forming
  · rw [htable, hform]; exact weld
  · rw [htable]; exact fun c hc => coils c (hcoils c hc)
  · rw [htable]; exact hactive
  · rw [htable, hthr]; exact threading

theorem holdersLoaded_congr {s t : State} (h : HoldersLoaded s) (ht : t.track = s.track)
    (hs : t.store = s.store) : HoldersLoaded t :=
  h.of (by rw [hs]) (by rw [ht]; exact fun c hc => ⟨c, hc, rfl⟩) (by rw [ht])
    (by rw [hs]; exact fun c hc => hc) (by rw [hs]; exact h.active) (by rw [hs])

theorem holdersLoaded_start (b : Byte) (c : BitVec 32) (s : State) (h : HoldersLoaded s) :
    HoldersLoaded (serveStart b c s).1 := by
  unfold serveStart
  repeat' split
  · exact h
  · exact h
  · exact h
  · rename_i p _ hp
    refine holdersLoaded_congr (s := startBase p c s) ?_ (by simp [accept, startEffect_eq])
      (by simp [accept, startEffect_eq])
    obtain ⟨htable, hcoils, hthr⟩ := startBase_store p c s
    have htrack : (startBase p c s).track = (openRun p c s).track := by simp [startBase]
    refine ⟨?_, ?_, ?_, ?_, ?_, ?_⟩
    · rw [htable, htrack]; exact h.cells
    · rw [htable, htrack]
      rintro f ⟨⟩
      exact hp
    · rw [htable, htrack]
      rintro f w ⟨⟩ ⟨⟩
    · rw [htable, hcoils]; exact h.coils
    · intro i q hq
      rw [htable]
      rw [startBase_active] at hq
      split at hq
      · cases hq
        exact hp
      · exact h.active i q hq
    · rw [htable, hthr]
      rintro q ⟨⟩
      exact hp
  · exact h

theorem holdersLoaded_stop (s : State) (h : HoldersLoaded s) : HoldersLoaded (serveStop s).1 := by
  unfold serveStop
  repeat' split
  · exact h
  · exact h
  · refine holdersLoaded_congr (s := stopProducts (closeRun s)) ?_ (by simp [accept, stopEffect])
      (by simp [accept, stopEffect])
    refine ⟨nofun, nofun, nofun, h.coils, fun i p hp => ?_, nofun⟩
    simp [stopProducts, Vector.getElem_replicate] at hp

/-- A write of the product table keeps every named product loaded when the entry written is, or is named by
no holder. -/
theorem holdersLoaded_write (i : Product) (e : ProductEntry) (s : State)
    (hi : e.loaded = true ∨ s.refCount i = 0) (h : HoldersLoaded s) :
    HoldersLoaded (writeProduct i e s) := by
  rw [← productsHeld_iff] at h ⊢
  intro p hp
  have hp' : s.refCount p ≠ 0 := hp
  obtain rfl | hne := eq_or_ne i p
  · obtain he | hz := hi
    · simpa [writeProduct, upd_at, -Fin.getElem_fin] using he
    · exact absurd hz hp'
  · simpa [writeProduct, upd_at, hne.symm, -Fin.getElem_fin] using h p hp'

theorem refCount_of_loadedState (s : State) (p : Product) (h : s.entryState p = .loaded) :
    s.refCount p = 0 := by
  unfold State.entryState at h
  split at h
  · split at h
    · assumption
    · cases h
  · cases h

theorem holdersLoaded_reset (d : Nat) (s : State) : HoldersLoaded (afterReset d s) := by
  refine holdersLoaded_congr (s := unitsReset 0 (Vector.replicate 8 false) false []) ?_
    (by simp [afterReset, unitsReset]) (by simp [afterReset, unitsReset])
  refine ⟨nofun, nofun, nofun, nofun, fun i p hp => ?_, nofun⟩
  simp [unitsReset, storeReset, Vector.getElem_replicate] at hp

theorem holdersLoaded_stripKeep : StripKeep (fun _ => True) HoldersLoaded where
  free _ _ := trivial
  freed _ _ _ _ _ _ := trivial
  congr h ht hs := holdersLoaded_congr h ht hs
  cell n f s hf h := by
    refine h.of rfl (fun c hc => ?_) rfl (fun _ hc => hc) h.active rfl
    simp only [onCell, State.onTrack_track] at hc
    obtain ⟨d, hd, rfl⟩ := List.mem_map.mp hc
    refine ⟨d, hd, ?_⟩
    split
    · exact (hf d).2.symm
    · rfl
  active i p s _ hp h := by
    obtain ⟨c, hc, rfl⟩ := hp
    refine h.of rfl (fun d hd => ⟨d, hd, rfl⟩) rfl (fun _ hc => hc) (fun j q hq => ?_) rfl
    simp only [State.onStore_store, upd_at] at hq
    split at hq
    · cases hq
      exact h.cells c hc
    · exact h.active j q hq
  runs s _ h := h.of rfl (fun c hc => ⟨c, hc, rfl⟩) rfl (fun _ hc => hc) h.active rfl
  close f l0 new s _ hf _ hw hp h := by
    refine ⟨fun c hc => ?_, ?_, ?_, h.coils, h.active, h.threading⟩
    · simp only [closeForming, State.onTrack_track, List.mem_append, List.mem_singleton] at hc
      obtain hc | rfl := hc
      · exact h.cells c hc
      · exact h.forming f hf
    · rintro g ⟨⟩
      exact h.offered hf hp
    · rintro g w ⟨⟩ hg
      rw [hw] at hg
      cases hg
  reform f new s hf hp hw h := by
    refine ⟨h.cells, ?_, ?_, h.coils, h.active, h.threading⟩
    · rintro g ⟨⟩
      exact h.offered hf hp
    · rintro g w ⟨⟩ hg
      exact h.offered hf (hw w hg)
  poolFull s _ h := h.of rfl (fun c hc => ⟨c, hc, rfl⟩) rfl (fun _ hc => hc) h.active rfl
  cobble i s h := h.of rfl (fun c hc => ⟨c, hc, rfl⟩) rfl (fun _ hc => hc) h.active rfl
  odo z n s h := h.of rfl (fun c hc => ⟨c, hc, rfl⟩) rfl (fun _ hc => hc) h.active rfl
  retire x y rest s hq h :=
    h.of rfl (fun c hc => ⟨c, by rw [hq]; exact List.mem_cons_of_mem _ hc, rfl⟩) rfl
      (fun _ hc => hc) h.active rfl
  coil c rest s hc h :=
    h.of rfl (fun c hc => ⟨c, hc, rfl⟩) rfl
      (fun _ hd => by rw [hc]; exact List.mem_cons_of_mem _ hd) h.active rfl
  start := holdersLoaded_start
  stop := holdersLoaded_stop
  load p s h := by
    unfold serveLoad
    repeat' split
    · exact h
    · exact h
    · exact h
    · exact holdersLoaded_write _ _ s (.inl rfl) h
  erase b s h := by
    unfold serveErase
    repeat' split
    · exact h
    · exact h
    · rename_i hl
      exact holdersLoaded_write _ _ s (.inr (refCount_of_loadedState s _ hl)) h
    · exact h
  append c b s h := by
    unfold serveAppend
    repeat' split
    · exact h
    · exact h
    · exact h
    · rename_i p _ hl _
      refine ⟨h.cells, h.forming, h.weld, fun d hd => ?_, h.active, h.threading⟩
      simp only [accept, State.onStore_store, List.mem_append, List.mem_singleton] at hd
      obtain hd | rfl := hd
      · exact h.coils d hd
      · exact Decidable.of_not_not hl
  clear s h := ⟨h.cells, h.forming, h.weld, nofun, h.active, h.threading⟩
  reset d s _ := holdersLoaded_reset d s

end Sys2Proof.Machine
end

section
/-! The statement about the products that holders name (O16). -/

open Sys2Proof Sys2Proof.Machine

/-- Settles O16: the operations on the strip and the Product Store keep every holder's product loaded. -/
theorem stepKeepsNamedProductsLoaded : Obligations.StepKeepsNamedProductsLoaded := by
  unfold Obligations.StepKeepsNamedProductsLoaded
  intro s t h hstep
  rw [productsHeld_iff] at h ⊢
  exact holdersLoaded_stripKeep.events.step s t h hstep

end


section
/-! SUPPORT. A run whose zone 0 odometer lies past the largest reading of R18, which no law of the statement
about bites shuts out: the next advance saturates the reading down to 2^48 − 1. -/

namespace Sys2Proof.Machine

/-- The forming cell, stamped at 2^48. -/
def lateForming : FormingCell := freshForming 281474976710656 0 0

/-- A strip that is only its forming cell, closed at a length of 1, with ODO[0] at 2^48; the entry node's
frame is under reception. -/
def pastRange : State :=
  { State.reset with
    mill := { millReset with ql := 1 }
    track := { trackReset with
      mode := .running, odo := #v[281474976710656, 0, 0, 0, 0, 0], forming := some lateForming }
    store := { storeReset with threading := some 0 }
    nodes := State.reset.nodes.set 0 (nodeReset .entry)
    link := { linkReset true with sender := some 0 } }

/-- An entry report of length increment 0. -/
def stillReport : Instr := .entryReport ⟨0, 65535, 0, 1⟩

theorem runSound_pastRange : RunSound (pastRange.withPending [stillReport]) :=
  runSound_tracking nofun rfl rfl (by decide) (consecutive_nil _)

theorem bitesSound_pastRange : BitesSound (pastRange.withPending [stillReport]) where
  ahead := List.Pairwise.nil
  stamps := nofun
  short := nofun
  forming f hf := by
    cases hf
    exact ⟨Nat.le_refl _, nofun, nofun, nofun⟩
  headEnd := nofun

/-- The saturated odometer lies below the stamp of the forming cell after the report. -/
theorem pastRange_saturates : ∃ t, step (pastRange.withPending [stillReport]) = .next t ∧
    t.track.forming = some lateForming ∧ t.track.odo[(0 : Fin 6)] = 281474976710655 :=
  ⟨_, rfl, by decide +kernel, by decide +kernel⟩

end Sys2Proof.Machine
end

section
/-! The statement about the law of bites (O15). -/

open Sys2Proof Sys2Proof.Machine

/-- Refutes O15: an odometer past its range is saturated to a reading below the forming cell's stamp. -/
theorem not_stepKeepsBiteOrder : ¬ Obligations.StepKeepsBiteOrder := by
  unfold Obligations.StepKeepsBiteOrder
  intro h
  obtain ⟨t, hstep, hform, hodo⟩ := pastRange_saturates
  have hle := ((h _ t runSound_pastRange bitesSound_pastRange hstep).forming _ hform).1
  rw [hodo] at hle
  exact absurd hle (by decide)

end


section
/-! SUPPORT. The event queue holds at most 48 entries (R190) after every operation: only a raise adds one. -/

namespace Sys2Proof.Machine

/-- The event queue holds at most 48 entries (R190). -/
def EventsFit (s : State) : Prop := s.host.events.length ≤ 48

theorem eventsFit_congr {s t : State} (h : EventsFit s) (he : t.host.events = s.host.events) :
    EventsFit t := by
  rw [EventsFit, he]
  exact h

theorem eventsFit_raise (c : EventCode) (sub : Subject) (n : Option Nat) (v : Int) (s : State)
    (h : EventsFit s) : EventsFit (raise c sub n v s) := by
  by_cases hr : s.host.events.length < 48
  · rw [raise_room c sub n v s hr]
    simpa [EventsFit] using hr
  · rw [raise_full c sub n v s (by omega)]
    exact h

theorem eventsFit_confirmTest (s : State) (h : EventsFit s) : EventsFit (confirmTest s) := by
  unfold confirmTest
  split
  · exact eventsFit_raise _ _ _ _ _ h
  · exact h

theorem eventsFit_raiseTrip (src : TripSource) (d : Nat) (s : State) (h : EventsFit s) :
    EventsFit (raiseTrip src d s) := by
  unfold raiseTrip latch latchActions recount
  dsimp only
  repeat' split
  · exact h
  · exact eventsFit_confirmTest _ (eventsFit_congr h (by simp [wantStop]))
  · exact eventsFit_congr h (by simp [wantStop])
  · exact eventsFit_congr h (by simp [wantStop])

theorem eventsFit_escalate (c : EscalationCause) (sub : Subject) (s : State) (h : EventsFit s) :
    EventsFit (escalate c sub s) := by
  unfold escalate
  split
  · exact h
  · exact eventsFit_raise _ _ _ _ _ h

/-! ### Demands and stands -/

theorem newDemand_events (i : Stand) (d : Option Int) (s : State) :
    (newDemand i d s).host.events = s.host.events := by simp

theorem eventsFit_composeDemand (i : Stand) (s : State) (h : EventsFit s) :
    EventsFit (composeDemand i s) := by
  have limited : ∀ (b : Prop) [Decidable b] v u, EventsFit u →
      EventsFit (if b then raise .standLimited (.stand i) none v u else u) := fun b _ v u hu => by
    split
    · exact eventsFit_raise _ _ _ _ u hu
    · exact hu
  unfold composeDemand
  dsimp only
  split
  · split
    · exact limited _ _ _ h
    · rename_i p _ _ _
      refine eventsFit_congr (limited _ _ (s.onDemand i _) h) (newDemand_events _ _ _)
  · exact eventsFit_congr h (by simp)

theorem eventsFit_termsFree : TermsFree EventsFit where
  terms _ _ _ h := h
  track _ _ h := h
  store _ _ h := h
  raised := eventsFit_raise
  compose := eventsFit_composeDemand
  ended _ _ h := eventsFit_congr h (by simp)

theorem eventsFit_actuatorFault (i : Stand) (s : State) (h : EventsFit s) :
    EventsFit (actuatorFault i s) := by
  unfold actuatorFault
  dsimp only
  split
  · exact eventsFit_raiseTrip _ _ s h
  · exact eventsFit_congr (eventsFit_raiseTrip (.actuatorFault i) (standNumber i) s h) (by simp)

theorem eventsFit_openFailed (i : Stand) (c : Int) (s : State) (h : EventsFit s) :
    EventsFit (openFailed i c s) := by
  unfold openFailed
  exact eventsFit_raise _ _ _ _ _ (eventsFit_escalate _ _ _ h)

theorem eventsFit_rejectTrim (i : Stand) (v : Int) (s : State) (h : EventsFit s) :
    EventsFit (rejectTrim i v s) := by
  have h1 : EventsFit (raise .trimRejected (.stand i) none v (dropWork i s)) :=
    eventsFit_raise _ _ _ _ _ h
  unfold rejectTrim
  dsimp only
  split
  · exact h1
  · exact eventsFit_congr h1 (by simp)

theorem eventsFit_takeReport (i : Stand) (r : StandReport) (s : State) (h : EventsFit s) :
    EventsFit (takeReport i r s) := by
  have taken : ∀ u, EventsFit u → EventsFit (takeLocal i u) := fun u hu => by
    unfold takeLocal
    dsimp only
    split
    · exact eventsFit_raise _ _ _ _ _ hu
    · exact hu
  have opened : ∀ u, EventsFit u → EventsFit (takeOpen i r.echo u) := fun u hu => by
    unfold takeOpen
    dsimp only
    repeat' split
    · exact eventsFit_raise _ _ _ _ _ hu
    · exact hu
    · exact hu
    · exact eventsFit_raise _ _ _ _ _ hu
    · exact hu
  have either : ∀ (b : Prop) [Decidable b] u v, EventsFit u → EventsFit v →
      EventsFit (if b then v else u) := fun b _ u v hu hv => by
    split
    · exact hv
    · exact hu
  unfold takeReport
  dsimp only
  have h1 : EventsFit (s.onActuator i fun a => { a with reported := some r.position.toInt }) := h
  have h2 := either (reportLocal r) _ _ h1 (taken _ h1)
  have h3 := either (reportOpen r) _ _ h2 (opened _ h2)
  exact either _ _ _ h3 (eventsFit_congr h3 (by simp))

theorem eventsFit_takeOutcome (i : Stand) (n : Byte) (o : Handed) (s : State) (h : EventsFit s) :
    EventsFit (takeOutcome i n o s) := by
  unfold takeOutcome
  repeat' split
  · exact h
  · exact h
  · exact eventsFit_actuatorFault i s h
  · exact eventsFit_congr h (by simp)
  · exact eventsFit_rejectTrim i _ s h
  · exact h
  · exact eventsFit_openFailed i 1 s h
  · exact h
  · dsimp only
    repeat' split
    · exact eventsFit_congr h (by simp)
    · exact eventsFit_congr h (by simp)
    · exact h
  · exact h

theorem eventsFit_configureStand (p : StandParams) (s : State) (h : EventsFit s) :
    EventsFit (serveConfigureStand p s).1 := by
  have effect : ∀ i a, EventsFit (standEffect p i a s) := fun i a => by
    unfold standEffect
    exact eventsFit_confirmTest _ (eventsFit_termsFree.reclamp i _ (eventsFit_congr h (by simp)))
  unfold serveConfigureStand
  simp only [accept, refuse, badParam]
  repeat' split
  · exact h
  · exact h
  · exact h
  · exact h
  · exact h
  · exact effect _ _
  · exact h

/-! ### Every step -/

theorem eventsFit_unitsKeep : UnitsKeep EventsFit := by
  constructor
  case elsewhere => exact fun a h => eventsFit_congr h a.events
  case raised => exact eventsFit_raise
  case trip => exact eventsFit_raiseTrip
  case confirm => exact eventsFit_confirmTest
  case product => exact eventsFit_termsFree.product
  case feed => exact eventsFit_termsFree.feed
  case monitor => exact eventsFit_termsFree.monitor
  case report => exact eventsFit_takeReport
  case outcome => exact eventsFit_takeOutcome
  case move =>
    intro i s h
    unfold moveExpiry
    split
    · exact eventsFit_actuatorFault i _ h
    · exact h
  case openTimer =>
    intro i s h
    unfold openExpiry
    split
    · exact eventsFit_openFailed i 0 s h
    · exact h
  case stopConfirm =>
    intro s h
    unfold confirmExpiry
    split
    · exact eventsFit_escalate _ _ _ h
    · exact h
  case estop =>
    intro x low s h
    unfold estopChange
    dsimp only
    repeat' split
    · exact h
    · exact eventsFit_raiseTrip _ _ _ h
    · exact h
  case configureStand => exact eventsFit_configureStand
  case startDemands => exact eventsFit_termsFree.startDemands
  case stopDemands => exact eventsFit_termsFree.stopDemands
  case offset => exact fun i o s _ _ h => eventsFit_termsFree.offset i o s h
  case zeroTrim => exact eventsFit_termsFree.zeroTrim
  case clearTrips =>
    intro s _ h
    obtain hc | ⟨-, hc⟩ := serveClearTrips_cases s
    · rw [hc]; exact h
    · rw [hc]; exact eventsFit_raise _ _ _ _ _ h
  case readEvents =>
    intro b s h
    unfold serveReadEvents
    split
    · simp only [EventsFit, accept, State.onHost_host, List.length_drop] at h ⊢
      omega
    · exact h
  case reset =>
    exact fun d s _ => UnitsKeep.afterReset_of eventsFit_raiseTrip
      (fun _ _ _ _ => Nat.zero_le _) d s
  all_goals
    intros
    refine eventsFit_congr ‹EventsFit _› ?_
    simp [heldPress, halted]

end Sys2Proof.Machine
end


section
/-! SUPPORT. The other bounds of the units (R45, R129, R142, R156, R178), each under the operations that bear
on it, and the capacities of the tracking queue and the coil list (R26, R75). -/

namespace Sys2Proof.Machine

/-! ### The link counters and the nodes -/

/-- No link counter is above 65,535 (R178). -/
def CountersFit (s : State) : Prop := CountersBounded s.link.counters

theorem countersFit_congr {s t : State} (h : CountersFit s)
    (hc : t.link.counters = s.link.counters) : CountersFit t := by
  rw [CountersFit, hc]
  exact h

theorem countersFit_reset (straps : BitVec 2) (pressed : Vector Bool 8) (hold : Bool)
    (q : List Instr) : CountersFit (unitsReset straps pressed hold q) := by
  constructor <;> exact Nat.zero_le _

theorem countersFit_unitsKeep : UnitsKeep CountersFit := by
  constructor
  case elsewhere => exact fun a h => countersFit_congr h a.counters
  case counters => exact fun f s hf h => hf _ h
  case reset =>
    exact fun d s _ => UnitsKeep.afterReset_of
      (fun src d s h => countersFit_congr h (by simp)) countersFit_reset d s
  case release => exact fun _ h => h
  case stopSent =>
    intro s h
    unfold broadcastSent
    repeat' split
    all_goals exact h
  case clearTrips =>
    intro s _ h
    obtain hc | ⟨-, hc⟩ := serveClearTrips_cases s
    · rw [hc]; exact h
    · rw [hc]
      exact countersFit_congr h (by simp [clearTripTable, uncountStop])
  case won =>
    intro c s h
    refine countersFit_congr h ?_
    unfold winArbitration
    dsimp only
    repeat' split
    all_goals simp
  all_goals
    intros
    refine countersFit_congr ‹CountersFit _› ?_
    simp [heldPress, halted]

/-- No node's failure count is above 3 (R156). -/
def FailuresFit (s : State) : Prop := ∀ a : Node, s.nodes[a].failures ≤ 3

theorem failuresFit_of_nodes {s t : State} (h : FailuresFit s) (hn : t.nodes = s.nodes) :
    FailuresFit t := by
  intro a
  rw [hn]
  exact h a

theorem failuresFit_onNode (a : Node) (f : NodeEntry → NodeEntry) (s : State)
    (hf : ∀ n, n.failures ≤ 3 → (f n).failures ≤ 3) (h : FailuresFit s) :
    FailuresFit (s.onNode a f) := by
  intro b
  rw [State.onNode_nodes, upd_at]
  split
  · exact hf _ (h b)
  · exact h b

theorem failuresFit_dropRole (r : Role) (s : State) (h : FailuresFit s) :
    FailuresFit (dropRole r s) := by
  unfold dropRole
  split
  · exact failuresFit_onNode _ _ s (fun _ _ => Nat.zero_le _) h
  · exact h

theorem failuresFit_giveRole (a : Node) (r : Role) (s : State) (h : FailuresFit s) :
    FailuresFit (giveRole a r s) := by
  have h1 : FailuresFit (dropRole r s) := failuresFit_dropRole r s h
  unfold giveRole
  split
  · exact h
  · exact failuresFit_onNode _ _ _ (fun _ _ => Nat.zero_le _) h1

theorem failuresFit_configureStand (p : StandParams) (s : State) (h : FailuresFit s) :
    FailuresFit (serveConfigureStand p s).1 := by
  have effect : ∀ i a, FailuresFit (standEffect p i a s) := fun i a =>
    failuresFit_of_nodes (failuresFit_giveRole a (.stand i) (forgetDrive a (.stand i)
      (s.onStand i fun _ => standRecordOf p)) (failuresFit_of_nodes h (by simp))) (by simp [standEffect])
  unfold serveConfigureStand
  simp only [accept, refuse, badParam]
  repeat' split
  · exact h
  · exact h
  · exact h
  · exact h
  · exact h
  · exact effect _ _
  · exact h

theorem failuresFit_reset (straps : BitVec 2) (pressed : Vector Bool 8) (hold : Bool)
    (q : List Instr) : FailuresFit (unitsReset straps pressed hold q) := by
  intro a
  simp [unitsReset, nodeReset]

theorem failuresFit_unitsKeep : UnitsKeep FailuresFit := by
  constructor
  case elsewhere => exact fun a h => failuresFit_of_nodes h a.nodes
  case node => exact fun a f s _ hf h => failuresFit_onNode a f s hf h
  case drop => exact fun r s _ h => failuresFit_dropRole r s h
  case give => exact fun a r s _ h => failuresFit_giveRole a r s h
  case remove => exact fun i s h => failuresFit_dropRole (.stand i) s h
  case configureStand => exact failuresFit_configureStand
  case reset =>
    exact fun d s _ => UnitsKeep.afterReset_of
      (fun src d s h => failuresFit_of_nodes h (by simp)) failuresFit_reset d s
  all_goals
    intros
    refine failuresFit_of_nodes ‹FailuresFit _› ?_
    simp [heldPress, halted]

/-! ### The gauges -/

/-- No gauge's discarded sample count is above 65,535 (R45). -/
def DiscardedFit (s : State) : Prop := ∀ p : Gauge, s.gauges[p].discarded ≤ 65535

/-- An item put on the link leaves the sample counts. -/
theorem markInFlight_discarded (it : Item) (s : State) (p : Gauge) :
    (markInFlight it s).gauges[p].discarded = s.gauges[p].discarded := by
  cases it with
  | standardize q =>
    simp only [markInFlight, State.onGauge_gauges, upd_at]
    split <;> rfl
  | _ => simp [markInFlight]

theorem discardedFit_of_gauges {s t : State} (h : DiscardedFit s) (hg : t.gauges = s.gauges) :
    DiscardedFit t := by
  intro p
  rw [hg]
  exact h p

theorem discardedFit_reset (straps : BitVec 2) (pressed : Vector Bool 8) (hold : Bool)
    (q : List Instr) : DiscardedFit (unitsReset straps pressed hold q) := by
  intro p
  simp [unitsReset, gaugeReset]

theorem discardedFit_unitsKeep : UnitsKeep DiscardedFit := by
  constructor
  case elsewhere => exact fun a h => discardedFit_of_gauges h a.gauges
  case gauge =>
    intro p f s hf h q
    rw [State.onGauge_gauges, upd_at]
    split
    · exact hf _ (h q)
    · exact h q
  case won =>
    intro c s h p
    unfold winArbitration
    dsimp only
    repeat' split
    · exact h p
    · exact h p
    · exact h p
    · rw [markInFlight_discarded]
      exact h p
  case reset =>
    exact fun d s _ => UnitsKeep.afterReset_of
      (fun src d s h => discardedFit_of_gauges h (by simp)) discardedFit_reset d s
  all_goals
    intros
    refine discardedFit_of_gauges ‹DiscardedFit _› ?_
    simp [heldPress, halted]

/-! ### The trip table -/

/-- No low-reading count is above 255 (R142). -/
def LowFit (s : State) : Prop := ∀ z : Fin 5, s.trips.low[z] ≤ 255

theorem lowFit_congr {s t : State} (h : LowFit s) (hl : t.trips.low = s.trips.low) : LowFit t := by
  intro z
  rw [hl]
  exact h z

@[simp] theorem confirmTest_low (s : State) : (confirmTest s).trips.low = s.trips.low := by
  rw [confirmTest_trips]
  split <;> rfl

@[simp] theorem escalate_low (c : EscalationCause) (sub : Subject) (s : State) :
    (escalate c sub s).trips.low = s.trips.low := by
  rw [escalate_trips]
  split <;> rfl

@[simp] theorem raiseTrip_low (src : TripSource) (d : Nat) (s : State) :
    (raiseTrip src d s).trips.low = s.trips.low := by
  unfold raiseTrip latch latchActions recount
  dsimp only
  repeat' split
  · rfl
  · simp [startConfirm, wantStop]
  · simp [wantStop]
  · simp [wantStop]

theorem serveReadTrips_low (v f : Byte) (s : State) :
    (serveReadTrips v f s).1.trips.low = s.trips.low := by
  obtain h | h := serveReadTrips_cases v f s
  · rw [h]
  · rw [h]
    rfl

theorem lowFit_reset (straps : BitVec 2) (pressed : Vector Bool 8) (hold : Bool)
    (q : List Instr) : LowFit (unitsReset straps pressed hold q) := by
  intro z
  simp [unitsReset, tripsReset]

theorem lowFit_tripsKeep : TripsKeep LowFit where
  congr h _ ht _ := lowFit_congr h (by rw [ht])
  unlinked _ h := h
  trip _ _ _ h := lowFit_congr h (by simp)
  confirm _ h := lowFit_congr h (by simp)
  escalated _ _ _ h := lowFit_congr h (by simp)
  expired _ h := h
  low z n s hn h := by
    intro y
    simp only [State.onTrips_trips, upd_at]
    split
    · exact hn
    · exact h y
  drive _ _ _ h := h
  driveEntry _ _ h := h
  estop x low s h := by
    obtain e | ⟨-, e⟩ | ⟨-, e⟩ := estopChange_cases x low s
    · rw [e]; exact h
    · rw [e]; exact h
    · rw [e]
      exact lowFit_congr h (by simp [heldPress])
  won _ _ h := lowFit_congr h (by simp)
  stopSent s h := by
    obtain ⟨l, hl⟩ := broadcastSent_trips s
    exact lowFit_congr h (by rw [hl])
  configureTrip i c a s h := by
    obtain e | ⟨k, cls, set, -, e⟩ := configureTrip_records i c a s
    · rw [e]; exact h
    · rw [e]; exact h
  clearTrips s _ h := by
    obtain e | ⟨-, e⟩ := serveClearTrips_cases s
    · rw [e]; exact h
    · rw [e]
      exact lowFit_congr h (by simp [clearTripTable])
  readTrips v f s h := lowFit_congr h (serveReadTrips_low v f s)
  reset d s _ := UnitsKeep.afterReset_of (fun _ _ _ h => lowFit_congr h (by simp)) lowFit_reset d s
  halt _ _ _ h := h
  press _ _ _ _ h := h

/-- No raise count is above 255 (R129). -/
def CountsFit (s : State) : Prop := ∀ k : Source, s.trips.records[k].count ≤ 255

theorem countsFit_congr {s t : State} (h : CountsFit s) (hr : t.trips.records = s.trips.records) :
    CountsFit t := by
  intro k
  rw [hr]
  exact h k

theorem countsFit_raiseTrip (src : TripSource) (d : Nat) (s : State) (h : CountsFit s) :
    CountsFit (raiseTrip src d s) := by
  intro k
  rw [raiseTrip_records, upd_at]
  split
  · split
    · exact Nat.min_le_left _ _
    · exact Nat.le_of_ble_eq_true rfl
  · exact h k

theorem setReported_count (ks : List Source) (v : Vector TripRecord 32) (k : Source) :
    (setReported ks v)[k].count = v[k].count := by
  unfold setReported
  induction ks generalizing v with
  | nil => rfl
  | cons j ks ih =>
    rw [List.foldl_cons, ih, upd_at]
    split <;> rfl

theorem countsFit_reset (straps : BitVec 2) (pressed : Vector Bool 8) (hold : Bool)
    (q : List Instr) : CountsFit (unitsReset straps pressed hold q) := by
  intro k
  have : ∀ k : Source, tripDefaults[k].count ≤ 255 := by decide
  exact this k

theorem countsFit_recordsKeep : RecordsKeep CountsFit where
  congr h _ hr _ := countsFit_congr h hr
  trip := countsFit_raiseTrip
  estop x low s h := by
    obtain e | ⟨-, e⟩ | ⟨-, e⟩ := estopChange_cases x low s
    · rw [e]; exact h
    · rw [e]; exact h
    · rw [e]
      exact countsFit_raiseTrip _ _ _ h
  configureTrip i c a s h := by
    obtain e | ⟨k, cls, set, -, e⟩ := configureTrip_records i c a s
    · rw [e]; exact h
    · rw [e]
      intro j
      simp only [State.onTrips_trips, upd_at]
      split
      · exact h j
      · exact h j
  clearTrips s _ h := by
    obtain e | ⟨-, e⟩ := serveClearTrips_cases s
    · rw [e]; exact h
    · rw [e]
      intro k
      simp [clearTripTable, clearAll_at, clearRecord, -Fin.getElem_fin]
  readTrips v f s h := by
    obtain e | e := serveReadTrips_cases v f s
    · rw [e]; exact h
    · rw [e]
      intro k
      simp only [markReported, State.onTrips_trips, setReported_count]
      exact h k
  reset d s _ := UnitsKeep.afterReset_of countsFit_raiseTrip countsFit_reset d s
  halt _ _ _ h := h
  press _ _ _ _ h := h

/-! ### The tracking queue and the coil list -/

/-- The tracking queue holds at most 256 cells (R26). -/
def CellsFit (s : State) : Prop := s.track.queue.length ≤ 256

theorem cellsFit_congr {s t : State} (h : CellsFit s) (hq : t.track.queue = s.track.queue) :
    CellsFit t := by
  rw [CellsFit, hq]
  exact h

theorem cellsFit_stripKeep : StripKeep (· < 256) CellsFit where
  free _ hn := hn
  freed x y rest s hq h := by
    simp only [CellsFit, hq, List.length_cons] at h
    omega
  congr h ht _ := cellsFit_congr h (by rw [ht])
  cell n f s _ h := by simpa [CellsFit, onCell] using h
  active _ _ _ _ _ h := h
  runs _ _ h := h
  close f l0 new s _ _ hq _ _ _ := by simpa [CellsFit, closeForming] using hq
  reform _ _ _ _ _ _ h := h
  poolFull _ _ h := h
  cobble _ _ h := h
  odo _ _ _ h := h
  retire x y rest s hq h := by
    simp only [CellsFit, hq, List.length_cons, State.onTrack_track] at h ⊢
    omega
  coil _ _ _ _ h := h
  start b c s h := by
    unfold serveStart
    repeat' split
    · exact h
    · exact h
    · exact h
    · exact cellsFit_congr h (by simp [accept, startEffect, openRun])
    · exact h
  stop s h := by
    unfold serveStop
    repeat' split
    · exact h
    · exact h
    · simp [CellsFit, accept, stopEffect, stopProducts, closeRun]
  load _ _ h := cellsFit_congr h (by simp)
  erase _ _ h := cellsFit_congr h (by simp)
  append _ _ _ h := cellsFit_congr h (by simp)
  clear _ h := cellsFit_congr h (by simp)
  reset d s _ := by simp [CellsFit, afterReset, unitsReset, trackReset]

/-- The coil list holds at most 8 entries (R75). -/
def CoilsFit (s : State) : Prop := s.store.coils.length ≤ 8

theorem coilsFit_congr {s t : State} (h : CoilsFit s) (hc : t.store.coils = s.store.coils) :
    CoilsFit t := by
  rw [CoilsFit, hc]
  exact h

theorem coilsFit_stripKeep : StripKeep (fun _ => True) CoilsFit where
  free _ _ := trivial
  freed _ _ _ _ _ _ := trivial
  congr h _ hs := coilsFit_congr h (by rw [hs])
  cell _ _ _ _ h := h
  active _ _ _ _ _ h := h
  runs _ _ h := h
  close _ _ _ _ _ _ _ _ _ h := h
  reform _ _ _ _ _ _ h := h
  poolFull _ _ h := h
  cobble _ _ h := h
  odo _ _ _ h := h
  retire _ _ _ _ _ h := h
  coil c rest s hc h := by
    simp only [CoilsFit, hc, List.length_cons, State.onStore_store] at h ⊢
    omega
  start b c s h := by
    unfold serveStart
    repeat' split
    · exact h
    · exact h
    · exact h
    · exact coilsFit_congr h (by simp [accept, startEffect_store, startBase_store])
    · exact h
  stop s h := by
    unfold serveStop
    repeat' split
    · exact h
    · exact h
    · exact coilsFit_congr h (by simp [accept, stopEffect, stopProducts, closeRun])
  load p s h := by
    unfold serveLoad
    repeat' split
    all_goals exact h
  erase b s h := by
    unfold serveErase
    repeat' split
    all_goals exact h
  append c b s h := by
    unfold serveAppend
    repeat' split
    · exact h
    · exact h
    · exact h
    · simp only [CoilsFit, accept, State.onStore_store, List.length_append, List.length_singleton]
      omega
  clear s _ := Nat.zero_le _
  reset d s _ := by simp [CoilsFit, afterReset, unitsReset, storeReset]

end Sys2Proof.Machine
end


section
/-! SUPPORT. The host port under every step: which of its fields the other units leave, and the bounds and
the law of the reply in hand (R183, R185, R186, R188, R193). -/

namespace Sys2Proof.Machine

/-- The power and the host port, the event queue left out, are the same. -/
structure PortSame (s t : State) : Prop where
  power : t.power = s.power
  asm : t.host.asm = s.host.asm
  content : t.host.content = s.host.content
  queue : t.host.inputQueue = s.host.inputQueue
  reply : t.host.reply = s.host.reply
  crcDrops : t.host.crcDrops = s.host.crcDrops
  formatDrops : t.host.formatDrops = s.host.formatDrops
  queueDrops : t.host.queueDrops = s.host.queueDrops
  attention : t.host.attention = s.host.attention

theorem portSame_abandon (s : State) : PortSame s (abandonForUrgent s) := by
  constructor <;> simp

/-- No event of another line touches the host port but for the events it raises. -/
theorem portSame_line (e : LineEvent) (s : State) : PortSame s (e.run s) := by
  cases e with
  | tick => constructor <;> rfl
  | _ => constructor <;> simp [LineEvent.run]

theorem portSame_pending (s : State) (q : List Instr) : PortSame s (s.withPending q) := by
  constructor <;> rfl

/-- A request leaves the frames and the reply of the host port as they were. -/
structure FramesSame (s t : State) : Prop where
  power : t.power = s.power
  asm : t.host.asm = s.host.asm
  content : t.host.content = s.host.content
  queue : t.host.inputQueue = s.host.inputQueue

theorem PortSame.frames {s t : State} (h : PortSame s t) : FramesSame s t :=
  ⟨h.power, h.asm, h.content, h.queue⟩

theorem portSame_readEvents (b : Byte) (s : State) : PortSame s (serveReadEvents b s).1 := by
  unfold serveReadEvents
  split <;> constructor <;> rfl

theorem framesSame_serve (r : Request) (s : State) : FramesSame s (serve r s).1 := by
  cases r with
  | status c =>
    simp only [serve, serveStatus]
    repeat' split
    all_goals constructor <;> rfl
  | setAttentionLevel l =>
    simp only [serve, serveAttention]
    split <;> constructor <;> rfl
  | readEvents b => exact (portSame_readEvents b s).frames
  | _ => constructor <;> simp [serve]

/-! ### A law of the host port -/

/-- What a law of the host port has to survive. -/
structure PortKeep (P : State → Prop) : Prop where
  congr : ∀ {s t : State}, P s → PortSame s t → P t
  receiving : ∀ bs s, P s → P (s.onHost fun h => { h with asm := .receiving, content := bs })
  escaped : ∀ s, P s → P (s.onHost fun h => { h with asm := .escaped })
  format : ∀ s, P s → P (formatDrop s)
  crc : ∀ s, P s → P (crcDrop s)
  submit : ∀ tag r s, s.power = .running → P s → P (submit tag r s)
  reply : ∀ s, s.power = .running → P s → P (endReply s)
  reset : ∀ s, P s → P (afterReset 0 s)
  halt : ∀ p s, p ≠ .running → P s → P (halted p s)

namespace PortKeep

variable {P : State → Prop}

theorem judge (K : PortKeep P) (bs : List Byte) (s : State) (hp : s.power = .running) (h : P s) :
    P (judge bs s) := by
  unfold Machine.judge
  dsimp only
  repeat' split
  · exact K.crc s h
  · exact K.submit _ _ s hp h
  · exact K.format s h
  · exact K.format s h

theorem addContent (K : PortKeep P) (b : Byte) (s : State) (hp : s.power = .running) (h : P s) :
    P (addContent b s) := by
  unfold Machine.addContent
  dsimp only
  repeat' split
  · exact K.format s h
  · exact K.judge _ s hp h
  · exact K.receiving _ s h

theorem assemble (K : PortKeep P) (b : Byte) (stop : Bool) (s : State) (hp : s.power = .running)
    (h : P s) : P (assemble b stop s) := by
  unfold Machine.assemble beginFrame
  cases s.host.asm with
  | idle =>
    dsimp only
    split
    · exact K.receiving [] s h
    · exact h
  | receiving =>
    dsimp only
    repeat' split
    · exact K.format s h
    · exact K.receiving [] s h
    · exact K.escaped s h
    · exact K.addContent b s hp h
  | escaped =>
    dsimp only
    repeat' split
    · exact K.format s h
    · exact K.receiving [] s h
    · exact K.addContent _ s hp h
    · exact K.addContent _ s hp h
    · exact K.format s h

theorem effect (K : PortKeep P) {s t : State} (e : Effect s t) (h : P s) : P t := by
  cases e with
  | idle => exact h
  | line hp e => exact K.congr (K.congr h (portSame_line e s)) (portSame_abandon _)
  | byte hp b stop => exact K.congr (K.assemble b stop s hp h) (portSame_abandon _)
  | reply hp => exact K.congr (K.reply s hp h) (portSame_abandon _)
  | frame hp tag r => exact K.congr (K.submit tag r s hp h) (portSame_abandon _)
  | reset => exact K.reset s h
  | halt p hp => exact K.halt p s hp h
  | press => exact K.congr h (by constructor <;> rfl)
  | hold => exact K.congr h (by constructor <;> rfl)

theorem step (K : PortKeep P) (s t : State) (h : P s) (hs : step s = .next t) : P t := by
  obtain ⟨q, e⟩ := step_effect s t hs
  exact K.effect e (K.congr h (portSame_pending s q))

end PortKeep

/-! ### The bounds of the host port -/

/-- The input queue holds at most 4 frames (R186), the attention level lies in 1 to 7 (R193), and no drop
count is above 65,535 (R185). -/
structure PortFit (s : State) : Prop where
  frames : s.host.inputQueue.length ≤ 4
  attention : 1 ≤ s.host.attention ∧ s.host.attention ≤ 7
  crcDrops : s.host.crcDrops ≤ 65535
  formatDrops : s.host.formatDrops ≤ 65535
  queueDrops : s.host.queueDrops ≤ 65535

theorem PortFit.congr {s t : State} (h : PortFit s) (e : PortSame s t) : PortFit t := by
  obtain ⟨frames, attention, crcDrops, formatDrops, queueDrops⟩ := h
  exact ⟨by rw [e.queue]; exact frames, by rw [e.attention]; exact attention,
    by rw [e.crcDrops]; exact crcDrops, by rw [e.formatDrops]; exact formatDrops,
    by rw [e.queueDrops]; exact queueDrops⟩

/-- A request keeps the bounds: Status clears the drop counts and Set Attention Level tests its level. -/
theorem portFit_serve (r : Request) (s : State) (h : PortFit s) : PortFit (serve r s).1 := by
  cases r with
  | status c =>
    simp only [serve, serveStatus]
    repeat' split
    · exact h
    · exact ⟨h.frames, h.attention, Nat.zero_le _, Nat.zero_le _, Nat.zero_le _⟩
    · exact h
  | setAttentionLevel l =>
    simp only [serve, serveAttention]
    split
    · exact ⟨h.frames, ‹_›, h.crcDrops, h.formatDrops, h.queueDrops⟩
    · exact h
  | readEvents b => exact h.congr (portSame_readEvents b s)
  | _ => exact h.congr (by constructor <;> simp [serve])

theorem portFit_takeHead (s : State) (h : PortFit s) : PortFit (takeHead s) := by
  unfold takeHead
  split
  · exact h
  · rename_i f _ _
    obtain ⟨frames, attention, crcDrops, formatDrops, queueDrops⟩ :=
      (portFit_serve f.request s h).congr (portSame_abandon _)
    exact ⟨frames, attention, crcDrops, formatDrops, queueDrops⟩

theorem portFit_submit (tag : Byte) (r : Request) (s : State) (h : PortFit s) :
    PortFit (submit tag r s) := by
  unfold submit
  dsimp only
  split
  · exact ⟨h.frames, h.attention, h.crcDrops, h.formatDrops, Nat.min_le_left _ _⟩
  · have queued : PortFit ((s.onHost fun p => { p with asm := .idle, content := [] }).onHost fun p =>
        { p with inputQueue := p.inputQueue ++ [⟨tag, r⟩] }) :=
      ⟨by simp; omega, h.attention, h.crcDrops, h.formatDrops, h.queueDrops⟩
    split
    · exact portFit_takeHead _ queued
    · exact queued

theorem portFit_reset (d : Nat) (s : State) : PortFit (afterReset d s) := by
  constructor <;> simp [afterReset, unitsReset, hostReset]

theorem portFit_portKeep : PortKeep PortFit where
  congr h e := h.congr e
  receiving _ _ h := ⟨h.frames, h.attention, h.crcDrops, h.formatDrops, h.queueDrops⟩
  escaped _ h := ⟨h.frames, h.attention, h.crcDrops, h.formatDrops, h.queueDrops⟩
  format _ h := ⟨h.frames, h.attention, h.crcDrops, Nat.min_le_left _ _, h.queueDrops⟩
  crc _ h := ⟨h.frames, h.attention, Nat.min_le_left _ _, h.formatDrops, h.queueDrops⟩
  submit tag r s _ h := portFit_submit tag r s h
  reply s _ h := by
    unfold endReply
    split
    · rename_i f rest _ hq
      split
      · exact portFit_reset 1 s
      · have hlen := h.frames
        rw [hq, List.length_cons] at hlen
        exact portFit_takeHead _
          ⟨by simp only [State.onHost_host]; omega, h.attention, h.crcDrops, h.formatDrops, h.queueDrops⟩
    · exact h
  reset s _ := portFit_reset 0 s
  halt _ _ _ h := ⟨h.frames, h.attention, h.crcDrops, h.formatDrops, h.queueDrops⟩

/-! ### The request in hand -/

/-- A frame taken puts its reply on the line; without a frame none is there (R186, R188). -/
theorem hostSound_takeHead (s : State) (hempty : s.host.asm = .idle → s.host.content = [])
    (hreply : s.host.inputQueue = [] → s.host.reply = none) : HostSound (takeHead s) := by
  unfold takeHead
  split
  · rename_i hq
    exact ⟨hempty, fun _ => by rw [hreply hq, hq]; simp⟩
  · rename_i f rest hq
    have hf := framesSame_serve f.request s
    have ha := portSame_abandon (serve f.request s).1
    refine ⟨?_, fun _ => ?_⟩
    · simp only [State.onHost_host, ha.asm, hf.asm, ha.content, hf.content]
      exact hempty
    · simp [hf.queue, hq]

theorem hostSound_submit (tag : Byte) (r : Request) (s : State) (hp : s.power = .running)
    (h : HostSound s) : HostSound (submit tag r s) := by
  have hand := h.inHand hp
  unfold submit
  dsimp only
  split
  · exact ⟨fun _ => rfl, fun _ => hand⟩
  · split
    · exact hostSound_takeHead _ (fun _ => rfl) (by simp)
    · rename_i hlen
      have hne : s.host.inputQueue ≠ [] := fun hn => hlen (by rw [hn]; rfl)
      exact ⟨fun _ => rfl, fun _ => by simpa using hand.mpr hne⟩

theorem hostSound_reset (d : Nat) (s : State) : HostSound (afterReset d s) := by
  constructor <;> simp [afterReset, unitsReset, hostReset]

theorem hostSound_portKeep : PortKeep HostSound where
  congr h e := ⟨by rw [e.asm, e.content]; exact h.empty,
    by rw [e.power, e.reply, e.queue]; exact h.inHand⟩
  receiving _ _ h := ⟨nofun, h.inHand⟩
  escaped _ h := ⟨nofun, h.inHand⟩
  format _ h := ⟨fun _ => rfl, h.inHand⟩
  crc _ h := ⟨fun _ => rfl, h.inHand⟩
  submit := hostSound_submit
  reply s hp h := by
    unfold endReply
    split
    · split
      · exact hostSound_reset 1 s
      · exact hostSound_takeHead _ h.empty fun _ => rfl
    · exact h
  reset s _ := hostSound_reset 0 s
  halt p s hp h := ⟨h.empty, fun hr => absurd hr hp⟩

/-! ### All bounds -/

theorem bounded_iff (s : State) : Bounded s ↔ CellsFit s ∧ CoilsFit s ∧ PortFit s ∧ EventsFit s ∧
    CountersFit s ∧ FailuresFit s ∧ LowFit s ∧ CountsFit s ∧ DiscardedFit s := by
  constructor
  · rintro ⟨cells, coils, frames, events, attention, crc, format, queue, c1, c2, c3, c4, c5, failures, low,
      raises, discarded⟩
    exact ⟨cells, coils, ⟨frames, attention, crc, format, queue⟩, events, ⟨c1, c2, c3, c4, c5⟩, failures,
      low, raises, discarded⟩
  · rintro ⟨cells, coils, ⟨frames, attention, crc, format, queue⟩, events, ⟨c1, c2, c3, c4, c5⟩, failures,
      low, raises, discarded⟩
    exact ⟨cells, coils, frames, events, attention, crc, format, queue, c1, c2, c3, c4, c5, failures, low,
      raises, discarded⟩

end Sys2Proof.Machine
end

section
/-! The statement about the bounds (O6). -/

open Sys2Proof Sys2Proof.Machine

/-- Settles O6: each bound by the operations that bear on it, and the request in hand by the host port's. -/
theorem stepKeepsBounds : Obligations.StepKeepsBounds := by
  unfold Obligations.StepKeepsBounds
  intro s t hstep
  refine ⟨fun h => ?_, fun h => hostSound_portKeep.step s t h hstep⟩
  rw [bounded_iff] at h ⊢
  obtain ⟨cells, coils, port, events, counters, failures, low, raises, discarded⟩ := h
  exact ⟨cellsFit_stripKeep.events.step s t cells hstep, coilsFit_stripKeep.events.step s t coils hstep,
    portFit_portKeep.step s t port hstep, eventsFit_unitsKeep.step s t events hstep,
    countersFit_unitsKeep.step s t counters hstep, failuresFit_unitsKeep.step s t failures hstep,
    lowFit_tripsKeep.unitsKeep.step s t low hstep,
    countsFit_recordsKeep.tripsKeep.unitsKeep.step s t raises hstep,
    discardedFit_unitsKeep.step s t discarded hstep⟩

end


section
/-! SUPPORT. The Stand Link's own state under every event (R154, R161, R163 to R165, R169). -/

namespace Sys2Proof.Machine

/-- The law of the link reads five of its fields. -/
theorem LinkSound.of {s t : State} (h : LinkSound s) (hstate : t.link.state = s.link.state)
    (hflight : t.link.inFlight = s.link.inFlight) (htimer : t.link.respTimer = s.link.respTimer)
    (hsender : t.link.sender = s.link.sender) (hcontends : t.link.contending = s.link.contending) :
    LinkSound t := by
  obtain ⟨part, timer, answered, reception, contends⟩ := h
  exact ⟨by rw [hstate, hflight]; exact part, by rw [htimer, hflight]; exact timer,
    by rw [hflight]; exact answered, by rw [hsender, hstate]; exact reception,
    by rw [hcontends, hstate]; exact contends⟩

theorem linkSound_congr {s t : State} (h : LinkSound s) (hl : t.link = s.link) : LinkSound t :=
  h.of (by rw [hl]) (by rw [hl]) (by rw [hl]) (by rw [hl]) (by rw [hl])

/-- A link without a transaction of the part. -/
theorem linkSound_without {s : State} (hflight : s.link.inFlight = none)
    (htimer : s.link.respTimer = none) (hstate : s.link.state ≠ .part)
    (hsender : s.link.sender.isSome = true → s.link.state = .node)
    (hcontends : s.link.contending.isSome = true → s.link.state = .free) : LinkSound s :=
  ⟨⟨fun h => absurd h hstate, by simp [hflight]⟩, by simp [htimer, hflight],
    (fun f hf => by simp [hflight] at hf), hsender, hcontends⟩

theorem LinkSound.notPart {s : State} (h : LinkSound s) (hs : s.link.state ≠ .part) :
    s.link.inFlight = none := by
  cases hf : s.link.inFlight with
  | none => rfl
  | some f => exact absurd (h.part.mpr (by rw [hf]; rfl)) hs

theorem LinkSound.noTimer {s : State} (h : LinkSound s) (hf : s.link.inFlight = none) :
    s.link.respTimer = none := by
  cases ht : s.link.respTimer with
  | none => rfl
  | some n =>
    obtain ⟨f, hf', -⟩ := h.timer.mp (by rw [ht]; rfl)
    rw [hf] at hf'
    cases hf'

theorem LinkSound.noSender {s : State} (h : LinkSound s) (hs : s.link.state ≠ .node) :
    s.link.sender = none := by
  cases hn : s.link.sender with
  | none => rfl
  | some a => exact absurd (h.reception (by rw [hn]; rfl)) hs

theorem LinkSound.noContending {s : State} (h : LinkSound s) (hs : s.link.state ≠ .free) :
    s.link.contending = none := by
  cases hn : s.link.contending with
  | none => rfl
  | some a => exact absurd (h.contends (by rw [hn]; rfl)) hs

/-! ### The part's transactions -/

theorem endTxn_linkSound (f : InFlight) (e : TxnEnd) (s : State) (h : LinkSound s) :
    LinkSound (endTxn f e s) :=
  h.of (by simp [endTxn]) (by simp [endTxn]) (by simp [endTxn]) (by simp [endTxn]) (by simp [endTxn])

theorem linkSound_release {s : State} {f : InFlight} (h : LinkSound s)
    (hf : s.link.inFlight = some f) : LinkSound (releaseLink s) := by
  have hstate : s.link.state = .part := h.part.mpr (by rw [hf]; rfl)
  have hsender := h.noSender (by rw [hstate]; exact nofun)
  exact linkSound_without rfl rfl nofun (by simp [releaseLink, hsender]) (fun _ => rfl)

theorem linkSound_abandon (s : State) (h : LinkSound s) : LinkSound (abandonForUrgent s) := by
  unfold abandonForUrgent
  split
  · exact h
  · split
    · exact endTxn_linkSound _ _ _ (linkSound_release h ‹_›)
    · exact h

theorem linkSound_opportunity (s : State) (h : LinkSound s) : LinkSound (opportunity s) := by
  unfold opportunity
  split
  · rename_i hfree
    obtain ⟨hstate, hflight⟩ := hfree
    exact linkSound_without hflight (h.noTimer hflight) (by simp [hstate])
      h.reception (fun _ => hstate)
  · exact h

theorem linkSound_winArbitration (c : Bool) (s : State) (h : LinkSound s) :
    LinkSound (winArbitration c s) := by
  unfold winArbitration
  dsimp only
  split
  · exact h
  · split
    · exact h
    · rename_i hfree
      have hfree : s.link.state = .free := Decidable.of_not_not hfree
      have hflight := h.notPart (by rw [hfree]; exact nofun)
      have hsender := h.noSender (by rw [hfree]; exact nofun)
      split
      · exact linkSound_without hflight (h.noTimer hflight) (by simp [hfree]) h.reception nofun
      · rename_i it ring _
        refine ⟨by simp, by simp [h.noTimer hflight], fun f hf hsent => ?_, by simp [hsender], by simp⟩
        simp only [markInFlight_frame, State.onLink_link, Option.some.injEq] at hf
        subst hf
        cases hsent

theorem linkSound_nodeWins (u : Bool) (a : BitVec 4) (s : State) (h : LinkSound s) :
    LinkSound (nodeWins u a s) := by
  unfold nodeWins
  extract_lets outranked
  split
  · rename_i hfree
    have hflight := h.notPart (by rw [hfree]; exact nofun)
    split
    · exact h
    · exact linkSound_without hflight (h.noTimer hflight) nofun (fun _ => rfl) nofun
  · exact h.of rfl rfl rfl rfl rfl
  · exact h
  · exact h

theorem linkSound_releaseHold (s : State) (h : LinkSound s) : LinkSound (releaseHold s) := by
  unfold releaseHold
  split
  · rename_i hnode
    have hflight := h.notPart (by rw [hnode]; exact nofun)
    exact linkSound_without hflight (h.noTimer hflight) nofun nofun (fun _ => rfl)
  · exact h.of rfl rfl rfl rfl rfl
  · exact h
  · exact h

theorem linkSound_frameSent (s : State) (h : LinkSound s) : LinkSound (frameSent s) := by
  unfold frameSent
  split
  · exact h
  · rename_i f hf
    split
    · exact h
    · rename_i hitem
      split
      · refine ⟨?_, ?_, ?_, h.reception, h.contends⟩
        · simpa [hf] using h.part
        · simp
        · rintro g ⟨⟩ - l b hg
          exact hitem l b hg
      · exact h

theorem linkSound_broadcastSent (s : State) (h : LinkSound s) : LinkSound (broadcastSent s) := by
  unfold broadcastSent
  split
  · exact h
  · rename_i f hf
    split
    · exact linkSound_congr (s := releaseLink s) (linkSound_release h hf) rfl
    · exact h

theorem linkSound_responseByte (b : Byte) (p : Bool) (s : State) (h : LinkSound s) :
    LinkSound (responseByte b p s) := by
  unfold responseByte
  split
  · exact h
  · split
    · exact endTxn_linkSound _ _ _ (linkSound_release h ‹_›)
    · exact h

theorem linkSound_responseExpiry (us : Nat) (s : State) (h : LinkSound s) :
    LinkSound (responseExpiry us s) := by
  unfold responseExpiry
  split
  · split
    · exact endTxn_linkSound _ _ _ (linkSound_release h ‹_›)
    · exact h
  · exact h

/-! ### Frames of nodes and the pulse -/

theorem linkSound_rejectFrame (a : BitVec 4) (s : State) (h : LinkSound s) :
    LinkSound (rejectFrame a s) := by
  unfold rejectFrame
  dsimp only
  split
  · exact h.of (by simp) (by simp) (by simp) (by simp) (by simp)
  · exact h.of rfl rfl rfl rfl rfl

theorem linkSound_receiveFrame (f : NodeFrame) (s : State) (h : LinkSound s) :
    LinkSound (receiveFrame f s) := by
  have done : ∀ a, LinkSound (s.onLink fun l => { l with sender := none, answer := a }) := fun a =>
    ⟨h.part, h.timer, h.answered, nofun, h.contends⟩
  unfold receiveFrame
  split
  · dsimp only
    split
    · exact done _
    · exact (done (some .checkError)).of rfl rfl rfl rfl rfl
    · exact linkSound_rejectFrame _ _ (done _)
    · exact linkSound_congr (done (some .accept)) (by simp)
    · exact linkSound_congr (done (some .accept)) (by simp)
    · exact linkSound_congr (done (some .accept)) (by simp)
  · exact h

theorem linkSound_startPulse (s : State) : LinkSound (startPulse s) := by
  have h1 : ∀ u : State, u.link = { s.link with
      state := .resetting, inFlight := none, respTimer := none, sender := none, answer := none,
      contending := none, yield := false, lastReset := some s.now,
      counters := { s.link.counters with resets := satAdd 65535 s.link.counters.resets 1 } } →
      LinkSound u := fun u hu =>
    linkSound_without (by rw [hu]) (by rw [hu]) (by rw [hu]; exact nofun) (by rw [hu]; exact nofun)
      (by rw [hu]; exact nofun)
  unfold startPulse
  dsimp only
  split
  · exact endTxn_linkSound _ _ _ (h1 _ (by rw [foldl_link _ (by intros; simp)]; rfl))
  · exact h1 _ (by rw [foldl_link _ (by intros; simp)]; rfl)

theorem linkSound_stuckDetected (us : Nat) (s : State) (h : LinkSound s) :
    LinkSound (stuckDetected us s) := by
  unfold stuckDetected
  split
  · exact linkSound_startPulse _
  · exact h

theorem linkSound_pulseEnd (s : State) (h : LinkSound s) : LinkSound (pulseEnd s) := by
  unfold pulseEnd
  split
  · rename_i hr
    have hflight := h.notPart (by rw [hr]; exact nofun)
    have hsender := h.noSender (by rw [hr]; exact nofun)
    have hcontends := h.noContending (by rw [hr]; exact nofun)
    simp only [State.onLink]
    split
    · exact linkSound_without hflight (h.noTimer hflight) nofun (fun _ => rfl) (by simp [hcontends])
    · exact linkSound_without hflight (h.noTimer hflight) nofun (by simp [hsender]) (fun _ => rfl)
  · exact h

/-! ### Every event -/

theorem linkSound_line (e : LineEvent) (s : State) (h : LinkSound s) : LinkSound (e.run s) := by
  cases e with
  | tick => exact linkSound_congr h rfl
  | responseTimeout us => exact linkSound_responseExpiry us s h
  | stuck us => exact linkSound_stuckDetected us s h
  | pulseOver => exact linkSound_pulseEnd s h
  | opportunity => exact linkSound_opportunity s h
  | won c => exact linkSound_winArbitration c s h
  | nodeWon u a => exact linkSound_nodeWins u a s h
  | holdFreed => exact linkSound_releaseHold s h
  | checkByteSent => exact linkSound_frameSent s h
  | stopSent => exact linkSound_broadcastSent s h
  | response b p => exact linkSound_responseByte b p s h
  | nodeFrame f => exact linkSound_receiveFrame f s h
  | _ => exact linkSound_congr h (by simp [LineEvent.run])

/-- A Clear Trips only uncounts a STOP on the link (R149). -/
theorem linkSound_clearTrips (s : State) (h : LinkSound s) : LinkSound (serveClearTrips s).1 := by
  obtain e | ⟨-, e⟩ := serveClearTrips_cases s
  · rw [e]
    exact h
  · rw [e]
    refine linkSound_congr (s := s.onLink uncountStop) ?_ (by simp [clearTripTable])
    cases hf : s.link.inFlight with
    | none => exact h.of rfl (by simp [uncountStop, hf]) rfl rfl rfl
    | some f =>
      refine ⟨?_, ?_, ?_, h.reception, h.contends⟩
      · simpa [uncountStop, hf] using h.part
      · simpa [uncountStop, hf] using h.timer
      · intro g hg hsent l b hitem
        simp only [State.onLink_link, uncountStop, hf, Option.map_some, Option.some.injEq] at hg
        subst hg
        cases hi : f.item with
        | stop l' b' => exact h.answered f hf hsent l' b' hi
        | _ => simp [hi] at hitem

theorem linkSound_request (r : Request) (s : State) (h : LinkSound s) : LinkSound (serve r s).1 := by
  cases r with
  | clearTrips => exact linkSound_clearTrips s h
  | resetStandLink =>
    simp only [serve, serveResetLink]
    split
    · exact h
    · exact linkSound_congr (linkSound_startPulse s) (by simp [accept])
  | readNodes c =>
    simp only [serve, serveReadNodes]
    repeat' split
    · exact h
    · exact h.of rfl rfl rfl rfl rfl
    · exact h
  | _ => exact linkSound_congr h (by simp [serve])

theorem linkSound_events : EventsKeep LinkSound where
  pending _ _ h := linkSound_congr h rfl
  host _ _ _ h := linkSound_congr h rfl
  line e s _ h := linkSound_line e s h
  request r s _ h := linkSound_request r s h
  abandon := linkSound_abandon
  reset d s _ := by
    have hl : (afterReset d s).link = linkReset s.link.holdOther := by simp [afterReset, unitsReset]
    refine linkSound_without ?_ ?_ ?_ ?_ ?_
    all_goals
      rw [hl]
      cases s.link.holdOther <;> simp [linkReset]
  halt _ _ _ h := linkSound_congr h rfl
  press _ _ _ _ h := linkSound_congr h rfl
  hold _ _ _ h := h.of rfl rfl rfl rfl rfl

/-! ### No normal work in front of urgent work (R173) -/

theorem settled_abandon (s : State) : Settled (abandonForUrgent s) := by
  cases hf : s.link.inFlight with
  | none =>
    rw [abandon_of_none s hf]
    exact settled_of_none s hf
  | some f =>
    unfold abandonForUrgent
    simp only [hf]
    split
    · exact settled_of_none _ (by simp [endTxn, releaseLink])
    · rename_i hn
      intro g hg hnormal
      rw [hf] at hg
      cases hg
      rw [not_and, Bool.not_eq_true] at hn
      exact hn hnormal

theorem settled_effect {s t : State} (e : Effect s t) (h : Settled s) : Settled t := by
  cases e with
  | idle => exact h
  | line => exact settled_abandon _
  | byte => exact settled_abandon _
  | reply => exact settled_abandon _
  | frame => exact settled_abandon _
  | reset =>
    refine settled_of_none _ ?_
    simp [afterReset, unitsReset, linkReset]
  | halt => exact (settled_congr _ _ rfl rfl rfl fun _ => rfl).mpr h
  | press => exact (settled_congr _ _ rfl rfl rfl fun _ => rfl).mpr h
  | hold => exact (settled_congr _ _ rfl rfl rfl fun _ => rfl).mpr h

end Sys2Proof.Machine
end

section
/-! The statement about the link (O7). -/

open Sys2Proof Sys2Proof.Machine

/-- Settles O7: the events that bear on the link, one by one, and the abandoning that ends each event. -/
theorem stepKeepsLinkSound : Obligations.StepKeepsLinkSound := by
  unfold Obligations.StepKeepsLinkSound
  intro s t hstep
  refine ⟨fun h => linkSound_events.step s t h hstep, fun h => ?_⟩
  obtain ⟨q, e⟩ := step_effect s t hstep
  exact settled_effect e ((settled_congr s (s.withPending q) rfl rfl rfl fun _ => rfl).mpr h)

end


section
/-! SUPPORT. The reset in closed form (R146, R197): POWER_UP and then the pressed lines latch in a table where
nothing was latched, at a part whose stands are all OPEN. -/

namespace Sys2Proof.Machine

/-- Every stand is in a state from which a latch opens none (R122). -/
def NoneOpens (s : State) : Prop := ∀ i : Stand, openedByTrip s.actuators[i].state = false

theorem openNamed_noneOpens (set : BitVec 5) (s : State) (h : NoneOpens s) : openNamed set s = s := by
  have pass : ∀ l : List Stand, l.foldl (fun s i =>
      if set.getLsbD i.val && openedByTrip s.actuators[i].state then putIntoOpening i s else s) s = s := by
    intro l
    induction l with
    | nil => rfl
    | cons i l ih =>
      rw [List.foldl_cons, h i]
      simpa using ih
  exact pass allStands

theorem latchActions_noneOpens (k : Source) (s : State) (h : NoneOpens s)
    (hc : s.trips.records[k].cls = .emergency) : latchActions k s = wantStop .emergency s := by
  unfold latchActions
  simp only [openNamed_noneOpens _ s h, hc]

/-- A record latched with the next rank (R131). -/
def latchRecord (k : Source) (now : Time) (d : Nat) (v : Vector TripRecord 32) : Vector TripRecord 32 :=
  upd v k fun r => { r with latched := true, rank := latchesIn v + 1, time := now, count := 1,
                            reported := false, detail := d }

/-- An EMERGENCY source that latches where no stand opens changes its record and the stop wanted alone. -/
theorem raiseTrip_noneOpens (src : TripSource) (d : Nat) (s : State) (ho : NoneOpens s)
    (hl : s.trips.records[sourceIndex src].latched = false)
    (hc : s.trips.records[sourceIndex src].cls = .emergency) :
    raiseTrip src d s = s.onTrips fun t =>
      { t with records := latchRecord (sourceIndex src) s.now d t.records, stopWanted := .emergency } := by
  have e : raiseTrip src d s = latch (sourceIndex src) d s := if_neg (by rw [hl]; exact nofun)
  have hcls : (latchRecord (sourceIndex src) s.now d s.trips.records)[sourceIndex src].cls =
      .emergency := by
    rw [latchRecord, upd_same]
    exact hc
  have hact := latchActions_noneOpens (sourceIndex src) (s.onTrips fun t =>
    { t with records := latchRecord (sourceIndex src) s.now d t.records }) ho hcls
  rw [e]
  refine hact.trans ?_
  have strongest : ∀ l : StopLevel, (if stopRank l < stopRank .emergency then .emergency else l) =
      StopLevel.emergency := by
    intro l
    cases l <;> rfl
  exact congrArg (fun l => s.onTrips fun t =>
    { t with records := latchRecord (sourceIndex src) s.now d t.records, stopWanted := l })
    (strongest s.trips.stopWanted)

/-- A pressed line's record latched in its turn at a reset (R140, R146). -/
def pressRecord (pressed : Vector Bool 8) (v : Vector TripRecord 32) (x : Fin 8) : Vector TripRecord 32 :=
  if pressed[x] then latchRecord (sourceIndex (.estop x)) 0 x.val v else v

theorem estop_injective (x y : Fin 8) (h : sourceIndex (.estop x) = sourceIndex (.estop y)) : x = y := by
  simpa [sourceIndex, Fin.ext_iff] using h

theorem pressRecord_other (pressed : Vector Bool 8) (v : Vector TripRecord 32) (x : Fin 8) (k : Source)
    (hk : k ≠ sourceIndex (.estop x)) : (pressRecord pressed v x)[k] = v[k] := by
  unfold pressRecord
  split
  · rw [latchRecord, upd_other _ _ _ _ hk]
  · rfl

theorem pressRecords_other (pressed : Vector Bool 8) (l : List (Fin 8)) (v : Vector TripRecord 32)
    (k : Source) (hk : ∀ x ∈ l, k ≠ sourceIndex (.estop x)) :
    (l.foldl (pressRecord pressed) v)[k] = v[k] := by
  induction l generalizing v with
  | nil => rfl
  | cons x l ih =>
    rw [List.foldl_cons, ih _ fun y hy => hk y (List.mem_cons_of_mem _ hy)]
    exact pressRecord_other pressed v x k (hk x List.mem_cons_self)

/-- The pass over the lines, on the records alone. -/
theorem pressPass_eq (l : List (Fin 8)) (s : State) (ho : NoneOpens s) (hnow : s.now = 0)
    (hw : s.trips.stopWanted = .emergency) (hn : l.Nodup)
    (hc : ∀ x ∈ l, s.trips.records[sourceIndex (.estop x)].latched = false ∧
      s.trips.records[sourceIndex (.estop x)].cls = .emergency) :
    l.foldl pressTurn s = s.onTrips fun t =>
      { t with records := l.foldl (pressRecord s.trips.pressed) t.records } := by
  induction l generalizing s with
  | nil => rfl
  | cons x l ih =>
    obtain ⟨hx, hn⟩ := List.nodup_cons.mp hn
    obtain ⟨hl, hcls⟩ := hc x List.mem_cons_self
    have turn : pressTurn s x = s.onTrips fun t =>
        { t with records := pressRecord s.trips.pressed t.records x } := by
      unfold pressTurn pressRecord
      split
      · rw [raiseTrip_noneOpens _ _ s ho hl hcls, hnow]
        simp only [State.onTrips, hw]
      · rfl
    rw [List.foldl_cons, turn]
    rw [ih (s.onTrips fun t => { t with records := pressRecord s.trips.pressed t.records x }) ho hnow hw hn
      fun y hy => ?_]
    · rfl
    · have hne : sourceIndex (.estop y) ≠ sourceIndex (.estop x) := fun h => by
        rw [estop_injective y x h] at hy
        exact hx hy
      rw [State.onTrips_trips, pressRecord_other _ _ _ _ hne]
      exact hc y (List.mem_cons_of_mem _ hy)

/-- The trip records after a reset, with POWER_UP's detail (R146). -/
def resetRecords (d : Nat) (pressed : Vector Bool 8) : Vector TripRecord 32 :=
  allLines.foldl (pressRecord pressed) (latchRecord 31 0 d tripDefaults)

/-- POWER_UP latched in the default table leaves every line's record CLEAR with class EMERGENCY. -/
theorem powerUp_lines (d : Nat) (x : Fin 8) :
    (latchRecord 31 0 d tripDefaults)[sourceIndex (.estop x)] = clearRecord .emergency 0b11111 := by
  have hne : sourceIndex (.estop x) ≠ 31 := fun h => by
    have := congrArg Fin.val h
    simp [sourceIndex] at this
    omega
  rw [latchRecord, upd_other _ _ _ _ hne]
  have : ∀ x : Fin 8, tripDefaults[sourceIndex (.estop x)] = clearRecord .emergency 0b11111 := by decide
  exact this x

/-- The state right after a reset: the values after reset but for the trip records and the stop wanted (R197,
R146). -/
def resetState (d : Nat) (s : State) : State :=
  (unitsReset s.straps s.trips.pressed s.link.holdOther s.pending).onTrips fun t =>
    { t with records := resetRecords d s.trips.pressed, stopWanted := .emergency }

theorem afterReset_eq (d : Nat) (s : State) : afterReset d s = resetState d s := by
  have hopen : ∀ u : State, u.actuators = Vector.replicate 5 actuatorReset → NoneOpens u := by
    intro u hu i
    rw [hu]
    simp [actuatorReset, openedByTrip, engaged]
  rw [afterReset, raisePressed_eq]
  rw [raiseTrip_noneOpens .powerUp d _ (hopen _ rfl) rfl rfl]
  rw [pressPass_eq allLines _ (hopen _ rfl) rfl rfl (by decide) fun x _ => ?_]
  · rfl
  · have := powerUp_lines d x
    exact ⟨congrArg TripRecord.latched this, congrArg TripRecord.cls this⟩

/-! ### The records one by one -/

theorem latchesIn_latchRecord (k : Source) (now : Time) (d : Nat) (v : Vector TripRecord 32)
    (h : v[k].latched = false) : latchesIn (latchRecord k now d v) = latchesIn v + 1 := by
  have := latchesIn_upd v k fun r => { r with latched := true, rank := latchesIn v + 1, time := now,
                                              count := 1, reported := false, detail := d }
  simpa [latchRecord, h, -Fin.getElem_fin] using this

/-- In a pass over ascending lines a pressed line's rank counts the latches before it. -/
theorem pressRecords_line (pressed : Vector Bool 8) (l : List (Fin 8)) (v : Vector TripRecord 32)
    (hsorted : l.Pairwise (· < ·))
    (hclear : ∀ y ∈ l, v[sourceIndex (.estop y)].latched = false) (x : Fin 8) (hx : x ∈ l) :
    (l.foldl (pressRecord pressed) v)[sourceIndex (.estop x)] =
      if pressed[x] then
        { v[sourceIndex (.estop x)] with
          latched := true
          rank := latchesIn v + 1 + (l.filter fun y => decide (y < x) && pressed[y]).length
          time := 0, count := 1, reported := false, detail := x.val }
      else v[sourceIndex (.estop x)] := by
  induction l generalizing v with
  | nil => cases hx
  | cons y l ih =>
    obtain ⟨hlt, hsorted⟩ := List.pairwise_cons.mp hsorted
    rw [List.foldl_cons]
    obtain rfl | hxl := List.mem_cons.mp hx
    · have hnone : (l.filter fun z => decide (z < x) && pressed[z]) = [] := by
        rw [List.filter_eq_nil_iff]
        intro z hz
        have := hlt z hz
        simp only [Bool.and_eq_true, decide_eq_true_eq, not_and]
        intro h
        omega
      rw [pressRecords_other pressed l _ _ fun z hz h => by
        rw [← estop_injective _ _ h] at hz
        exact absurd (hlt x hz) (lt_irrefl x)]
      rw [List.filter_cons_of_neg (by simp), hnone]
      unfold pressRecord
      split
      · rw [latchRecord, upd_same]
        rfl
      · rfl
    · have hyx := hlt x hxl
      have hne : sourceIndex (.estop x) ≠ sourceIndex (.estop y) := fun h => by
        rw [estop_injective _ _ h] at hyx
        exact absurd hyx (lt_irrefl _)
      have hclear' : ∀ z ∈ l, (pressRecord pressed v y)[sourceIndex (.estop z)].latched = false := by
        intro z hz
        rw [pressRecord_other _ _ _ _ fun h => ?_]
        · exact hclear z (List.mem_cons_of_mem _ hz)
        · have := hlt z hz
          rw [estop_injective _ _ h] at this
          exact absurd this (lt_irrefl _)
      rw [ih _ hsorted hclear' hxl, pressRecord_other _ _ _ _ hne]
      have hcount : latchesIn (pressRecord pressed v y) =
          latchesIn v + if pressed[y] then 1 else 0 := by
        unfold pressRecord
        split
        · exact latchesIn_latchRecord _ _ _ v (hclear y List.mem_cons_self)
        · rfl
      rw [hcount]
      cases hp : pressed[y] with
      | true =>
        rw [List.filter_cons_of_pos (by simp [hyx, hp, -Fin.getElem_fin]), List.length_cons]
        simp only [if_true]
        congr 2
        omega
      | false =>
        rw [List.filter_cons_of_neg (by simp [hp, -Fin.getElem_fin])]
        rfl

theorem resetRecords_line (d : Nat) (pressed : Vector Bool 8) (x : Fin 8) :
    (resetRecords d pressed)[sourceIndex (.estop x)] =
      if pressed[x] then
        { latched := true, cls := .emergency, affected := 0b11111,
          rank := 2 + (allLines.filter fun y => decide (y < x) && pressed[y]).length,
          time := 0, count := 1, reported := false, detail := x.val }
      else clearRecord .emergency 0b11111 := by
  have hone : latchesIn (latchRecord 31 0 d tripDefaults) = 1 :=
    latchesIn_latchRecord 31 0 d tripDefaults rfl
  rw [resetRecords, pressRecords_line pressed allLines _ (by decide)
    (fun y _ => by rw [powerUp_lines]; rfl) x (mem_allLines x), powerUp_lines, hone]
  rfl

theorem resetRecords_other (d : Nat) (pressed : Vector Bool 8) (k : Source) (hk : 8 ≤ k.val) :
    (resetRecords d pressed)[k] = (latchRecord 31 0 d tripDefaults)[k] := by
  refine pressRecords_other pressed allLines _ k fun x _ h => ?_
  have := congrArg Fin.val h
  simp only [sourceIndex] at this
  omega

theorem resetRecords_powerUp (d : Nat) (pressed : Vector Bool 8) :
    (resetRecords d pressed)[(31 : Source)] = { powerUpRecord with detail := d } := by
  rw [resetRecords_other d pressed 31 (by decide), latchRecord, upd_same]
  rfl

theorem resetRecords_default (d : Nat) (pressed : Vector Bool 8) (k : Source) (hk : 8 ≤ k.val)
    (hk' : k.val < 31) : (resetRecords d pressed)[k] = tripDefaults[k] := by
  rw [resetRecords_other d pressed k hk, latchRecord, upd_other]
  intro h
  rw [h] at hk'
  exact absurd hk' (by decide)

end Sys2Proof.Machine
end


section
/-! The statements about reset and power (O2 to O5). -/

open Sys2Proof Sys2Proof.Machine

theorem resetState_powerUp (d : Nat) (s : State) :
    (resetState d s).trips.records[(31 : Source)] = { powerUpRecord with detail := d } :=
  resetRecords_powerUp d s.trips.pressed

/-- Settles O2: the reset in closed form, its trip records line by line. -/
theorem resetReleasedLeavesResetValues : Obligations.ResetReleasedLeavesResetValues := by
  unfold Obligations.ResetReleasedLeavesResetValues
  intro s hp
  have hexec : exec .resetReleased s = .next (afterReset 0 s) := if_pos hp
  refine ⟨_, hexec, ?_⟩
  rw [afterReset_eq]
  refine ⟨rfl, rfl, rfl, rfl, rfl, ⟨rfl, rfl, rfl⟩, ?_, ⟨rfl, rfl, rfl, rfl, rfl⟩, ?_, ⟨rfl, rfl, ?_, ?_⟩, ?_,
    ?_, ?_, ⟨rfl, rfl, rfl⟩, ⟨rfl, rfl⟩, resetRecords_powerUp 0 _, resetRecords_line 0 _,
    resetRecords_default 0 _, rfl, rfl, rfl, rfl, rfl, rfl, ?_, ?_, rfl, ?_, ?_⟩
  · simp [resetState, unitsReset]
  · simp [resetState, unitsReset]
  · simp [resetState, unitsReset, storeReset]
  · simp [resetState, unitsReset, storeReset]
  · simp [resetState, unitsReset]
  · simp [resetState, unitsReset]
  · simp [resetState, unitsReset]
  · simp [resetState, unitsReset, tripsReset]
  · simp [resetState, unitsReset, tripsReset]
  · rw [mstop_running _ rfl, emergencyStanding_iff]
    exact .inl ⟨31, by rw [resetState_powerUp]; exact ⟨rfl, rfl⟩⟩
  · rw [attn_running_iff _ rfl]
    exact .inr ⟨31, by rw [resetState_powerUp]; exact ⟨rfl, rfl⟩⟩

/-- The reset after a Restart differs from that of the RESET line in the detail of POWER_UP (R196). -/
theorem afterReset_detail (d : Nat) (s : State) : afterReset d s =
    (afterReset 0 s).onTrips fun t => { t with records := upd t.records 31 fun r => { r with detail := d } } := by
  have records : resetRecords d s.trips.pressed =
      upd (resetRecords 0 s.trips.pressed) 31 fun r => { r with detail := d } := by
    refine table_ext fun k => ?_
    rw [upd_at]
    split
    · subst_vars
      rw [resetRecords_powerUp, resetRecords_powerUp]
    · rename_i hk
      by_cases hline : k.val < 8
      · have hx : k = sourceIndex (.estop ⟨k.val, hline⟩) := rfl
        rw [hx, resetRecords_line, resetRecords_line]
      · have hlt : k.val < 31 := by
          have := k.isLt
          have : k.val ≠ 31 := fun h => hk (Fin.ext h)
          omega
        rw [resetRecords_default d _ k (by omega) hlt, resetRecords_default 0 _ k (by omega) hlt]
  rw [afterReset_eq, afterReset_eq, resetState, records]
  rfl

/-- Settles O3: Restart's request changes nothing, and the end of its reply makes the reset. -/
theorem restartResetsAfterItsReply : Obligations.RestartResetsAfterItsReply := by
  unfold Obligations.RestartResetsAfterItsReply
  refine ⟨fun tag s h => frameOf_unchanged tag .restart .ok [] s h rfl, ?_⟩
  intro s rep tag rest hp hrep hq
  refine ⟨afterReset 0 { s with power := .inReset }, rfl, ?_⟩
  have hend : endReply s = afterReset 1 s := by
    unfold endReply
    rw [hrep, hq]
    exact if_pos rfl
  have hnone : (afterReset 1 s).link.inFlight = none := by simp [afterReset, unitsReset, linkReset]
  calc exec .replySent s = .next (abandonForUrgent (endReply s)) := whileRunning_running _ s hp
    _ = .next (afterReset 1 s) := by rw [hend, abandon_of_none _ hnone]
    _ = _ := by
      rw [afterReset_detail]
      simp only [afterReset_eq, resetState]

/-- Settles O4: a held part drives nothing and takes no command but those of the levels. -/
theorem heldPartAssertsMstopAndIgnores : Obligations.HeldPartAssertsMstopAndIgnores := by
  unfold Obligations.HeldPartAssertsMstopAndIgnores
  refine ⟨fun s => ⟨_, rfl, rfl, rfl, rfl, rfl, rfl, rfl⟩, fun s => ⟨_, rfl, rfl, rfl, rfl, rfl, rfl⟩, ?_⟩
  intro c s hp hasserted hreleased hloss hfreed hline hnode
  have held : ∀ f, whileRunning f s = .next s := fun f => whileRunning_held f s hp
  cases c with
  | resetAsserted => exact absurd rfl hasserted
  | resetReleased => exact absurd rfl hreleased
  | powerLoss => exact absurd rfl hloss
  | holdReleased => exact absurd rfl hfreed
  | estopLineChange x low => exact absurd rfl (hline x low)
  | nodeWinsArbitration u a => exact absurd rfl (hnode u a)
  | badFrameCode tag code payload =>
    change execBadFrameCode tag code payload s = .next s
    unfold execBadFrameCode
    split
    · exact held _
    · rfl
  | timeBaseTick => exact held LineEvent.tick.run
  | _ => exact held _

end


section
/-! The statement about the laws right after reset (O5). -/

open Sys2Proof Sys2Proof.Machine

/-- Settles O5: nothing is in flight, latched but POWER_UP, configured or tracked after a reset. -/
theorem lawsHoldAfterReset : Obligations.LawsHoldAfterReset := by
  unfold Obligations.LawsHoldAfterReset
  refine ⟨?bounded, ?host, settled_of_none _ rfl, ?link, ?roles, ?ranks, ?pressed, ?stops, ?stands, ?demands,
    ?run, ?bites, ?products⟩
  case bounded => constructor <;> decide +kernel
  case host => exact ⟨fun _ => rfl, fun _ => by decide +kernel⟩
  case link => exact linkSound_without rfl rfl nofun nofun nofun
  case roles => exact rolesUnique_of_nodes rfl (rolesUnique_unitsReset 0 (Vector.replicate 8 false) false [])
  case ranks => constructor <;> decide +kernel
  case pressed =>
    have released : ∀ x : Fin 8, State.reset.trips.pressed[x] = false := by decide
    intro _ x hx
    rw [released x] at hx
    cases hx
  case stops => exact ⟨fun _ => rfl, by decide +kernel, nofun, by decide +kernel⟩
  case stands =>
    have opened : ∀ i : Stand, State.reset.actuators[i] = actuatorReset := by decide
    rw [standsSound_iff]
    intro i
    rw [opened i]
    exact ⟨nofun, fun _ => .inr (.inl rfl)⟩
  case demands =>
    have unconfigured : ∀ i : Stand, ¬ State.reset.stands[i].configured = true := by decide
    exact ⟨fun i h => absurd h (unconfigured i), fun i h => absurd h (unconfigured i),
      fun i h => absurd h (unconfigured i), fun i _ h => absurd h (unconfigured i)⟩
  case run => exact ⟨fun _ => ⟨rfl, rfl, rfl, rfl, by decide⟩, fun h => absurd rfl h, Nat.zero_le _, nofun⟩
  case bites => exact ⟨List.Pairwise.nil, nofun, nofun, nofun, nofun⟩
  case products =>
    have none : ∀ i : Stand, State.reset.store.active[i] = none := by decide
    rw [productsHeld_iff]
    refine ⟨nofun, nofun, nofun, nofun, fun i p h => ?_, nofun⟩
    rw [none i] at h
    cases h

end


section
/-! SUPPORT. The fields of a payload read back (R199, R203). -/

namespace Sys2Proof.Machine

section
variable (r : List Byte) (o w : Nat)

/-- A field past the first bytes of a payload. -/
theorem field_past_be (n v : Nat) (h : n ≤ o) : field (be n v ++ r) o w = field r (o - n) w := by
  obtain ⟨k, rfl⟩ := Nat.exists_eq_add_of_le h
  have := field_skip (be n v) r k w
  rw [be_length] at this
  rw [this, Nat.add_sub_cancel_left]

theorem field_past_cons (b : Byte) (h : 0 < o) : field (b :: r) o w = field r (o - 1) w := by
  obtain ⟨k, rfl⟩ := Nat.exists_eq_add_of_le h
  rw [Nat.add_sub_cancel_left, Nat.add_comm]
  rfl

theorem field_here (v : Nat) : field (be w v ++ r) 0 w = v % 256 ^ w := by
  have := field_head (be w v) r
  rwa [be_length, natOf_be] at this

theorem field_here_cons (b : Byte) : field (b :: r) 0 1 = b.toNat := by
  simp [field, natOf]

/-- A last field, with nothing behind it. -/
theorem field_last (v : Nat) : field (be w v) 0 w = v % 256 ^ w := by
  have := field_here [] w v
  rwa [List.append_nil] at this
end

/-- A number that fits its bit vector is read back from its bytes. -/
theorem ofNat_toNat_mod (n k : Nat) (v : BitVec n) (h : 2 ^ n = k) : BitVec.ofNat n (v.toNat % k) = v := by
  subst h
  rw [Nat.mod_eq_of_lt v.isLt, BitVec.ofNat_toNat, BitVec.setWidth_eq]

/-- A payload of the length its code fixes parses to the request it spells (R187, R203). -/
theorem parseRequest_of_length (code : Byte) (p : List Byte) (h : payloadLength code = some p.length) :
    parseRequest code p = requestOf code p := by
  rw [parseRequest, h]
  exact if_pos rfl

theorem requestPayload_length (r : Request) (hr : ∀ code reason, r ≠ .bad code reason) :
    payloadLength (requestCode r) = some (requestPayload r).length := by
  cases r with
  | bad c reason => exact absurd rfl (hr c reason)
  | configureMill m => simp [requestCode, payloadLength, requestPayload, millBytes]
  | configureStand m => simp [requestCode, payloadLength, requestPayload, standBytes]
  | loadProduct m => simp [requestCode, payloadLength, requestPayload, productBytes, setupBytes]
  | _ => simp [requestCode, payloadLength, requestPayload]

/-- Each field of a payload is read back where the request wrote it. -/
theorem requestOf_payload (r : Request) (hr : ∀ code reason, r ≠ .bad code reason) :
    requestOf (requestCode r) (requestPayload r) = r := by
  have word : ∀ v : BitVec 32, BitVec.ofNat 32 (v.toNat % 256 ^ 4) = v := fun v =>
    ofNat_toNat_mod 32 _ v rfl
  have half : ∀ v : BitVec 16, BitVec.ofNat 16 (v.toNat % 256 ^ 2) = v := fun v =>
    ofNat_toNat_mod 16 _ v rfl
  have long : ∀ v : BitVec 48, BitVec.ofNat 48 (v.toNat % 256 ^ 6) = v := fun v =>
    ofNat_toNat_mod 48 _ v rfl
  cases r with
  | bad c reason => exact absurd rfl (hr c reason)
  | _ =>
    simp [requestCode, requestOf, requestPayload, millOf, millBytes, standOf, standBytes, gaugeOf, productOf,
      productBytes, setupOf, setupBytes, u8, u16, u32, u48, field_past_be, field_past_cons, field_here,
      field_here_cons, field_last, -Nat.reducePow, word, half, long]

end Sys2Proof.Machine
end

section
/-! The statement about payloads (O17). -/

open Sys2Proof Sys2Proof.Machine

/-- Settles O17: the length of each payload is the one its code fixes, and its fields are read back. -/
theorem requestPayloadParsesBack : Obligations.RequestPayloadParsesBack := by
  unfold Obligations.RequestPayloadParsesBack
  intro r hr
  have hlen := requestPayload_length r hr
  exact ⟨(parseRequest_of_length _ _ hlen).trans (requestOf_payload r hr), hlen⟩

end


section
/-! SUPPORT. The frame assembler over a whole frame (R182 to R184): the escapes are undone byte by byte, the
contents gather until the count the fourth byte fixes, and the last byte judges them. -/

namespace Sys2Proof.Machine

/-- The assembler holds the contents `bs` of a frame under reception. -/
def holding (bs : List Byte) (s : State) : State :=
  s.onHost fun h => { h with asm := .receiving, content := bs }

/-- The start byte begins a frame from any state of the assembler (R183). -/
theorem assemble_start (s : State) : assemble 0xC3 true s = holding [] s := by
  unfold assemble
  cases s.host.asm <;> rfl

/-- The escape byte leaves the contents as they are (R183). -/
theorem assemble_escape (bs : List Byte) (s : State) :
    assemble 0x9D true (holding bs s) = s.onHost fun h => { h with asm := .escaped, content := bs } := rfl

theorem assemble_plain (b : Byte) (bs : List Byte) (s : State) (h1 : b ≠ 0xC3) (h2 : b ≠ 0x9D) :
    assemble b true (holding bs s) = addContent b (holding bs s) := by
  change (if b = 0xC3 then _ else if b = 0x9D then _ else _) = _
  rw [if_neg h1, if_neg h2]

/-- The second byte of an escape spells the byte escaped (R182, R183). -/
theorem assemble_unescape (b : Byte) (bs : List Byte) (s : State) (h : b = 0xC3 ∨ b = 0x9D) :
    assemble (b ^^^ 0x5A) true (s.onHost fun h => { h with asm := .escaped, content := bs }) =
      addContent b (holding bs s) := by
  obtain rfl | rfl := h <;> rfl

/-! ### Where the contents are complete -/

/-- The contents of a frame of a header and payload, with two bytes of check (R202). -/
def contentsOf (kind tag code : Byte) (payload : List Byte) (crc : BitVec 16) : List Byte :=
  [kind, tag, code, BitVec.ofNat 8 payload.length] ++ payload ++ be 2 crc.toNat

section
variable (kind tag code : Byte) (payload : List Byte) (crc : BitVec 16)

theorem contentsOf_length :
    (contentsOf kind tag code payload crc).length = 4 + payload.length + 2 := by
  simp [contentsOf]
  omega

theorem contentsOf_three :
    (contentsOf kind tag code payload crc)[3]? = some (BitVec.ofNat 8 payload.length) := by
  simp [contentsOf]

/-- The length byte is the field that the assembler reads (R184). -/
theorem field_three (bs : List Byte) (x : Byte) (h : bs[3]? = some x) : field bs 3 1 = x.toNat := by
  obtain ⟨hlt, hx⟩ := List.getElem?_eq_some_iff.mp h
  rw [field, List.drop_eq_getElem_cons hlt, hx]
  simp [natOf]

theorem lengthByte_toNat (h : payload.length ≤ 240) :
    (BitVec.ofNat 8 payload.length : Byte).toNat = payload.length := by
  rw [BitVec.toNat_ofNat]
  exact Nat.mod_eq_of_lt (by omega)

variable {payload}

/-- Within a frame of at most 240 payload bytes each content byte but the last is only added. -/
theorem addContent_open (hlen : payload.length ≤ 240) (p q : List Byte) (b : Byte) (s : State)
    (hq : q ≠ []) (hcs : p ++ b :: q = contentsOf kind tag code payload crc) :
    addContent b (holding p s) = holding (p ++ [b]) s := by
  have htotal := contentsOf_length kind tag code payload crc
  have hpos : 0 < q.length := List.length_pos_iff.mpr hq
  have hlength := congrArg List.length hcs
  simp only [List.length_append, List.length_cons, htotal] at hlength
  have three : 4 ≤ (p ++ [b]).length → (p ++ [b])[3]? = some (BitVec.ofNat 8 payload.length) := by
    intro h
    rw [← contentsOf_three kind tag code payload crc, ← hcs, List.append_cons p b q]
    exact (List.getElem?_append_left (by omega)).symm
  unfold addContent
  dsimp only [holding, State.onHost]
  rw [if_neg, if_neg]
  · rintro ⟨h4, hdone⟩
    rw [field_three _ _ (three h4), lengthByte_toNat payload hlen] at hdone
    simp only [List.length_append, List.length_singleton] at hdone
    omega
  · rintro ⟨h4, hbig⟩
    have h3 := three (by omega)
    have hp : p.length = 3 := by simpa using h4
    rw [List.getElem?_append_right (by omega), hp] at h3
    simp only [Nat.sub_self, List.getElem?_cons_zero, Option.some.injEq] at h3
    rw [h3, lengthByte_toNat payload hlen] at hbig
    omega

/-- The last content byte makes the frame complete, and it is judged (R184). -/
theorem addContent_last (hlen : payload.length ≤ 240) (p : List Byte) (b : Byte) (s : State)
    (hcs : p ++ [b] = contentsOf kind tag code payload crc) :
    addContent b (holding p s) = judge (contentsOf kind tag code payload crc) s := by
  have htotal := contentsOf_length kind tag code payload crc
  have h3 := contentsOf_three kind tag code payload crc
  unfold addContent
  dsimp only [holding, State.onHost]
  rw [hcs, if_neg (by omega), if_pos]
  · rfl
  · rw [field_three _ _ h3, lengthByte_toNat payload hlen]
    omega

/-! ### A frame whole -/

theorem assembleAll_append (as bs : List Byte) (s : State) :
    assembleAll (as ++ bs) s = assembleAll bs (assembleAll as s) := List.foldl_append

theorem assembleAll_escapeByte (b : Byte) (bs : List Byte) (s : State) :
    assembleAll (escapeByte b) (holding bs s) = addContent b (holding bs s) := by
  unfold escapeByte
  split
  · rename_i h
    change assemble (b ^^^ 0x5A) true (assemble 0x9D true (holding bs s)) = _
    rw [assemble_escape, assemble_unescape b bs s h]
  · rename_i h
    rw [not_or] at h
    exact assemble_plain b bs s h.1 h.2

theorem assembleAll_contents (hlen : payload.length ≤ 240) (p q : List Byte) (s : State) (hq : q ≠ [])
    (hcs : p ++ q = contentsOf kind tag code payload crc) :
    assembleAll (q.flatMap escapeByte) (holding p s) =
      judge (contentsOf kind tag code payload crc) s := by
  induction q generalizing p with
  | nil => exact absurd rfl hq
  | cons b q ih =>
    rw [List.flatMap_cons, assembleAll_append, assembleAll_escapeByte]
    cases q with
    | nil => exact addContent_last kind tag code crc hlen p b s hcs
    | cons c q =>
      rw [addContent_open kind tag code crc hlen p (c :: q) b s (by simp) hcs]
      exact ih (p ++ [b]) (by simp) (by rw [← hcs]; simp)

theorem assembleAll_frame (hlen : payload.length ≤ 240) (s : State) :
    assembleAll (0xC3 :: (contentsOf kind tag code payload crc).flatMap escapeByte) s =
      judge (contentsOf kind tag code payload crc) s := by
  change assembleAll _ (assemble 0xC3 true s) = _
  rw [assemble_start]
  exact assembleAll_contents kind tag code crc hlen [] _ s (by simp [contentsOf]) rfl

/-! ### The judgement of a complete frame (R184) -/

/-- The bytes over which a frame's CRC is formed (R202). -/
def headOf (kind tag code : Byte) (payload : List Byte) : List Byte :=
  [kind, tag, code, BitVec.ofNat 8 payload.length] ++ payload

theorem contentsOf_split : (contentsOf kind tag code payload crc).take
      ((contentsOf kind tag code payload crc).length - 2) = headOf kind tag code payload ∧
    (contentsOf kind tag code payload crc).drop
      ((contentsOf kind tag code payload crc).length - 2) = be 2 crc.toNat := by
  have hlen : (contentsOf kind tag code payload crc).length - 2 = (headOf kind tag code payload).length := by
    rw [contentsOf_length]
    simp [headOf]
    omega
  rw [hlen]
  exact ⟨List.take_left, List.drop_left⟩

theorem be_two_injective (x y : BitVec 16) (h : be 2 x.toNat = be 2 y.toNat) : x = y := by
  have hn := congrArg natOf h
  rw [natOf_be, natOf_be] at hn
  have hx := Nat.mod_eq_of_lt x.isLt
  have hy := Nat.mod_eq_of_lt y.isLt
  exact BitVec.eq_of_toNat_eq (by omega)

theorem judge_badCrc (s : State) (h : crc ≠ crc16 (headOf kind tag code payload)) :
    judge (contentsOf kind tag code payload crc) s = crcDrop s := by
  obtain ⟨htake, hdrop⟩ := contentsOf_split kind tag code (payload := payload) crc
  unfold judge
  dsimp only
  rw [htake, hdrop]
  exact if_pos fun e => h (be_two_injective _ _ e).symm

theorem judge_goodCrc (s : State) (h : crc = crc16 (headOf kind tag code payload)) :
    judge (contentsOf kind tag code payload crc) s =
      if kind = 0x01 then submit tag (parseRequest code payload) s else formatDrop s := by
  obtain ⟨htake, hdrop⟩ := contentsOf_split kind tag code (payload := payload) crc
  unfold judge
  dsimp only
  rw [htake, hdrop, ← h]
  exact if_neg fun e => e rfl
end

end Sys2Proof.Machine
end


section
/-! SUPPORT. A run of the part over the bytes of a frame (R186, log entries 1 and 2). -/

namespace Sys2Proof.Machine

/-- The commands of a run of good bytes on the host line. -/
def byteCommands (bs : List Byte) : List Instr := bs.map fun b => .hostByteReceived b true

/-- A run of the part by a number of commands. -/
def ran (n : Nat) (s : State) : Outcome := Host.Core.run Sys2Proof.core n s

theorem core_run_succ (M : Host.Core) (n : Nat) (s t : M.State) (h : M.step s = .next t) :
    M.run (n + 1) s = M.run n t := by
  rw [Host.Core.run, h]

theorem ran_succ (n : Nat) (s t : State) (h : step s = .next t) : ran (n + 1) s = ran n t :=
  core_run_succ Sys2Proof.core n s t h

/-- A run over good bytes: each is taken, with what it sets going, before the next. -/
theorem run_byte (b : Byte) (bs : List Byte) (s : State) (hp : s.power = .running) :
    ran (b :: bs).length (s.withPending (byteCommands (b :: bs))) =
      ran bs.length (abandonForUrgent (assemble b true (s.withPending (byteCommands bs)))) :=
  ran_succ _ _ _ (whileRunning_running _ _ hp)

/-- The assembler's own fields leave a settled state settled. -/
theorem abandon_assembling (a : AsmState) (bs : List Byte) (s : State) (h : Settled s) :
    abandonForUrgent (s.onHost fun p => { p with asm := a, content := bs }) =
      s.onHost fun p => { p with asm := a, content := bs } :=
  abandon_of_settled _ ((settled_congr s _ rfl rfl rfl fun _ => rfl).mpr h)

theorem settled_withPending (s : State) (q : List Instr) (h : Settled s) : Settled (s.withPending q) :=
  (settled_congr s _ rfl rfl rfl fun _ => rfl).mpr h

section
variable (s : State) (hs : Running s)
include hs

/-- A run over one content byte as it is sent, escaped or not. -/
theorem run_escapeByte (b : Byte) (p rest : List Byte) :
    ran (escapeByte b ++ rest).length
      ((holding p s).withPending (byteCommands (escapeByte b ++ rest))) =
    ran rest.length
      (abandonForUrgent (addContent b (holding p (s.withPending (byteCommands rest))))) := by
  unfold escapeByte
  split
  · rename_i h
    rw [List.cons_append, run_byte _ _ (holding p s) hs.runs]
    have esc : abandonForUrgent (assemble 0x9D true
          ((holding p s).withPending (byteCommands ([b ^^^ 0x5A] ++ rest)))) =
        (s.onHost fun h => { h with asm := .escaped, content := p }).withPending
          (byteCommands ([b ^^^ 0x5A] ++ rest)) :=
      abandon_assembling .escaped p (s.withPending (byteCommands ([b ^^^ 0x5A] ++ rest)))
        (settled_withPending s _ hs.settled)
    rw [esc, List.cons_append, List.nil_append,
      run_byte _ _ (s.onHost fun h => { h with asm := .escaped, content := p }) hs.runs]
    exact congrArg (fun u => ran rest.length (abandonForUrgent u))
      (assemble_unescape b p (s.withPending (byteCommands rest)) h)
  · rename_i h
    rw [not_or] at h
    rw [List.cons_append, List.nil_append, run_byte _ _ (holding p s) hs.runs]
    exact congrArg (fun u => ran rest.length (abandonForUrgent u))
      (assemble_plain b p (s.withPending (byteCommands rest)) h.1 h.2)

/-- A run over the rest of a frame's contents ends with the judgement of the frame. -/
theorem run_contents (kind tag code : Byte) (payload : List Byte) (crc : BitVec 16)
    (hlen : payload.length ≤ 240) (p q : List Byte) (hq : q ≠ [])
    (hcs : p ++ q = contentsOf kind tag code payload crc) :
    ran (q.flatMap escapeByte).length
      ((holding p s).withPending (byteCommands (q.flatMap escapeByte))) =
    .next (abandonForUrgent (judge (contentsOf kind tag code payload crc) (s.withPending []))) := by
  induction q generalizing p with
  | nil => exact absurd rfl hq
  | cons b q ih =>
    rw [List.flatMap_cons, run_escapeByte s hs]
    cases q with
    | nil =>
      rw [addContent_last kind tag code crc hlen p b _ hcs]
      rfl
    | cons c q =>
      rw [addContent_open kind tag code crc hlen p (c :: q) b _ (by simp) hcs]
      rw [holding, abandon_assembling _ _ _ (settled_withPending s _ hs.settled)]
      exact ih (p ++ [b]) (by simp) (by rw [← hcs]; simp)

theorem run_frame (kind tag code : Byte) (payload : List Byte) (crc : BitVec 16)
    (hlen : payload.length ≤ 240) :
    ran
      (0xC3 :: (contentsOf kind tag code payload crc).flatMap escapeByte).length
      (s.withPending (byteCommands (0xC3 :: (contentsOf kind tag code payload crc).flatMap escapeByte))) =
    .next (abandonForUrgent (judge (contentsOf kind tag code payload crc) (s.withPending []))) := by
  rw [run_byte _ _ _ hs.runs, assemble_start, holding,
    abandon_assembling _ _ _ (settled_withPending s _ hs.settled)]
  exact run_contents s hs kind tag code payload crc hlen [] _ (by simp [contentsOf]) rfl
end

/-- A command that stands for a frame takes that frame (log entry 2). -/
theorem exec_asFrame (c : Instr) (f : Frame) (s : State) (h : asFrame c = some f) :
    exec c s = frameOf f.tag f.request s := by
  cases c with
  | badFrameCode tag code payload =>
    change execBadFrameCode tag code payload s = _
    revert h
    unfold asFrame execBadFrameCode
    dsimp only
    generalize decide (payload.length ≤ 240) = fits
    generalize parseRequest code payload = r
    intro h
    cases fits with
    | false => cases h
    | true =>
      cases r with
      | bad c reason =>
        cases h
        rfl
      | _ => cases h
  | _ => cases h <;> rfl

end Sys2Proof.Machine
end

section
/-! The statement about the bytes of a request (O18). -/

open Sys2Proof Sys2Proof.Machine

/-- Settles O18: the run over the frame's bytes ends with its judgement, which takes the request. -/
theorem requestBytesAreItsCommand : Obligations.RequestBytesAreItsCommand := by
  unfold Obligations.RequestBytesAreItsCommand
  intro c tag r s hc hr hs
  have hfit : (requestPayload r).length ≤ 240 := by
    cases r with
    | configureMill m => simp [requestPayload, millBytes]
    | configureStand m => simp [requestPayload, standBytes]
    | loadProduct m => simp [requestPayload, productBytes, setupBytes]
    | _ => simp [requestPayload]
  have hrun := run_frame s hs 0x01 tag (requestCode r) (requestPayload r)
    (crc16 (headOf 0x01 tag (requestCode r) (requestPayload r))) hfit
  refine hrun.trans ?_
  rw [judge_goodCrc _ _ _ _ _ rfl, if_pos rfl,
    parseRequest_of_length _ _ (requestPayload_length r hr), requestOf_payload r hr,
    exec_asFrame c _ _ hc]
  exact (whileRunning_running (submit tag r) (s.withPending []) hs.runs).symm

end


section
/-! The statement about the frame assembler (O19). -/

open Sys2Proof Sys2Proof.Machine

namespace Sys2Proof.Machine

/-- A byte of the host line that a running, settled part only assembles. -/
theorem byte_assembles (b : Byte) (stop : Bool) (f : HostPort → HostPort) (s : State) (h : Running s)
    (he : assemble b stop s = s.onHost f) :
    exec (.hostByteReceived b stop) s = .next (s.onHost f) := by
  have hset : Settled (s.onHost f) := (settled_congr s _ rfl rfl rfl fun _ => rfl).mpr h.settled
  calc exec (.hostByteReceived b stop) s
    _ = .next (abandonForUrgent (assemble b stop s)) := whileRunning_running _ s h.runs
    _ = .next (s.onHost f) := by rw [he, abandon_of_settled _ hset]

/-- A byte that the assembler ignores. -/
theorem byte_ignored (b : Byte) (stop : Bool) (s : State) (h : Running s) (he : assemble b stop s = s) :
    exec (.hostByteReceived b stop) s = .next s := byte_assembles b stop id s h he

/-- A content byte short of the length byte is only added. -/
theorem addContent_early (b : Byte) (s : State) (h : s.host.content.length < 3) :
    addContent b s = s.onHost fun p => { p with asm := .receiving, content := p.content ++ [b] } := by
  unfold addContent
  dsimp only
  rw [if_neg (by simp; omega), if_neg (by simp; omega)]
  rfl

/-- A length byte above 240 drops the frame (R184). -/
theorem addContent_long (b : Byte) (s : State) (h : s.host.content.length = 3) (hb : 240 < b.toNat) :
    addContent b s = formatDrop s := by
  unfold addContent
  dsimp only
  exact if_pos ⟨by simp [h], hb⟩

theorem assemble_receiving (b : Byte) (s : State) (ha : s.host.asm = .receiving) (h1 : b ≠ 0xC3)
    (h2 : b ≠ 0x9D) : assemble b true s = addContent b s := by
  unfold assemble
  rw [ha]
  change (if b = 0xC3 then _ else if b = 0x9D then _ else _) = _
  rw [if_neg h1, if_neg h2]

theorem onHost_receiving (f : List Byte → List Byte) (s : State) (ha : s.host.asm = .receiving) :
    (s.onHost fun p => { p with asm := .receiving, content := f p.content }) =
      s.onHost fun p => { p with content := f p.content } := by
  simp only [State.onHost, ← ha]

end Sys2Proof.Machine

/-- Settles O19: a whole frame by its judgement, and one byte by the assembler's state. -/
theorem assemblerTransitions : Obligations.AssemblerTransitions := by
  unfold Obligations.AssemblerTransitions
  refine ⟨fun kind tag code payload crc s hlen => ?frames, fun b s h => ⟨?start, ?other, ?noise, ?escape, ?cut,
    ?badEscape, ?long, ?early, ?unescape⟩⟩
  case frames =>
    have hline := assembleAll_frame kind tag code crc hlen s
    refine ⟨fun hcrc => ?_, fun hcrc hkind => ?_⟩
    · exact hline.trans (judge_badCrc kind tag code crc s hcrc)
    · refine hline.trans ((judge_goodCrc kind tag code crc s hcrc).trans ?_)
      rw [if_neg hkind]
      rfl
  case start => exact byte_assembles 0xC3 true _ s h (assemble_start s)
  case other =>
    intro ha hb
    refine byte_ignored b true s h ?_
    unfold assemble
    rw [ha]
    exact if_neg (fun hc => hb hc.2)
  case noise =>
    intro ha
    refine byte_ignored b false s h ?_
    unfold assemble
    rw [ha]
    rfl
  case escape =>
    intro ha
    refine byte_assembles 0x9D true _ s h ?_
    unfold assemble
    rw [ha]
    rfl
  case cut =>
    intro ha
    refine byte_assembles b false _ s h ?_
    unfold assemble
    cases hasm : s.host.asm with
    | idle => exact absurd hasm ha
    | receiving => rfl
    | escaped => rfl
  case badEscape =>
    intro ha h1 h2 h3
    refine byte_assembles b true _ s h ?_
    unfold assemble
    rw [ha]
    change (if b = 0xC3 then _ else if b = 0x99 then _ else if b = 0xC7 then _ else _) = _
    rw [if_neg h1, if_neg h2, if_neg h3]
    rfl
  case long =>
    intro ha h1 h2 hlen hb
    refine byte_assembles b true _ s h ?_
    rw [assemble_receiving b s ha h1 h2, addContent_long b s hlen hb]
    rfl
  case early =>
    intro ha h1 h2 hlen
    refine byte_assembles b true _ s h ?_
    rw [assemble_receiving b s ha h1 h2, addContent_early b s hlen]
    exact onHost_receiving (· ++ [b]) s ha
  case unescape =>
    intro ha hlen
    refine ⟨byte_assembles 0x99 true _ s h ?_, byte_assembles 0xC7 true _ s h ?_⟩
    · unfold assemble
      rw [ha]
      exact addContent_early 0xC3 s hlen
    · unfold assemble
      rw [ha]
      exact addContent_early 0x9D s hlen

end


section
/-! SUPPORT. What the host port shows of a request taken, queued or refused (R186 to R189). -/

namespace Sys2Proof.Machine

/-- A request is accepted, or leaves the state as it found it (R189). -/
theorem serve_unchanged (r : Request) (s : State) :
    (serve r s).1 = s ∨ (serve r s).2.code = .ok := by
  cases r with
  | bad c reason => exact .inl rfl
  | restart => exact .inl rfl
  | readGauges => exact .inl rfl
  | clearCoilList => exact .inr rfl
  | tripRequest reason => exact .inr rfl
  | status c => simp only [serve, serveStatus]; (repeat' split) <;> simp [accept, badParam]
  | readEvents b => simp only [serve, serveReadEvents]; (repeat' split) <;> simp [accept, badParam]
  | setAttentionLevel l => simp only [serve, serveAttention]; (repeat' split) <;> simp [accept, badParam]
  | configureMill p =>
    simp only [serve, serveConfigureMill]; (repeat' split) <;> simp [accept, refuse, badParam]
  | configureStand p =>
    simp only [serve, serveConfigureStand]; (repeat' split) <;> simp [accept, refuse, badParam]
  | configureGauge p =>
    simp only [serve, serveConfigureGauge]; (repeat' split) <;> simp [accept, refuse, badParam]
  | startTracking p c => simp only [serve, serveStart]; (repeat' split) <;> simp [accept, refuse, badParam]
  | stopTracking => simp only [serve, serveStop]; (repeat' split) <;> simp [accept, refuse]
  | readCells f c n => simp only [serve, serveReadCells]; (repeat' split) <;> simp [accept, badParam]
  | standardizeGauge p =>
    simp only [serve, serveStandardize]; (repeat' split) <;> simp [accept, refuse, badParam]
  | loadProduct p => simp only [serve, serveLoad]; (repeat' split) <;> simp [accept, refuse, badParam]
  | eraseProduct i => simp only [serve, serveErase]; (repeat' split) <;> simp [accept, refuse, badParam]
  | readProduct v i => simp only [serve, serveReadProduct]; (repeat' split) <;> simp [accept, badParam]
  | appendCoil c p => simp only [serve, serveAppend]; (repeat' split) <;> simp [accept, refuse, badParam]
  | setOffset i o => simp only [serve, serveOffset]; (repeat' split) <;> simp [accept, refuse, badParam]
  | resetTrim n =>
    simp only [serve, serveResetTrim]; (repeat' split) <;> simp [trimEffect, accept, refuse, badParam]
  | engageStand i => simp only [serve, serveEngage]; (repeat' split) <;> simp [accept, refuse, badParam]
  | openStand n => simp only [serve, serveOpen]; (repeat' split) <;> simp [accept, badParam]
  | readStand i => simp only [serve, serveReadStand]; (repeat' split) <;> simp [accept, badParam]
  | configureTrip i c a =>
    simp only [serve, serveConfigureTrip]; (repeat' split) <;> simp [accept, refuse, badParam]
  | clearTrips => simp only [serve, serveClearTrips]; (repeat' split) <;> simp [accept]
  | readTrips v f => simp only [serve, serveReadTrips]; (repeat' split) <;> simp [accept, badParam]
  | resetStandLink => simp only [serve, serveResetLink]; (repeat' split) <;> simp [accept]
  | readNodes c => simp only [serve, serveReadNodes]; (repeat' split) <;> simp [accept, badParam]

theorem resultByte_ok (c : ResultCode) (h : resultByte c ≠ 0) : c ≠ .ok := by
  rintro rfl
  exact h rfl

/-- A frame taken: the state after it, with its reply on the line (R187, R188). -/
theorem takeHead_cons (s : State) (f : Frame) (rest : List Frame) (h : s.host.inputQueue = f :: rest) :
    takeHead s = (abandonForUrgent (serve f.request s).1).onHost fun p =>
      { p with reply := some ⟨f.tag, requestCode f.request, resultByte (serve f.request s).2.code,
                              (serve f.request s).2.payload⟩ } := by
  unfold takeHead
  rw [h]

theorem takeHead_nil (s : State) (h : s.host.inputQueue = []) : takeHead s = s := by
  unfold takeHead
  rw [h]

/-- A request that finds no other in hand: what it leaves, with its reply on the line (R186, R188). -/
theorem frameOf_serve (tag : Byte) (r : Request) (s : State) (h : Ready s) :
    frameOf tag r s =
      .next (finished tag r (serve r (taken tag r s)).2 (serve r (taken tag r s)).1) :=
  frameOf_finished tag r s _ _ h rfl

/-- A request raises no drop count. -/
theorem serve_crcDrops (r : Request) (s : State) : (serve r s).1.host.crcDrops ≤ s.host.crcDrops := by
  cases r with
  | status c =>
    simp only [serve, serveStatus]
    repeat' split
    · exact le_refl _
    · exact Nat.zero_le _
    · exact le_refl _
  | setAttentionLevel l =>
    simp only [serve, serveAttention]
    split <;> exact le_refl _
  | readEvents b => exact le_of_eq (portSame_readEvents b s).crcDrops
  | _ => exact le_of_eq (by simp [serve])

end Sys2Proof.Machine
end

section
/-! The statements about requests queued, answered and refused (O20, O21). -/

open Sys2Proof Sys2Proof.Machine

/-- Settles O20: the input queue by its length, and the end of a reply by what waits behind it. -/
theorem requestQueuedOrAnswered : Obligations.RequestQueuedOrAnswered := by
  unfold Obligations.RequestQueuedOrAnswered
  refine ⟨fun s h => ⟨fun hnone => ?_, fun rep f rest hrep hq hf => ⟨fun hrest => ?_, fun g more hrest => ?_⟩⟩,
    fun c f s hc => ⟨fun h hfull => ?_, fun h hsome hroom => ?_, fun h => ?_⟩⟩
  · have hend : endReply s = s := by
      unfold endReply
      rw [hnone]
    exact (whileRunning_running _ s h.runs).trans (by rw [hend, abandon_of_settled s h.settled])
  · have hend : endReply s = s.onHost fun p => { p with inputQueue := [], reply := none } := by
      unfold endReply
      rw [hrep, hq]
      dsimp only
      rw [if_neg hf, hrest]
      exact takeHead_nil _ rfl
    refine (whileRunning_running _ s h.runs).trans ?_
    rw [hend]
    exact congrArg _ (abandon_of_settled _ ((settled_congr s _ rfl rfl rfl fun _ => rfl).mpr h.settled))
  · have hend : endReply s = takeHead (s.onHost fun p => { p with inputQueue := rest, reply := none }) := by
      unfold endReply
      rw [hrep, hq]
      exact if_neg hf
    rw [takeHead_cons _ g more hrest] at hend
    have hexec : exec .replySent s = .next (abandonForUrgent (endReply s)) :=
      whileRunning_running _ s h.runs
    refine ⟨_, _, hexec, ?_, by rw [hend]; simp only [abandonForUrgent_frame, State.onHost_host]; rfl, rfl,
      rfl⟩
    rw [hend]
    simp [(framesSame_serve g.request _).queue]
  · rw [exec_asFrame c f s hc, frameOf, whileRunning_running _ s h.runs, submit]
    dsimp only
    rw [if_pos hfull]
    exact congrArg _ (abandon_of_settled _ ((settled_congr s _ rfl rfl rfl fun _ => rfl).mpr h.settled))
  · rw [exec_asFrame c f s hc, frameOf, whileRunning_running _ s h.runs, submit]
    dsimp only
    rw [if_neg (by omega), if_neg (by omega)]
    exact congrArg _ (abandon_of_settled _ ((settled_congr s _ rfl rfl rfl fun _ => rfl).mpr h.settled))
  · have hframes := framesSame_serve f.request (taken f.tag f.request s)
    refine ⟨_, _, (exec_asFrame c f s hc).trans (frameOf_serve f.tag f.request s h), ?_,
      finished_reply _ _ _ _, rfl, rfl, ?_, ?_, ?_, ?_⟩
    · simp only [finished, State.onHost_host, abandonForUrgent_frame]
      exact hframes.queue
    · simp only [finished, State.onHost_host, abandonForUrgent_frame]
      exact hframes.asm
    · simp only [finished, State.onHost_host, abandonForUrgent_frame]
      exact hframes.content
    · simp only [finished, State.onHost_host, abandonForUrgent_frame]
      exact serve_crcDrops f.request (taken f.tag f.request s)
    · intro code reason hbad
      have hserve : serve f.request (taken f.tag f.request s) =
          (taken f.tag f.request s, ⟨.badFrameCode, [reason]⟩) := by rw [hbad]; rfl
      have := frameOf_unchanged f.tag f.request .badFrameCode [reason] s h hserve
      rw [frameOf_serve f.tag f.request s h] at this
      exact Host.Outcome.next.inj this

/-- Settles O21: a request that is not accepted leaves the state it was served on. -/
theorem refusedRequestChangesNothing : Obligations.RefusedRequestChangesNothing := by
  unfold Obligations.RefusedRequestChangesNothing
  intro c f s t rep hc h hexec hrep hres
  rw [exec_asFrame c f s hc] at hexec
  have ht := Host.Outcome.next.inj (hexec.symm.trans (frameOf_serve f.tag f.request s h))
  have hreply : rep = ⟨f.tag, requestCode f.request,
      resultByte (serve f.request (taken f.tag f.request s)).2.code,
      (serve f.request (taken f.tag f.request s)).2.payload⟩ := by
    rw [ht, finished_reply] at hrep
    exact (Option.some.inj hrep).symm
  rw [hreply] at hres
  have hsame := (serve_unchanged f.request (taken f.tag f.request s)).resolve_right (resultByte_ok _ hres)
  have hsame' := frameOf_unchanged f.tag f.request _ _ s h (Prod.ext hsame rfl)
  exact ⟨_, _, Host.Outcome.next.inj (hexec.symm.trans hsame')⟩

end


section
/-! SUPPORT. The lengths of the read-outs (R204 to R208). -/

namespace Sys2Proof.Machine

/-- Records of one length, laid one after another. -/
theorem flatMap_length {α : Type} (f : α → List Byte) (n : Nat) (hf : ∀ a, (f a).length = n) (l : List α) :
    (l.flatMap f).length = l.length * n := by
  induction l with
  | nil => simp
  | cons a l ih => simp [hf, ih, Nat.add_mul, Nat.add_comm]

theorem flatMap_length_le {α : Type} (f : α → List Byte) (n : Nat) (hf : ∀ a, (f a).length ≤ n)
    (l : List α) : (l.flatMap f).length ≤ l.length * n := by
  induction l with
  | nil => simp
  | cons a l ih =>
    have := hf a
    simp only [List.flatMap_cons, List.length_append, List.length_cons, Nat.add_mul]
    omega

@[simp] theorem demandBlock_length (s : State) (i : Stand) : (demandBlock s i).length = 11 := by
  simp [demandBlock]

@[simp] theorem workBytes_length (w : Option Work) : (workBytes w).length = 7 := by
  cases w with
  | none => rfl
  | some w => simp only [workBytes, List.length_append, List.length_singleton, be_length, beInt_length]

@[simp] theorem standReadout_length (s : State) (i : Stand) : (standReadout s i).length = 57 := by
  unfold standReadout
  extract_lets r a d node
  simp only [List.length_append, List.length_singleton, be_length, beSat_length, beInt_length,
    workBytes_length]

@[simp] theorem cellsHead_length (s : State) : (cellsHead s).length = 15 := by
  simp [cellsHead]

@[simp] theorem odometerBlock_length (s : State) : (odometerBlock s).length = 68 := by
  have := flatMap_length (beSat 6) 6 (beSat_length 6) s.track.odo.toList
  simp only [odometerBlock, List.length_append, beSat_length, be_length, this, Vector.length_toList]

@[simp] theorem entryBytes_length (n : Option StandEntry) : (entryBytes n).length = 15 := by
  cases n <;> simp [entryBytes]

theorem cellRecord_length (k : Nat) (c : Cell) : (cellRecord k c).length ≤ 27 := by
  cases k <;> simp [cellRecord]

theorem cellsReply_length (s : State) (first count k : Nat) (h : count ≤ 8) :
    (cellsReply s first count k).length ≤ 232 := by
  unfold cellsReply
  split
  · simp
  · have hcells := flatMap_length_le (cellRecord k) 27 (cellRecord_length k) (cellsFrom s first count)
    have hcount : (cellsFrom s first count).length ≤ count := List.length_take_le _ _
    simp only [List.length_append, cellsHead_length, be_length]
    omega

@[simp] theorem gaugeRecordBytes_length (r : GaugeRecord) : (gaugeRecordBytes r).length = 25 := by
  simp [gaugeRecordBytes]

@[simp] theorem gaugesReply_length (s : State) : (gaugesReply s).length = 150 := by
  rw [gaugesReply, flatMap_length _ 25 gaugeRecordBytes_length, Vector.length_toList]

@[simp] theorem productBytesOf_length (e : ProductEntry) : (productBytesOf e).length = 57 := by
  have := flatMap_length (productStandBytes e) 10 (fun i => by simp [productStandBytes]) allStands
  simp only [productBytesOf, List.length_append, be_length, beSat_length, this]
  rfl

@[simp] theorem productEntryReply_length (s : State) (p : Product) :
    (productEntryReply s p).length = 66 := by
  simp [productEntryReply]

theorem productTableReply_length (s : State) (h : s.store.coils.length ≤ 8) :
    (productTableReply s).length ≤ 159 := by
  have entries := flatMap_length (fun p : Product =>
    be 1 (entryStateCode (s.entryState p)) ++ beSat 2 (s.refCount p) ++ be 4 s.store.table[p].code.toNat)
    7 (fun p => by simp) allProducts
  have active := flatMap_length (fun a : Option Product => be 1 (optIndex a)) 1 (fun a => by simp)
    s.store.active.toList
  have coils := flatMap_length (fun c : Coil => be 4 c.id.toNat ++ be 1 c.product.val) 5
    (fun c => by simp) s.store.coils
  have sixteen : allProducts.length = 16 := rfl
  simp only [productTableReply, List.length_append, be_length, entries, active, coils, sixteen,
    Vector.length_toList]
  omega

@[simp] theorem tripSummary_length (s : State) : (tripSummary s).length = 20 := by
  have drive := flatMap_length (fun d : DriveState => be 1 (driveCode d)) 1 (fun d => by simp)
    s.trips.drive.toList
  have low := flatMap_length (beSat 1) 1 (beSat_length 1) s.trips.low.toList
  simp only [tripSummary, List.length_append, be_length, beSat_length, drive, low, Vector.length_toList]

theorem latchedReply_length (s : State) (ks : List Source) (h : ks.length ≤ 12) :
    (latchedReply s ks).length ≤ 201 := by
  have records := flatMap_length (tripRecordBytes s) 15 (fun k => by simp [tripRecordBytes]) ks
  simp only [latchedReply, List.length_append, tripSummary_length, be_length, records]
  omega

@[simp] theorem configReply_length (s : State) : (configReply s).length = 84 := by
  have records := flatMap_length (fun r : TripRecord => be 1 (classCode r.cls) ++ be 1 r.affected.toNat) 2
    (fun r => by simp) s.trips.records.toList
  simp only [configReply, List.length_append, tripSummary_length, records, Vector.length_toList]

@[simp] theorem nodeBytes_length (s : State) (a : Node) : (nodeBytes s a).length = 7 := by
  unfold nodeBytes
  dsimp only
  split <;> simp

@[simp] theorem nodesReply_length (s : State) : (nodesReply s).length = 132 := by
  have nodes := flatMap_length (nodeBytes s) 7 (nodeBytes_length s) allNodes
  have fifteen : allNodes.length = 15 := rfl
  cases h : s.link.lastReset with
  | none => simp only [nodesReply, h, List.length_append, be_length, beSat_length, nodes, fifteen]
  | some t => simp only [nodesReply, h, List.length_append, be_length, beSat_length, nodes, fifteen]

@[simp] theorem statusReply_length (s : State) : (statusReply s).length = 21 := by
  simp [statusReply]

@[simp] theorem eventBytes_length (e : Event) : (eventBytes e).length = 18 := by
  simp [eventBytes]

theorem eventsReply_length (s : State) (n : Nat) (h : n ≤ 10) : (eventsReply s n).length ≤ 183 := by
  have entries := flatMap_length eventBytes 18 eventBytes_length (s.host.events.take n)
  have hn : (s.host.events.take n).length ≤ n := List.length_take_le _ _
  simp only [eventsReply, List.length_append, be_length, entries]
  omega

/-! ### The payload of a reply (R188) -/

theorem badParam_fits (n : Nat) (s : State) : (badParam n s).2.payload.length ≤ 239 := by
  simp [badParam]

theorem refuse_fits (c : ResultCode) (s : State) : (refuse c s).2.payload.length ≤ 239 := by
  simp [refuse]

theorem accept_fits (l : List Byte) (s : State) (h : l.length ≤ 239) :
    (accept l s).2.payload.length ≤ 239 := h

theorem trimEffect_fits (is : List Stand) (s : State) (h : is.length ≤ 5) :
    (trimEffect is s).2.payload.length ≤ 239 := by
  unfold trimEffect
  have blocks := flatMap_length (fun i => be 1 (standNumber i) ++
    demandBlock (is.foldl (fun s i => zeroTrim i s) s) i) 12 (fun i => by simp) is
  refine accept_fits _ _ ?_
  simp only [List.length_append, be_length, blocks]
  omega

/-- Every reply but that to a request of the mill's records, whose replies are empty. -/
theorem serve_fits (r : Request) (s : State) (hcoils : s.store.coils.length ≤ 8) :
    (serve r s).2.payload.length ≤ 239 := by
  cases r with
  | bad c reason => exact Nat.le_of_ble_eq_true rfl
  | restart => exact accept_fits _ _ (by simp)
  | readGauges => exact accept_fits _ _ (by simp)
  | clearCoilList => exact accept_fits _ _ (by simp)
  | tripRequest reason => exact accept_fits _ _ (by simp)
  | status c =>
    simp only [serve, serveStatus]
    repeat' split
    · exact accept_fits _ _ (by simp)
    · exact accept_fits _ _ (by simp)
    · exact badParam_fits _ _
  | readEvents b =>
    simp only [serve, serveReadEvents]
    split
    · rename_i h
      exact accept_fits _ _ ((eventsReply_length s _ h.2).trans (by decide))
    · exact badParam_fits _ _
  | setAttentionLevel l =>
    simp only [serve, serveAttention]
    split
    · exact accept_fits _ _ (by simp)
    · exact badParam_fits _ _
  | configureMill p => simp only [serve, serveConfigureMill]; (repeat' split) <;> simp [accept, refuse, badParam]
  | configureStand p => simp only [serve, serveConfigureStand]; (repeat' split) <;> simp [accept, refuse, badParam]
  | configureGauge p => simp only [serve, serveConfigureGauge]; (repeat' split) <;> simp [accept, refuse, badParam]
  | startTracking p c => simp only [serve, serveStart]; (repeat' split) <;> simp [accept, refuse, badParam]
  | stopTracking => simp only [serve, serveStop]; (repeat' split) <;> simp [accept, refuse]
  | standardizeGauge p => simp only [serve, serveStandardize]; (repeat' split) <;> simp [accept, refuse, badParam]
  | loadProduct p => simp only [serve, serveLoad]; (repeat' split) <;> simp [accept, refuse, badParam]
  | eraseProduct i => simp only [serve, serveErase]; (repeat' split) <;> simp [accept, refuse, badParam]
  | appendCoil c p => simp only [serve, serveAppend]; (repeat' split) <;> simp [accept, refuse, badParam]
  | setOffset i o => simp only [serve, serveOffset]; (repeat' split) <;> simp [accept, refuse, badParam]
  | engageStand i => simp only [serve, serveEngage]; (repeat' split) <;> simp [accept, refuse, badParam]
  | readStand i => simp only [serve, serveReadStand]; (repeat' split) <;> simp [accept, badParam]
  | configureTrip i c a => simp only [serve, serveConfigureTrip]; (repeat' split) <;> simp [accept, refuse, badParam]
  | resetStandLink => simp only [serve, serveResetLink]; (repeat' split) <;> simp [accept]
  | readNodes c => simp only [serve, serveReadNodes]; (repeat' split) <;> simp [accept, badParam]
  | readCells f c n =>
    simp only [serve, serveReadCells]
    split
    · exact badParam_fits _ _
    · rename_i h
      exact accept_fits _ _ ((cellsReply_length s _ _ _ (by omega)).trans (by decide))
  | readProduct v i =>
    simp only [serve, serveReadProduct]
    repeat' split
    · exact badParam_fits _ _
    · exact accept_fits _ _ (by simp)
    · exact accept_fits _ _ ((productTableReply_length s hcoils).trans (by decide))
    · exact badParam_fits _ _
  | resetTrim n =>
    have targets : (trimTargets s).length ≤ 5 := List.length_filter_le _ _
    simp only [serve, serveResetTrim]
    repeat' split
    · exact badParam_fits _ _
    · exact refuse_fits _ _
    · exact trimEffect_fits _ _ targets
    · exact badParam_fits _ _
    · exact refuse_fits _ _
    · exact trimEffect_fits _ _ (by simp)
  | openStand n =>
    simp only [serve, serveOpen]
    split
    · exact badParam_fits _ _
    · split
      · exact accept_fits _ _ (by simp)
      · exact accept_fits _ _ (by simp [allStands])
  | clearTrips =>
    simp only [serve, serveClearTrips]
    split
    · exact accept_fits _ _ (by simp)
    · rename_i hne
      have active : (activeSources s).length ≤ 32 := List.length_filter_le _ _
      have bytes := flatMap_length (fun k : Source => be 1 k.val) 1 (fun k => by simp) (activeSources s)
      simp only [List.length_append, be_length, bytes]
      omega
  | readTrips v f =>
    have records : (recordsFrom s f.toNat).length ≤ 12 :=
      (List.length_filterMap_le _ _).trans (by simp)
    simp only [serve, serveReadTrips]
    repeat' split
    · exact accept_fits _ _ ((latchedReply_length s _ records).trans (by decide))
    · exact badParam_fits _ _
    · exact accept_fits _ _ (by simp)
    · exact badParam_fits _ _

end Sys2Proof.Machine
end

section
/-! The statement about the length of replies (O22). -/

open Sys2Proof Sys2Proof.Machine

/-- Settles O22: the payload served fits, whatever the request. -/
theorem everyReplyFits : Obligations.EveryReplyFits := by
  unfold Obligations.EveryReplyFits
  intro c f s t rep hc h hb hexec hrep
  rw [exec_asFrame c f s hc] at hexec
  have ht := Host.Outcome.next.inj (hexec.symm.trans (frameOf_serve f.tag f.request s h))
  rw [ht, finished_reply] at hrep
  cases hrep
  have := serve_fits f.request (taken f.tag f.request s) hb.coils
  simp only
  omega

end


section
/-! The statement about the read requests (O23). -/

open Sys2Proof Sys2Proof.Machine

/-- Settles O23: each read request by the branches of its rule. -/
theorem readRequestsChangeNothing : Obligations.ReadRequestsChangeNothing := by
  unfold Obligations.ReadRequestsChangeNothing
  intro tag s h
  have unchanged : ∀ (r : Request) (res : ResultCode) (payload : List Byte),
      serve r (taken tag r s) = (taken tag r s, ⟨res, payload⟩) →
      frameOf tag r s = .next (answered tag r res payload s) := fun r res payload =>
    frameOf_unchanged tag r res payload s h
  refine ⟨?_, ?_, fun c hc => ⟨?_, ?_⟩, ?_, ?_, nodesReply_length s, statusReply_length s,
    ⟨unchanged .readGauges _ _ rfl, gaugesReply_length s⟩, fun b i hb => ⟨?_, standReadout_length s i⟩,
    fun b hb => ?_, fun b p hb => ⟨?_, productEntryReply_length s p⟩, fun b => ?_, fun v b hvb => ?_,
    fun f n k => ⟨fun hbad => ?_, fun hn hk => ?_⟩⟩
  · refine unchanged (.status 0) _ _ ?_
    have hm : s.mstop = emergencyStanding s := mstop_running s h.runs
    rw [← hm]
    simp only [serve, serveStatus, if_true, accept, statusReply, be_one, 
      List.append_assoc, List.cons_append]
    rfl
  · exact frameOf_answered tag _ _ _ s _ h
      ((settled_congr s _ rfl rfl rfl fun _ => rfl).mpr h.settled) rfl
  · refine unchanged (.status c) _ _ ?_
    simp only [serve, serveStatus]
    rw [if_neg (by rintro rfl; simp at hc), if_neg (by rintro rfl; simp at hc)]
    rfl
  · refine unchanged (.readNodes c) _ _ ?_
    simp only [serve, serveReadNodes]
    rw [if_neg (by rintro rfl; simp at hc), if_neg (by rintro rfl; simp at hc)]
    rfl
  · exact unchanged (.readNodes 0) _ _ rfl
  · exact frameOf_answered tag _ _ _ s _ h
      ((settled_congr s _ rfl rfl rfl fun _ => rfl).mpr h.settled) rfl
  · refine unchanged (.readStand b) _ _ ?_
    simp only [serve, serveReadStand, standOfNumber_eq_some b i hb]
    rfl
  · refine unchanged (.readStand b) _ _ ?_
    simp only [serve, serveReadStand, standOfNumber_eq_none b hb]
    rfl
  · refine unchanged (.readProduct 0 b) _ _ ?_
    simp only [serve, serveReadProduct, if_true, productOfIndex_eq_some b p hb]
    rfl
  · exact unchanged (.readProduct 1 b) _ _ rfl
  · refine unchanged (.readProduct v b) _ _ ?_
    simp only [serve, serveReadProduct]
    obtain hv | ⟨rfl, hb⟩ := hvb
    · rw [if_neg (by rintro rfl; simp at hv), if_neg (by rintro rfl; simp at hv)]
      rfl
    · rw [if_pos rfl, productOfIndex_eq_none b hb]
      rfl
  · refine unchanged (.readCells f n k) _ _ ?_
    exact if_pos hbad
  · refine unchanged (.readCells f n k) _ _ ?_
    exact if_neg (by rintro (h | h); exacts [absurd h (by omega), absurd hk (Nat.not_le.mpr h)])

end


section
/-! SUPPORT. Events of the lines that leave no urgent work behind (R173), and the escalation in closed form
(R138). -/

namespace Sys2Proof.Machine

/-- An event of a line that leaves a settled state ends with it. -/
theorem line_settled (e : LineEvent) (s t : State) (hp : s.power = .running) (ht : e.run s = t)
    (hset : Settled t) : whileRunning e.run s = .next t := by
  rw [whileRunning_running _ _ hp, ht, abandon_of_settled _ hset]

/-- An event of a line that changes nothing. -/
theorem line_idle (e : LineEvent) (s : State) (h : Running s) (he : e.run s = s) :
    whileRunning e.run s = .next s := line_settled e s s h.runs he h.settled

/-- A change of one stand's fields that puts no GAP_OPEN into its slot. -/
theorem settled_onActuator (i : Stand) (f : Actuator → Actuator) (s : State) (h : Settled s)
    (hf : ∀ w, (f s.actuators[i]).work = some w → w.cmd ≠ .open_) : Settled (s.onActuator i f) := by
  refine settled_mono s _ rfl rfl (fun j hj => ?_) h
  by_cases hji : j = i
  · subst hji
    unfold openFilled at hj
    rw [State.onActuator_actuators, upd_same] at hj
    cases hw : (f s.actuators[j]).work with
    | none =>
      rw [hw] at hj
      cases hj
    | some w =>
      rw [hw] at hj
      simp only [Bool.and_eq_true, decide_eq_true_eq] at hj
      exact absurd hj.1 (hf w hw)
  · unfold openFilled at hj ⊢
    rwa [State.onActuator_actuators, upd_other _ _ _ _ hji] at hj

theorem wantStop_emergency_eq (s : State) :
    wantStop .emergency s = s.onTrips fun t => { t with stopWanted := .emergency } := by
  have strongest : ∀ l : StopLevel, (if stopRank l < stopRank .emergency then .emergency else l) =
      StopLevel.emergency := by
    intro l
    cases l <;> rfl
  exact congrArg (fun l => s.onTrips fun t => { t with stopWanted := l }) (strongest s.trips.stopWanted)

/-- An escalation already set keeps its cause, and nothing is raised (R138). -/
theorem escalate_set (c : EscalationCause) (sub : Subject) (s : State)
    (h : s.trips.escalation.isSome = true) : escalate c sub s = s := by
  unfold escalate
  cases he : s.trips.escalation with
  | none => simp [he] at h
  | some c => rfl

/-- The code ESCALATED carries for a cause (R151). -/
def escalatedValue : EscalationCause → BitVec 32
  | .stopUnconfirmed => 0
  | .openFailed => 1

/-- The first escalation, with room for its event (R138, R151). -/
theorem escalate_room (c : EscalationCause) (sub : Subject) (s : State)
    (h : s.trips.escalation = none) (hroom : s.host.events.length < 48) :
    escalate c sub s = (s.onTrips fun t => { t with escalation := some c, stopWanted := .emergency }).onHost
      fun p => { p with events := p.events ++ [⟨.escalated, sub, none, escalatedValue c, s.now⟩] } := by
  unfold escalate
  rw [h]
  simp only [wantStop_emergency_eq]
  rw [raise_room _ _ _ _ (s.onTrips fun t => { t with escalation := some c }) hroom]
  cases c <;> rfl

end Sys2Proof.Machine
end

section
/-! SUPPORT. The expiries of a stand's timers (R115, R119, R124). -/

namespace Sys2Proof.Machine

section
variable (i : Stand) (s : State)

theorem dueNow_some (tm : Timer) : dueNow s (some tm) = decide (tm.load ≤ (s.now - tm.start).toNat) := rfl

/-- A timer that is stopped or has not run its load is not due (log entry 4). -/
theorem dueNow_not (t : Option Timer) (tm : Timer)
    (h : t = none ∨ (t = some tm ∧ ¬ tm.load ≤ (s.now - tm.start).toNat)) : dueNow s t = false := by
  obtain rfl | ⟨rfl, h⟩ := h
  · rfl
  · rw [dueNow_some]
    exact decide_eq_false h

/-- The stand in HOLD at its settled position (R115). -/
def settledHold : State := s.onActuator i fun u => { u with state := .hold, c := u.p, settleT := none }

theorem settledHold_at : (settledHold i s).actuators[i] =
    { s.actuators[i] with state := .hold, c := s.actuators[i].p, settleT := none } := by
  rw [settledHold, State.onActuator_actuators, upd_same]

theorem settleExpire_eq : settleExpire i s =
    if s.actuators[i].t = some s.actuators[i].p then settledHold i s
    else applyHold i (settledHold i s) := by
  have h := settledHold_at i s
  unfold settleExpire
  change (if (settledHold i s).actuators[i].t = some (settledHold i s).actuators[i].p then settledHold i s
    else applyHold i (settledHold i s)) = _
  rw [h]

/-- Entering travel drops the work in the slot and builds the wanted step (R112, R116). -/
theorem enterTravel_builds (t : Int) (ht : s.actuators[i].t = some t) :
    enterTravel i s = s.onActuator i fun u =>
      { u with state := .travel, number := u.number + 1,
               work := some ⟨.travel (wantedStep s.actuators[i].p t s.stands[i].maxStep), u.number + 1,
                 .queued⟩ } := by
  unfold enterTravel dropWork
  rw [onActuator_onActuator, applyTravel_queued i _ t]
  · simp only [State.onActuator_actuators, upd_same, State.onActuator_stands]
    rw [if_neg nofun, buildWork, onActuator_onActuator]
    rfl
  · rw [State.onActuator_actuators, upd_same]
    exact ht
  · rw [State.onActuator_actuators, upd_same]
    exact nofun

/-- An actuator fault leaves its stand opening, by the latch or by the fault itself (R119, R121, R122). -/
theorem actuatorFault_at (h : engaged s.actuators[i].state = true) :
    (actuatorFault i s).actuators[i] = openingOf s i := by
  have hby : openedByTrip s.actuators[i].state = true := by
    unfold openedByTrip
    rw [h]
    rfl
  have hopen : s.actuators[i].state ≠ .opening := fun e => by
    rw [e] at h
    cases h
  have htrip := raiseTrip_actuators (.actuatorFault i) (standNumber i) s i
  unfold actuatorFault
  dsimp only
  split at htrip
  · rw [if_pos (by rw [htrip]; rfl)]
    exact htrip
  · rw [if_neg (by rw [htrip]; exact hopen), putIntoOpening_eq]
    simp only [set_at, if_true, htrip, raiseTrip_frame, openingOf]

theorem actuatorFault_records :
    (actuatorFault i s).trips.records = (raiseTrip (.actuatorFault i) (standNumber i) s).trips.records := by
  unfold actuatorFault
  dsimp only
  split
  · rfl
  · simp

/-- The stand whose opening has failed (R124). -/
def failedStand : State := s.onActuator i fun u => { u with state := .openFailed, work := none, openT := none }

/-- A failed opening escalates before its own event (R124, R138; log entry 11). -/
theorem openFailed_first (cause : Int) (h : s.trips.escalation = none) (hroom : s.host.events.length ≤ 46) :
    openFailed i cause s = ((failedStand i s).onTrips fun u =>
        { u with escalation := some .openFailed, stopWanted := .emergency }).onHost fun p =>
      { p with events := p.events ++ [⟨.escalated, .stand i, none, 1, s.now⟩,
        ⟨.standOpenFailed, .stand i, none, BitVec.ofInt 32 cause, s.now⟩] } := by
  have he := escalate_room .openFailed (.stand i) (failedStand i s) h (show s.host.events.length < 48 by omega)
  change raise _ _ _ _ (escalate .openFailed (.stand i) (failedStand i s)) = _
  rw [he, raise_room _ _ _ _ _ (by simp [failedStand]; omega)]
  simp [State.onHost, escalatedValue, failedStand, State.onActuator, State.onTrips]

/-- Behind an escalation a failed opening raises its own event alone. -/
theorem openFailed_later (cause : Int) (h : s.trips.escalation.isSome = true)
    (hroom : s.host.events.length ≤ 47) :
    openFailed i cause s = (failedStand i s).onHost fun p =>
      { p with events := p.events ++ [⟨.standOpenFailed, .stand i, none, BitVec.ofInt 32 cause, s.now⟩] } := by
  change raise _ _ _ _ (escalate .openFailed (.stand i) (failedStand i s)) = _
  rw [escalate_set _ _ (failedStand i s) h, raise_room _ _ _ _ (failedStand i s) (show s.host.events.length < 48 by omega)]
  rfl
end

end Sys2Proof.Machine
end

section
/-! The statement about the stands' timers. -/

open Sys2Proof Sys2Proof.Machine

section
variable (i : Stand) (s : State) (tm : Timer)

/-- A settled stand whose target has stayed holds its position (R115). -/
theorem settle_stays (h : Running s) (hs : s.actuators[i].state = .settle)
    (ht : s.actuators[i].settleT = some tm) (hd : tm.load ≤ (s.now - tm.start).toNat)
    (hw : s.actuators[i].work = none) (hp : s.actuators[i].t = some s.actuators[i].p) :
    exec (.settleTimerExpiry i) s = .next (settledHold i s) := by
  refine line_settled (.settle i) s _ h.runs ?_ (settled_onActuator i _ s h.settled (by simp [hw, -Fin.getElem_fin]))
  change settleExpiry i s = _
  rw [settleExpiry, if_pos ⟨hs, by rw [ht, dueNow_some]; exact decide_eq_true hd⟩, settleExpire_eq,
    if_pos hp]

/-- A settled stand whose target has moved acts on it from HOLD (R115, R116). -/
theorem settle_moves (h : Running s) (hs : s.actuators[i].state = .settle)
    (ht : s.actuators[i].settleT = some tm) (hd : tm.load ≤ (s.now - tm.start).toNat)
    (hp : s.actuators[i].t ≠ some s.actuators[i].p) (f : Actuator → Actuator)
    (he : applyHold i (settledHold i s) = (settledHold i s).onActuator i f)
    (hf : ∀ a w, (f a).work = some w → w.cmd ≠ .open_) :
    exec (.settleTimerExpiry i) s = .next ((settledHold i s).onActuator i f) := by
  refine line_settled (.settle i) s _ h.runs ?_ ?_
  · change settleExpiry i s = _
    rw [settleExpiry, if_pos ⟨hs, by rw [ht, dueNow_some]; exact decide_eq_true hd⟩, settleExpire_eq,
      if_neg hp, he]
  · rw [settledHold, onActuator_onActuator]
    exact settled_onActuator i _ s h.settled (hf _)

/-- The move timer's expiry, before a normal transaction makes way for the GAP_OPEN (R119, R173). -/
theorem move_expires (h : Running s) (hs : s.actuators[i].state = .travel)
    (ht : s.actuators[i].moveT = some tm) (hd : tm.load ≤ (s.now - tm.start).toNat) :
    exec (.moveTimerExpiry i) s = .next (abandonForUrgent
      (actuatorFault i (s.onActuator i fun a => { a with moveT := none }))) := by
  refine (whileRunning_running _ _ h.runs).trans ?_
  rw [moveExpiry, if_pos ⟨hs, by rw [ht, dueNow_some]; exact decide_eq_true hd⟩]

/-- The open timer's expiry (R124). -/
theorem open_expires (h : Running s) (hs : s.actuators[i].state = .opening)
    (ht : s.actuators[i].openT = some tm) (hd : tm.load ≤ (s.now - tm.start).toNat)
    (hn : s.link.inFlight = none) :
    exec (.openTimerExpiry i) s = .next (openFailed i 0 s) := by
  refine (whileRunning_running _ _ h.runs).trans ?_
  rw [openExpiry, if_pos ⟨hs, by rw [ht, dueNow_some]; exact decide_eq_true hd⟩]
  rw [abandon_of_none]
  simp [openFailed, hn]
end

/-- Settles O48: each expiry judged by its own state and timer, then settling into HOLD, the fault of an
overdue move and the failure of an overdue opening. -/
theorem standTimersExpire : Obligations.StandTimersExpire := by
  unfold Obligations.StandTimersExpire
  intro i s tm h
  refine ⟨fun hi => ?_, fun hi => ?_, fun hi => ?_, fun hs ht hd hw t htgt => ⟨fun hp => ?_, fun hp hm hb => ?_,
    fun hp hb => ?_⟩, fun hs ht hd => ?_, fun hs ht hd hn => ⟨fun he hroom => ?_, fun he hroom => ?_⟩⟩
  · refine line_idle (.settle i) s h (if_neg fun hc => ?_)
    obtain hi | hi := hi
    · exact hi hc.1
    · rw [dueNow_not s _ tm hi] at hc
      exact absurd hc.2 nofun
  · refine line_idle (.move i) s h (if_neg fun hc => ?_)
    obtain hi | hi := hi
    · exact hi hc.1
    · rw [dueNow_not s _ tm hi] at hc
      exact absurd hc.2 nofun
  · refine line_idle (.openTimer i) s h (if_neg fun hc => ?_)
    obtain hi | hi := hi
    · exact hi hc.1
    · rw [dueNow_not s _ tm hi] at hc
      exact absurd hc.2 nofun
  · exact settle_stays i s tm h hs ht hd hw (by rw [htgt, hp])
  · have hat := settledHold_at i s
    have hmoved : s.actuators[i].t ≠ some s.actuators[i].p := fun e => hp (Option.some.inj (htgt ▸ e))
    refine settle_moves i s tm h hs ht hd hmoved _ ?_ ?_
    · rw [applyHold_band i (settledHold i s) t (by rw [hat, htgt]) (by rw [hat]; exact hp) hm (by rw [hat]; exact hb)
        (by rw [hat, hw]; exact nofun)]
      rw [hat, hw]
      exact if_neg nofun
    · rintro a w ⟨⟩
      exact nofun
  · have hat := settledHold_at i s
    have hmoved : s.actuators[i].t ≠ some s.actuators[i].p := fun e => hp (Option.some.inj (htgt ▸ e))
    refine settle_moves i s tm h hs ht hd hmoved _ ?_ ?_
    · rw [applyHold_beyond i (settledHold i s) t (by rw [hat, htgt]) (by rw [hat]; exact hp) ?_,
        enterTravel_builds i (settledHold i s) t (by rw [hat, htgt]), hat]
      · rfl
      · rw [hat]
        rintro ⟨hm, hin⟩
        obtain hm' | hb := hb
        · exact absurd (hm.symm.trans hm') nofun
        · exact absurd hin (not_le.mpr hb)
    · rintro a w ⟨⟩
      exact nofun
  · refine ⟨_, move_expires i s tm h hs ht hd, ?_, ?_⟩
    · have hopens := actuatorFault_at i (s.onActuator i fun a => { a with moveT := none })
        (by rw [State.onActuator_actuators, upd_same, hs]; rfl)
      have hsame : openingOf (s.onActuator i fun a => { a with moveT := none }) i = openingOf s i := by
        unfold openingOf
        rw [State.onActuator_actuators, upd_same]
        rfl
      rw [hsame] at hopens
      rw [abandonForUrgent_queued _ i ⟨⟨.open_, s.actuators[i].number + 1, .queued⟩, ?_, rfl⟩]
      · exact hopens
      · rw [hopens]
        rfl
    · intro k
      rw [abandonForUrgent_trips, actuatorFault_records, raiseTrip_records]
      refine ⟨?_, fun hc => ?_, fun hl => ?_, fun j hj => ?_⟩
      · rw [upd_same]
        split <;> simp_all
      · rw [upd_same]
        exact if_neg (Bool.eq_false_iff.mp hc)
      · rw [upd_same]
        exact if_pos hl
      · exact upd_other _ _ _ _ hj
  · rw [open_expires i s tm h hs ht hd hn, openFailed_first i s 0 he hroom]
    rfl
  · rw [open_expires i s tm h hs ht hd hn, openFailed_later i s 0 he hroom]
    rfl

end


section
/-! SUPPORT. A latch of any source (R131 to R133, R139): its record, the stop of its class and MSTOP. -/

namespace Sys2Proof.Machine

section
variable (k : Source) (d : Nat) (s : State)

/-- The state with record `k` latched and nothing yet set going (R131). -/
def withLatched : State := s.onTrips fun t => { t with records := latchRecord k s.now d t.records }

theorem latch_eq : latch k d s = latchActions k (withLatched k d s) := rfl

theorem withLatched_same : (withLatched k d s).trips.records[k] =
    { s.trips.records[k] with
      latched := true, rank := latchedCount s + 1, time := s.now, count := 1, reported := false,
      detail := d } := by
  rw [withLatched, State.onTrips_trips, latchRecord, upd_same]
  rfl

theorem withLatched_other (j : Source) (h : j ≠ k) :
    (withLatched k d s).trips.records[j] = s.trips.records[j] := by
  rw [withLatched, State.onTrips_trips, latchRecord, upd_other _ _ _ _ h]

theorem latch_records : (latch k d s).trips.records = s.trips.records.set k.val
    { s.trips.records[k] with
      latched := true, rank := latchedCount s + 1, time := s.now, count := 1, reported := false,
      detail := d } := latchActions_records k (withLatched k d s)

/-- A latch opens the stands its record names that are in no state of the open group (R122). -/
theorem latch_opens (i : Stand) (hi : s.trips.records[k].affected.getLsbD i.val = true)
    (ho : s.actuators[i].state ≠ .open_) (hg : s.actuators[i].state ≠ .opening)
    (hf : s.actuators[i].state ≠ .openFailed) : (latch k d s).actuators[i] = openingOf s i := by
  have hopened : openedByTrip s.actuators[i].state = true := by
    cases hstate : s.actuators[i].state with
    | open_ => exact absurd hstate ho
    | opening => exact absurd hstate hg
    | openFailed => exact absurd hstate hf
    | travel | settle | hold | released => rfl
  refine (latchActions_actuators k _ i).trans (if_pos ⟨?_, hopened⟩)
  exact (congrArg (fun r => r.affected.getLsbD i.val) (withLatched_same k d s)).trans hi

theorem latch_emergency (h : s.trips.records[k].cls = .emergency) :
    (latch k d s).trips = { (withLatched k d s).trips with stopWanted := .emergency } :=
  latchActions_emergency k _ ((congrArg TripRecord.cls (withLatched_same k d s)).trans h)

theorem latch_fastStop (h : s.trips.records[k].cls = .fastStop) : ∃ c t,
    (latch k d s).trips = { (withLatched k d s).trips with
      stopWanted := if s.trips.stopWanted = .none then .fast else s.trips.stopWanted
      confirm := c
      confirmT := t } ∧
    (s.trips.confirm = .idle → ConfirmStarted s.now s.mill.stopConfirm c t) ∧
    (s.trips.confirm ≠ .idle → c = s.trips.confirm ∧ t = s.trips.confirmT) :=
  latchActions_fastStop k _ ((congrArg TripRecord.cls (withLatched_same k d s)).trans h)

/-- MSTOP after a latch: asserted by a record of class EMERGENCY, and else as it was (R139). -/
theorem latch_mstop (hp : s.power = .running) (h : s.trips.records[k].latched = false) :
    (latch k d s).mstop = decide (s.trips.records[k].cls = .emergency ∨ s.mstop = true) := by
  obtain ⟨-, -, hesc⟩ := latchActions_wants k (withLatched k d s)
  rw [mstop_running _ hp, mstop_running _ (by simpa using hp), Bool.eq_iff_iff, decide_eq_true_eq]
  rw [emergencyStanding_iff, emergencyStanding_iff, latch_eq, latchActions_records, hesc]
  constructor
  · rintro (⟨j, hl, hc⟩ | he)
    · by_cases hj : j = k
      · subst hj
        rw [withLatched_same] at hc
        exact .inl hc
      · rw [withLatched_other k d s j hj] at hl hc
        exact .inr (.inl ⟨j, hl, hc⟩)
    · exact .inr (.inr he)
  · rintro (hc | ⟨j, hl, hc⟩ | he)
    · exact .inl ⟨k, by rw [withLatched_same], by rw [withLatched_same]; exact hc⟩
    · have hj : j ≠ k := fun e => Bool.eq_false_iff.mp h (e ▸ hl)
      exact .inl ⟨j, by rw [withLatched_other k d s j hj]; exact ⟨hl, hc⟩⟩
    · exact .inr he
end

/-- MSTOP does not change when a transaction makes way for urgent work. -/
theorem abandonForUrgent_mstop (s : State) : (abandonForUrgent s).mstop = s.mstop :=
  mstop_congr _ _ (by simp) (by simp)

/-! ### The stop-confirm timer's expiry (R136) -/

/-- The escalation of an unconfirmed stop, in a state whose confirmation has expired. -/
def confirmExpired (s : State) : State := s.onTrips fun t => { t with confirm := .expired, confirmT := none }

theorem confirmExpiry_due (s : State) (tm : Timer) (hw : s.trips.confirm = .waiting)
    (ht : s.trips.confirmT = some tm) (hd : tm.load ≤ (s.now - tm.start).toNat) :
    confirmExpiry s = escalate .stopUnconfirmed .none (confirmExpired s) :=
  if_pos ⟨hw, by rw [ht, dueNow_some]; exact decide_eq_true hd⟩

theorem escalate_trips_first (c : EscalationCause) (sub : Subject) (s : State)
    (h : s.trips.escalation = none) : (escalate c sub s).trips =
      { s.trips with escalation := some c, stopWanted := .emergency } := by
  unfold escalate
  rw [h]
  simp only [wantStop_emergency]
  simp [raise]

/-- A normal transaction on the link survives a stop that has been sent already (R134, R161). -/
theorem settled_stopWanted (s t : State) (h : Settled s) (hl : t.link.inFlight = s.link.inFlight)
    (hsent : t.trips.stopSent = s.trips.stopSent) (ha : t.actuators = s.actuators)
    (hf : ∀ f, s.link.inFlight = some f → normalItem f.item = false ∨ s.trips.stopSent = .emergency) :
    Settled t := by
  intro f hft hn
  rw [hl] at hft
  obtain hnot | hem := hf f hft
  · rw [hnot] at hn
    cases hn
  · have hu := h f hft hn
    have hopen : ∀ i, openFilled t i = openFilled s i := fun i => by rw [openFilled, ha, openFilled]
    have hlink : stopOnLink t = stopOnLink s := by rw [stopOnLink, hl, stopOnLink]
    simp only [urgentFilled, stopFilled, Bool.or_eq_false_iff] at hu ⊢
    obtain ⟨⟨hon, -⟩, hopens⟩ := hu
    refine ⟨⟨hlink.trans hon, decide_eq_false ?_⟩, ?_⟩
    · rw [hsent, hem]
      cases t.trips.stopWanted <;> decide
    · rw [← hopens]
      exact List.any_congr rfl fun i => hopen i

end Sys2Proof.Machine
end

section
/-! The statement about the emergency-stop lines and the stop-confirm timer. -/

open Sys2Proof Sys2Proof.Machine

section
variable (x : Fin 8) (s : State)

/-- The state with a line's level taken (R140). -/
def withLevel (low : Bool) : State := s.onTrips fun t => { t with pressed := upd t.pressed x fun _ => low }

theorem estop_press (h : Running s) (hx : s.trips.pressed[x] = false) :
    exec (.estopLineChange x true) s =
      .next (abandonForUrgent (raiseTrip (.estop x) x.val (withLevel x s true))) := by
  refine (if_pos h.runs).trans ((whileRunning_running _ _ h.runs).trans ?_)
  rw [estopChange, if_neg (by rw [hx]; exact nofun), if_pos rfl]
  rfl

theorem estop_quiet (low : Bool) (h : Running s) (hx : s.trips.pressed[x] = low) :
    exec (.estopLineChange x low) s = .next s :=
  (if_pos h.runs).trans (line_idle (.estop x low) s h (if_pos hx))

theorem estop_release (h : Running s) (hx : s.trips.pressed[x] = true) :
    exec (.estopLineChange x false) s = .next (withLevel x s false) := by
  refine (if_pos h.runs).trans (line_settled (.estop x false) s _ h.runs ?_
    ((settled_congr s (withLevel x s false) rfl rfl rfl fun _ => rfl).mpr h.settled))
  change estopChange x false s = _
  rw [estopChange, if_neg (by rw [hx]; exact nofun), if_neg nofun]
  rfl
end

/-- Settles O52: a press raises its line's source, a release is a level alone, and the stop-confirm timer's
expiry escalates, whose stop ends normal work where it was not sent already. -/
theorem estopAndConfirmExpiry : Obligations.EstopAndConfirmExpiry := by
  unfold Obligations.EstopAndConfirmExpiry
  intro s h
  refine ⟨fun x low hx => estop_quiet x s low h hx, fun x hx => estop_release x s h hx, fun x hx => ?_,
    fun hi => ?_, fun tm hw ht hd => ?_⟩
  · intro k r
    refine ⟨fun hl => ?_, fun hl => ⟨_, estop_press x s h hx, ?_, ?_, fun hc => ?_, fun hc => ?_,
      fun i hi ho hg hf => ?_⟩⟩
    · rw [estop_press x s h hx]
      have he : raiseTrip (.estop x) x.val (withLevel x s true) = recount k (withLevel x s true) := if_pos hl
      rw [he, abandon_of_settled]
      · rfl
      · exact (settled_congr s _ rfl rfl rfl fun _ => rfl).mpr h.settled
    all_goals
      have he : raiseTrip (.estop x) x.val (withLevel x s true) = latch k x.val (withLevel x s true) :=
        if_neg (Bool.eq_false_iff.mp hl)
      rw [he]
    · rw [abandonForUrgent_trips, ← he, raiseTrip_pressed]
      rfl
    · rw [abandonForUrgent_trips, latch_records]
      rfl
    · rw [abandonForUrgent_mstop, abandonForUrgent_trips, latch_mstop k _ (withLevel x s true) h.runs hl,
        latch_emergency k _ (withLevel x s true) hc]
      exact ⟨decide_eq_true (.inl hc), rfl, rfl, rfl⟩
    · obtain ⟨c, t, htrips, hidle, hbusy⟩ := latch_fastStop k x.val (withLevel x s true) hc
      rw [abandonForUrgent_mstop, abandonForUrgent_trips, latch_mstop k _ (withLevel x s true) h.runs hl,
        htrips]
      refine ⟨(decide_eq_decide.mpr (or_iff_right ?_)).trans (Bool.decide_coe _), rfl, hidle, hbusy⟩
      exact fun e => absurd (hc.symm.trans e) nofun
    · have hopen := latch_opens k x.val (withLevel x s true) i hi ho hg hf
      rw [abandonForUrgent_queued _ i ⟨_, congrArg Actuator.work hopen, rfl⟩]
      exact hopen
  · refine line_idle .stopConfirm s h (if_neg fun hc => ?_)
    obtain ⟨hwait, hdue⟩ := hc
    obtain hi | hi | ⟨tm, htm, hlate⟩ := hi
    · exact hi hwait
    · rw [hi] at hdue
      cases hdue
    · rw [htm, dueNow_some] at hdue
      exact absurd (of_decide_eq_true hdue) (not_le.mpr hlate)
  · have hrun : exec .stopConfirmExpiry s = .next (abandonForUrgent
        (escalate .stopUnconfirmed .none (confirmExpired s))) := by
      rw [← confirmExpiry_due s tm hw ht hd]
      exact whileRunning_running _ _ h.runs
    rw [hrun]
    refine ⟨fun he hroom hf => ?_, fun he hsent f hf hn => ⟨_, rfl, ?_⟩, fun he => ?_⟩
    · rw [escalate_room _ _ (confirmExpired s) he hroom, abandon_of_settled]
      · rfl
      · exact settled_stopWanted s _ h.settled rfl rfl rfl hf
    · have hu : urgentFilled (escalate .stopUnconfirmed .none (confirmExpired s)) = true := by
        have : stopRank s.trips.stopSent < stopRank .emergency := by
          cases hs : s.trips.stopSent with
          | none | fast => decide
          | emergency => exact absurd hs hsent
        simp only [urgentFilled, stopFilled, escalate_trips_first _ _ (confirmExpired s) he]
        simp [confirmExpired, this]
      have hlink : (escalate .stopUnconfirmed .none (confirmExpired s)).link = s.link := by
        simp [confirmExpired]
      rw [abandonForUrgent_cut _ f (by rw [hlink, hf]) hn hu, abandonForUrgent_trips,
        escalate_trips_first _ _ (confirmExpired s) he, hlink]
      exact ⟨rfl, rfl, rfl, rfl, rfl, rfl, rfl⟩
    · rw [escalate_set _ _ (confirmExpired s) he, abandon_of_settled]
      · rfl
      · exact (settled_congr s _ rfl rfl rfl fun _ => rfl).mpr h.settled

end


section
/-! SUPPORT. The LATCHED view of Read Trips (R131, R150): the ranks 1 to n are each held once, so a run of
ranks is read out without a gap. -/

namespace Sys2Proof.Machine

/-- The LATCHED records, ascending. -/
def latchedSources (s : State) : List Source := allSources.filter fun k => s.trips.records[k].latched

theorem mem_latchedSources (s : State) (k : Source) :
    k ∈ latchedSources s ↔ s.trips.records[k].latched = true := by
  simp [latchedSources, mem_allSources]

theorem latchedSources_length (s : State) : (latchedSources s).length = latchedCount s := by
  have table : s.trips.records.toList = allSources.map fun k => s.trips.records[k] := by
    have hsources : allSources = List.finRange 32 := by decide
    rw [hsources]
    refine List.ext_getElem (by simp) fun n h h' => ?_
    simp
  rw [latchedCount, table, List.countP_map, List.countP_eq_length_filter]
  rfl

/-- The ranks in use are 1 to n in some order (R131). -/
theorem ranks_perm (s : State) (h : RanksSound s) :
    ((latchedSources s).map fun k => s.trips.records[k].rank).Perm (List.range' 1 (latchedCount s)) := by
  have hnodup : ((latchedSources s).map fun k => s.trips.records[k].rank).Nodup := by
    refine List.Nodup.map_on (fun j hj k hk e => ?_) (List.Nodup.filter _ (by decide))
    exact h.once j k ((mem_latchedSources s j).mp hj) ((mem_latchedSources s k).mp hk) e
  refine (hnodup.subperm fun n hn => ?_).perm_of_length_le (by simp [latchedSources_length])
  obtain ⟨k, hk, rfl⟩ := List.mem_map.mp hn
  obtain ⟨hone, hmax, -⟩ := h.range k ((mem_latchedSources s k).mp hk)
  exact List.mem_range'_1.mpr ⟨hone, by omega⟩

theorem recordOfRank_some (s : State) (n : Nat) (k : Source) (h : recordOfRank s n = some k) :
    s.trips.records[k].latched = true ∧ s.trips.records[k].rank = n := by
  have := List.find?_some h
  simpa using this

/-- A rank has its record exactly where it is 1 to n (R131). -/
theorem recordOfRank_isSome (s : State) (h : RanksSound s) (n : Nat) :
    (recordOfRank s n).isSome = true ↔ 1 ≤ n ∧ n ≤ latchedCount s := by
  constructor
  · intro hs
    obtain ⟨k, hk⟩ := Option.isSome_iff_exists.mp hs
    obtain ⟨hl, rfl⟩ := recordOfRank_some s n k hk
    exact ⟨(h.range k hl).1, (h.range k hl).2.1⟩
  · rintro ⟨hone, hmax⟩
    have hn : n ∈ (latchedSources s).map fun k => s.trips.records[k].rank :=
      (ranks_perm s h).mem_iff.mpr (List.mem_range'_1.mpr ⟨hone, by omega⟩)
    obtain ⟨k, hk, hr⟩ := List.mem_map.mp hn
    refine List.find?_isSome.mpr ⟨k, mem_allSources k, ?_⟩
    have hl := (mem_latchedSources s k).mp hk
    simp only [hl, hr, decide_true, Bool.and_self]

/-- A partial table that is filled below `c`, and whose value at `j` shows `first + j`, reads out as a run. -/
theorem filterMap_run {α : Type} (f : Nat → Option α) (g : α → Nat) (first c : Nat)
    (hsome : ∀ j, (f j).isSome = true ↔ j < c) (hval : ∀ j a, f j = some a → g a = first + j) (m : Nat) :
    ((List.range m).filterMap f).map g = List.range' first (min m c) := by
  induction m with
  | zero => simp
  | succ m ih =>
    rw [List.range_succ, List.filterMap_append, List.map_append, ih]
    cases hf : f m with
    | none =>
      have : ¬ m < c := fun hlt => by
        have := (hsome m).mpr hlt
        rw [hf] at this
        cases this
      rw [show min (m + 1) c = min m c by omega]
      simp [hf]
    | some a =>
      have : m < c := (hsome m).mp (by rw [hf]; rfl)
      rw [show min m c = m by omega, show min (m + 1) c = m + 1 by omega, List.range'_1_concat]
      simp [hf, hval m a hf]

theorem recordsFrom_ranks (s : State) (h : RanksSound s) (first : Nat) (hf : 1 ≤ first) :
    ((recordsFrom s first).map fun k => s.trips.records[k].rank) =
      List.range' first (min 12 (latchedCount s + 1 - first)) := by
  refine filterMap_run (fun j => recordOfRank s (first + j)) _ first _ (fun j => ?_) (fun j k hk => ?_) 12
  · rw [recordOfRank_isSome s h]
    omega
  · exact (recordOfRank_some s _ k hk).2

/-- Marking records sets their reported flags alone (R150). -/
theorem setReported_at (ks : List Source) (v : Vector TripRecord 32) (k : Source) :
    (setReported ks v)[k] = if k ∈ ks then { v[k] with reported := true } else v[k] := by
  unfold setReported
  induction ks generalizing v with
  | nil => rfl
  | cons j ks ih =>
    rw [List.foldl_cons, ih, upd_at]
    by_cases hj : k = j <;> by_cases hk : k ∈ ks <;> simp [hj, hk]

end Sys2Proof.Machine
end

section
/-! The statement about Configure Trip and Read Trips. -/

open Sys2Proof Sys2Proof.Machine

/-- Settles O51: Configure Trip by the first check that fails; Read Trips by its view, the LATCHED one a run
of the ranks in use. -/
theorem tripTableRequests : Obligations.TripTableRequests := by
  unfold Obligations.TripTableRequests
  intro tag s h
  refine ⟨fun b cls set => ⟨fun hb => ?_, fun k hk => ?_⟩, fun v first => ⟨fun hbad => ?_, fun hv => ?_,
    fun hv hone hmax hr => ?_⟩⟩
  · refine frameOf_unchanged _ _ _ _ _ h ?_
    simp only [serve, serveConfigureTrip, sourceOfIndex, dif_neg (show ¬ b.toNat < 32 by omega)]
    rfl
  · have hindex : sourceOfIndex b = some k := by
      rw [sourceOfIndex, dif_pos (show b.toNat < 32 by omega)]
      exact congrArg some (Fin.ext hk)
    have hserve : ∀ u, serve (.configureTrip b cls set) u = serveConfigureTrip b cls set u := fun _ => rfl
    refine ⟨fun hfixed => ?_, fun hfree hl => ?_, fun hfree hl => ⟨fun hc => ?_, fun hc ha => ?_,
      fun hc ha => ?_⟩⟩
    · refine frameOf_unchanged _ _ _ _ _ h ?_
      rw [hserve, serveConfigureTrip, hindex]
      exact if_pos hfixed
    all_goals have hk' : ¬ 30 ≤ k.val := not_le.mpr hfree
    · refine frameOf_unchanged _ _ _ _ _ h ?_
      rw [hserve, serveConfigureTrip, hindex]
      exact (if_neg hk').trans (if_pos hl)
    all_goals have hl' : ¬ s.trips.records[k].latched = true := Bool.eq_false_iff.mp hl
    · refine frameOf_unchanged _ _ _ _ _ h ?_
      rw [hserve, serveConfigureTrip, hindex]
      exact (if_neg hk').trans ((if_neg hl').trans (if_pos hc))
    all_goals have hc' : ¬ 1 < cls.toNat := not_lt.mpr hc
    · refine frameOf_unchanged _ _ _ _ _ h ?_
      rw [hserve, serveConfigureTrip, hindex]
      exact (if_neg hk').trans ((if_neg hl').trans ((if_neg hc').trans (if_pos ha)))
    · have hcls : (if cls = 1 then TripClass.emergency else .fastStop) =
          if cls = 0 then .fastStop else .emergency := by
        have : cls = 0 ∨ cls = 1 := by
          obtain hz | ho : cls.toNat = 0 ∨ cls.toNat = 1 := by omega
          · exact .inl (BitVec.eq_of_toNat_eq hz)
          · exact .inr (BitVec.eq_of_toNat_eq ho)
        obtain rfl | rfl := this <;> rfl
      refine frameOf_answered _ _ _ _ s _ h
        ((settled_congr s (s.onTrips _) rfl rfl rfl fun _ => rfl).mpr h.settled) ?_
      rw [hserve, serveConfigureTrip, hindex]
      refine ((if_neg hk').trans ((if_neg hl').trans ((if_neg hc').trans (if_neg (not_lt.mpr ha))))).trans ?_
      rw [hcls]
      rfl
  · refine frameOf_unchanged _ _ _ _ _ h ?_
    change serveReadTrips v first _ = _
    unfold serveReadTrips
    obtain hv | ⟨rfl, hf⟩ := hbad
    · rw [if_neg (fun e => by rw [e] at hv; exact absurd hv (by decide)),
        if_neg (fun e => by rw [e] at hv; exact absurd hv (by decide))]
      rfl
    · rw [if_pos rfl, if_neg (by omega)]
      rfl
  · subst hv
    exact ⟨frameOf_unchanged _ _ _ _ _ h rfl, by simp⟩
  · subst hv
    refine ⟨recordsFrom s first.toNat, setReported (recordsFrom s first.toNat) s.trips.records,
      recordsFrom_ranks s hr _ hone, fun k hk => recordsFrom_latched s _ k hk,
      setReported_at _ s.trips.records, ?_⟩
    refine frameOf_answered _ _ _ _ s (s.onTrips _) h
      ((settled_congr s (s.onTrips _) rfl rfl rfl fun _ => rfl).mpr h.settled) ?_
    change serveReadTrips 0 first _ = _
    rw [serveReadTrips, if_pos rfl, if_pos ⟨hone, hmax⟩]
    rfl

end


section
/-! The statement about the arithmetic of the conventions. -/

open Sys2Proof Sys2Proof.Machine

section
variable (a b : Nat) (x : Int)

/-- The rounded quotient is the one within half a divisor, a half going up. -/
theorem roundHalfUp_bounds (hb : 0 < b) :
    2 * b * roundHalfUp a b ≤ 2 * a + b ∧ 2 * a + b < 2 * b * (roundHalfUp a b + 1) :=
  ⟨Nat.mul_div_le _ _, Nat.lt_mul_div_succ _ (by omega)⟩

theorem scaleQ12_nonneg (hx : 0 ≤ x) : scaleQ12 x = (roundHalfUp x.natAbs 4096 : Int) :=
  if_neg (not_lt.mpr hx)

/-- Gained products round symmetrically about zero. -/
theorem scaleQ12_neg : scaleQ12 (-x) = -scaleQ12 x := by
  obtain hx | rfl | hx := lt_trichotomy x 0
  · rw [scaleQ12_nonneg _ (by omega), scaleQ12, if_pos hx, Int.natAbs_neg, neg_neg]
  · rfl
  · rw [scaleQ12_nonneg x hx.le, scaleQ12, if_pos (by omega), Int.natAbs_neg]
end

/-- Settles O40: each rounding is a floor of the doubled quotient. -/
theorem roundedArithmetic : Obligations.RoundedArithmetic := by
  unfold Obligations.RoundedArithmetic
  refine ⟨fun a b hb => roundHalfUp_bounds a b hb, fun x => ⟨scaleQ12_neg x, fun hx => ?_⟩,
    fun x len h => ?_, fun x m len hm hlen => ⟨fun hq => ?_, fun hq => ?_⟩⟩
  · obtain ⟨hlo, hhi⟩ := roundHalfUp_bounds x.natAbs 4096 (by decide)
    rw [scaleQ12_nonneg x hx]
    omega
  · unfold massFlowOf
    obtain h | rfl := h
    · rw [h]
    · cases x.measured <;> rfl
  · obtain ⟨hlo, hhi⟩ := roundHalfUp_bounds m.v len hlen
    rw [massFlowOf, hm]
    refine ⟨?_, ?_, ?_⟩
    · simp only [if_neg hlen.ne', if_pos hq]
    · calc 2 * (roundHalfUp m.v len * len) = 2 * len * roundHalfUp m.v len := by ring
        _ ≤ 2 * m.v + len := hlo
    · have hexpand : 2 * len * (roundHalfUp m.v len + 1) = 2 * (roundHalfUp m.v len * len) + 2 * len := by
        ring
      omega
  · rw [massFlowOf, hm]
    simp only [if_neg hlen.ne', if_neg (not_le.mpr hq)]

end


section
/-! SUPPORT. A demand recomposed after a change of its stand's terms (R89, R90, R101, R102). -/

namespace Sys2Proof.Machine

/-- A demand to compose depends on the records, the products and its stand's three terms alone. -/
theorem demandOf_congr (s t : State) (i : Stand) (hr : t.stands = s.stands) (hp : t.store = s.store)
    (hff : t.demands[i].ff = s.demands[i].ff) (htrim : t.demands[i].trim = s.demands[i].trim)
    (hoff : t.demands[i].offset = s.demands[i].offset) : demandOf t i = demandOf s i := by
  simp only [demandOf, demandSum, hr, hp, hff, htrim, hoff]

/-- The terms of stand `i` change, and its demand is composed again. -/
def recompose (i : Stand) (f : DemandState → DemandState) (s : State) : State :=
  composeDemand i (s.onDemand i f)

/-- What a recomposition leaves as it was. -/
structure DemandOnly (s t : State) : Prop where
  stands : t.stands = s.stands
  track : t.track = s.track
  store : t.store = s.store
  trips : t.trips = s.trips
  link : t.link = s.link

theorem DemandOnly.trans {s t u : State} (h : DemandOnly s t) (k : DemandOnly t u) : DemandOnly s u :=
  ⟨k.stands.trans h.stands, k.track.trans h.track, k.store.trans h.store, k.trips.trans h.trips,
    k.link.trans h.link⟩

/-- The demand composed from the terms that a recomposition leaves (R89). -/
theorem DemandOnly.demandOf_eq {s t : State} (h : DemandOnly s t) (i : Stand) : demandOf t i =
    if s.stands[i].configured = true then
      s.store.active[i].map fun q =>
        let sum := s.store.table[q].sSet[i] + t.demands[i].ff + t.demands[i].trim + t.demands[i].offset
        ⟨clampTo s.stands[i].gapMin s.stands[i].gapMax sum, sum⟩
    else none := by
  simp only [demandOf, demandSum, h.stands, h.store]

section
variable (i : Stand) (f : DemandState → DemandState) (s : State)

theorem recompose_demandOnly : DemandOnly s (recompose i f s) := by
  constructor <;> simp [recompose]

theorem recompose_at : ∃ lim : Bool, (recompose i f s).demands[i] =
    { f s.demands[i] with demand := demandOf (recompose i f s) i, limited := lim } := by
  obtain ⟨lim, hd⟩ := composeDemand_demands i (s.onDemand i f)
  have hat : (recompose i f s).demands[i] =
      { f s.demands[i] with demand := demandOf (s.onDemand i f) i, limited := lim } := by
    rw [recompose, hd, upd_same, State.onDemand_demands, upd_same]
  refine ⟨lim, hat.trans ?_⟩
  have hone : (s.onDemand i f).demands[i] = f s.demands[i] := by
    rw [State.onDemand_demands, upd_same]
  have hkept := recompose_demandOnly i f s
  rw [demandOf_congr (s.onDemand i f) (recompose i f s) i hkept.stands hkept.store (by rw [hat, hone]) (by rw [hat, hone])
    (by rw [hat, hone])]

theorem recompose_others (j : Stand) (h : j ≠ i) :
    (recompose i f s).demands[j] = s.demands[j] ∧ (recompose i f s).actuators[j] = s.actuators[j] := by
  obtain ⟨lim, hd⟩ := composeDemand_demands i (s.onDemand i f)
  refine ⟨?_, (retargets_composeDemand i _).others j h⟩
  rw [recompose, hd, upd_other _ _ _ _ h, State.onDemand_demands, upd_other _ _ _ _ h]

theorem recompose_openFilled (j : Stand) (h : openFilled (recompose i f s) j = true) :
    openFilled s j = true :=
  (retargets_composeDemand i (s.onDemand i f)).openFilled_mono j h

theorem settled_recompose (h : Settled s) : Settled (recompose i f s) := by
  have hkept := recompose_demandOnly i f s
  exact settled_mono s _ hkept.link hkept.trips (recompose_openFilled i f s) h
end

/-! ### Reset Trim's pass (R102) -/

/-- The trims of a list of stands zeroed, in order. -/
def zeroTrims (is : List Stand) (s : State) : State := is.foldl (fun s i => zeroTrim i s) s

theorem zeroTrim_eq (i : Stand) (s : State) : zeroTrim i s = recompose i (fun d => { d with trim := 0 }) s :=
  rfl

section
variable (is : List Stand) (s : State)

theorem zeroTrims_demandOnly : DemandOnly s (zeroTrims is s) := by
  unfold zeroTrims
  induction is generalizing s with
  | nil => exact ⟨rfl, rfl, rfl, rfl, rfl⟩
  | cons i is ih => exact (recompose_demandOnly i _ s).trans (ih _)

theorem zeroTrims_others (j : Stand) (hj : j ∉ is) :
    (zeroTrims is s).demands[j] = s.demands[j] ∧ (zeroTrims is s).actuators[j] = s.actuators[j] := by
  have hne : ∀ i ∈ is, j ≠ i := fun i hi e => hj (e ▸ hi)
  exact ⟨foldl_keeps _ (fun u => u.demands[j]) is (fun u i hi => (recompose_others i _ u j (hne i hi)).1) s,
    foldl_keeps _ (fun u => u.actuators[j]) is (fun u i hi => (recompose_others i _ u j (hne i hi)).2) s⟩

theorem zeroTrims_at (i : Stand) (hi : i ∈ is) (hn : is.Nodup) : ∃ lim : Bool,
    (zeroTrims is s).demands[i] =
      { s.demands[i] with trim := 0, demand := demandOf (zeroTrims is s) i, limited := lim } := by
  obtain ⟨u, hu, hl⟩ := foldl_at (fun s i => zeroTrim i s) (fun s => (s.stands, s.store, s.demands[i])) i
    (fun u j hj => by
      have hkept := recompose_demandOnly j (fun d : DemandState => { d with trim := 0 }) u
      rw [zeroTrim_eq, hkept.stands, hkept.store, (recompose_others j _ u i (Ne.symm hj)).1]) is hn hi s
  obtain ⟨lim, hat⟩ := recompose_at i (fun d => { d with trim := 0 }) u
  obtain ⟨hr, hl⟩ := Prod.mk.inj hl
  obtain ⟨hp, hd⟩ := Prod.mk.inj hl
  obtain ⟨-, hu⟩ := Prod.mk.inj hu
  obtain ⟨-, hu⟩ := Prod.mk.inj hu
  have hd : (zeroTrims is s).demands[i] = (recompose i (fun d => { d with trim := 0 }) u).demands[i] := hd
  refine ⟨lim, ?_⟩
  rw [demandOf_congr (recompose i (fun d => { d with trim := 0 }) u) (zeroTrims is s) i hr hp (by rw [hd])
    (by rw [hd]) (by rw [hd]), hd, hat, hu]

theorem settled_zeroTrims (h : Settled s) : Settled (zeroTrims is s) := by
  unfold zeroTrims
  induction is generalizing s with
  | nil => exact h
  | cons i is ih => exact ih _ (settled_recompose i _ s h)
end

end Sys2Proof.Machine
end

section
/-! The statement about Set Offset and Reset Trim. -/

open Sys2Proof Sys2Proof.Machine

theorem withinN_iff (s : State) (i : Stand) : withinN s i = true ↔ i.val + 1 ≤ s.mill.n :=
  decide_eq_true_iff

section
variable (b : Byte) (o : BitVec 16) (i : Stand) (s : State) (hb : b.toNat = i.val + 1)
include hb

theorem serveOffset_at : serveOffset b o s =
    if ¬ s.mill.configured then refuse .notConfigured s
    else if ¬ withinN s i then badParam 2 s
    else if ¬ s.stands[i].configured then refuse .notConfigured s
    else if o.toInt < -10000 ∨ 10000 < o.toInt then badParam 3 s
    else accept (demandBlock (offsetEffect i o.toInt s) i) (offsetEffect i o.toInt s) := by
  rw [serveOffset, standOfNumber_eq_some b i hb]

theorem serveResetTrim_at (hm : s.mill.configured = true) : serveResetTrim b s =
    if ¬ withinN s i then badParam 2 s
    else if ¬ s.stands[i].configured then refuse .notConfigured s
    else trimEffect [i] s := by
  have := i.isLt
  rw [serveResetTrim, if_neg (by omega), if_neg (not_not.mpr hm), standOfNumber_eq_some b i hb]
end

theorem serveOffset_accepted (b : Byte) (o : BitVec 16) (i : Stand) (s : State) (hb : b.toNat = i.val + 1)
    (hm : s.mill.configured = true) (hn : i.val + 1 ≤ s.mill.n) (hc : s.stands[i].configured = true)
    (hlo : -10000 ≤ o.toInt) (hhi : o.toInt ≤ 10000) :
    serveOffset b o s = (offsetEffect i o.toInt s, ⟨.ok, demandBlock (offsetEffect i o.toInt s) i⟩) := by
  rw [serveOffset_at b o i s hb, if_neg (not_not.mpr hm), if_neg (not_not.mpr ((withinN_iff s i).mpr hn)),
    if_neg (not_not.mpr hc), if_neg (by omega)]
  rfl

theorem trimEffect_eq (is : List Stand) (s : State) : trimEffect is s = (zeroTrims is s, ⟨.ok,
    [BitVec.ofNat 8 (is.filter fun i => decide (s.demands[i].trim ≠ 0)).length, BitVec.ofNat 8 is.length] ++
      is.flatMap fun i => BitVec.ofNat 8 (i.val + 1) :: demandBlock (zeroTrims is s) i⟩) := by
  simp only [trimEffect, be_one, List.countP_eq_length_filter, standNumber]
  rfl

/-- The offset's effect where it is new (R101). -/
theorem offsetEffect_new (i : Stand) (o : Int) (s : State) (h : o ≠ s.demands[i].offset) :
    offsetEffect i o s = recompose i (fun d => { d with offset := o }) s :=
  if_neg (Ne.symm h)

theorem offsetEffect_same (i : Stand) (o : Int) (s : State) (h : o = s.demands[i].offset) :
    offsetEffect i o s = s := if_pos h.symm

/-- Settles O45: Set Offset by the first check that fails and then one recomposition; Reset Trim the same over
its targets. -/
theorem offsetAndTrimRequests : Obligations.OffsetAndTrimRequests := by
  unfold Obligations.OffsetAndTrimRequests
  intro tag b s h
  refine ⟨fun o => ⟨fun hb => ?_, fun i hb => ⟨fun hm => ?_, fun hm hn => ?_, fun hm hn => ⟨fun hc => ?_,
    fun hc ho => ?_, fun hc hlo hhi => ⟨fun ho => ?_, ?_⟩⟩⟩⟩, fun hb => ?_, fun hb hm => ?_,
    fun i hb hm => ⟨fun hn => ?_, fun hn hc => ?_⟩, fun is hm his => ?_⟩
  · refine frameOf_unchanged _ _ _ _ _ h ?_
    change serveOffset b o _ = _
    rw [serveOffset, standOfNumber_eq_none b hb]
    rfl
  · refine frameOf_unchanged _ _ _ _ _ h ?_
    exact (serveOffset_at b o i _ hb).trans (if_pos (Bool.eq_false_iff.mp hm))
  · refine frameOf_unchanged _ _ _ _ _ h ?_
    refine (serveOffset_at b o i _ hb).trans ((if_neg (not_not.mpr hm)).trans (if_pos ?_))
    exact mt (withinN_iff s i).mp (by omega)
  · refine frameOf_unchanged _ _ _ _ _ h ?_
    exact (serveOffset_at b o i _ hb).trans ((if_neg (not_not.mpr hm)).trans
      ((if_neg (not_not.mpr ((withinN_iff s i).mpr hn))).trans (if_pos (Bool.eq_false_iff.mp hc))))
  · refine frameOf_unchanged _ _ _ _ _ h ?_
    exact (serveOffset_at b o i _ hb).trans ((if_neg (not_not.mpr hm)).trans
      ((if_neg (not_not.mpr ((withinN_iff s i).mpr hn))).trans ((if_neg (not_not.mpr hc)).trans (if_pos ho))))
  · refine frameOf_unchanged _ _ _ _ _ h ?_
    refine (serveOffset_accepted b o i (taken tag (.setOffset b o) s) hb hm hn hc hlo hhi).trans ?_
    rw [offsetEffect_same i _ (taken tag (.setOffset b o) s) ho]
    rfl
  · by_cases ho : o.toInt = s.demands[i].offset
    · have hs := serveOffset_accepted b o i (taken tag (.setOffset b o) s) hb hm hn hc hlo hhi
      rw [offsetEffect_same i _ (taken tag (.setOffset b o) s) ho] at hs
      exact ⟨_, frameOf_unchanged _ _ _ _ _ h hs, rfl, ho.symm, rfl, rfl, rfl, fun hne => absurd ho hne,
        fun j _ => ⟨rfl, rfl⟩, rfl, rfl, rfl⟩
    · have hs := serveOffset_accepted b o i (taken tag (.setOffset b o) s) hb hm hn hc hlo hhi
      rw [offsetEffect_new i _ (taken tag (.setOffset b o) s) ho] at hs
      have hkept := recompose_demandOnly i (fun d => { d with offset := o.toInt }) (taken tag (.setOffset b o) s)
      obtain ⟨lim, hat⟩ := recompose_at i (fun d => { d with offset := o.toInt }) (taken tag (.setOffset b o) s)
      refine ⟨_, frameOf_settled _ _ _ _ _ h (settled_recompose i _ (taken tag (.setOffset b o) s) h.settled) hs, rfl, ?_, ?_, ?_, ?_,
        fun _ => ?_, fun j hj => recompose_others i _ _ j hj, hkept.track, hkept.store, hkept.trips⟩
      · exact (congrArg DemandState.offset hat :)
      · exact (congrArg DemandState.ff hat :)
      · exact (congrArg DemandState.trim hat :)
      · exact (congrArg DemandState.freeze hat :)
      · exact ((congrArg DemandState.demand hat).trans (hkept.demandOf_eq i) :)
  · exact frameOf_unchanged _ _ _ _ _ h (if_pos hb)
  · refine frameOf_unchanged _ _ _ _ _ h ?_
    exact (if_neg (not_lt.mpr hb)).trans (if_pos (Bool.eq_false_iff.mp hm))
  · refine frameOf_unchanged _ _ _ _ _ h ?_
    exact (serveResetTrim_at b i (taken tag (.resetTrim b) s) hb hm).trans (if_pos (mt (withinN_iff s i).mp (not_le.mpr hn)))
  · refine frameOf_unchanged _ _ _ _ _ h ?_
    exact (serveResetTrim_at b i (taken tag (.resetTrim b) s) hb hm).trans ((if_neg (not_not.mpr ((withinN_iff s i).mpr hn))).trans
      (if_pos (Bool.eq_false_iff.mp hc)))
  · have hserve : serveResetTrim b (taken tag (.resetTrim b) s) = trimEffect is (taken tag (.resetTrim b) s) := by
      obtain ⟨rfl, rfl⟩ | ⟨i, hb, rfl, hn, hc⟩ := his
      · exact (if_neg (by decide)).trans (if_neg (not_not.mpr hm))
      · exact (serveResetTrim_at b i (taken tag (.resetTrim b) s) hb hm).trans
          ((if_neg (not_not.mpr ((withinN_iff s i).mpr hn))).trans (if_neg (not_not.mpr hc)))
    have hnodup : is.Nodup := by
      obtain ⟨-, rfl⟩ | ⟨i, -, rfl, -⟩ := his
      · exact List.Nodup.filter _ (by decide)
      · exact List.nodup_singleton i
    rw [trimEffect_eq] at hserve
    have hkept := zeroTrims_demandOnly is (taken tag (.resetTrim b) s)
    refine ⟨_, frameOf_settled _ _ _ _ _ h (settled_zeroTrims is (taken tag (.resetTrim b) s) h.settled) hserve, rfl, fun i hi => ?_,
      fun j hj => zeroTrims_others is _ j hj, hkept.track, hkept.store, hkept.trips⟩
    obtain ⟨lim, hat⟩ := zeroTrims_at is (taken tag (.resetTrim b) s) i hi hnodup
    exact ⟨(congrArg DemandState.trim hat :), (congrArg DemandState.ff hat :), (congrArg DemandState.offset hat :),
      (congrArg DemandState.freeze hat :), ((congrArg DemandState.demand hat).trans (hkept.demandOf_eq i) :)⟩

end


section
/-! SUPPORT. The slots in order: the lowest GAP_OPEN, the next position of the ring, and a transaction started
(R163, R168, R174). -/

namespace Sys2Proof.Machine

section
variable (s : State)

theorem openFilled_iff (i : Stand) : openFilled s i = true ↔
    ∃ w : Work, s.actuators[i].work = some w ∧ w.cmd = .open_ ∧ w.phase ≠ .moving := by
  unfold openFilled
  cases s.actuators[i].work with
  | none => simp
  | some w => simp

theorem gapFilled_iff (i : Stand) : gapFilled s i = true ↔
    ∃ w : Work, s.actuators[i].work = some w ∧ w.cmd ≠ .open_ ∧ w.phase ≠ .moving := by
  unfold gapFilled
  cases s.actuators[i].work with
  | none => simp
  | some w => simp

/-- The ring holds the stands' gap slots and then the gauges' STANDARDIZE slots (R174). -/
theorem ringFilled_iff (r : Fin 11) : ringFilled s r = true ↔
    (∃ i : Stand, r.val = i.val ∧ gapFilled s i = true) ∨
      ∃ p : Gauge, r.val = 5 + p.val ∧ s.gauges[p].phase = .placed := by
  unfold ringFilled
  split
  · rename_i h
    constructor
    · exact fun hg => .inl ⟨⟨r.val, h⟩, rfl, hg⟩
    · rintro (⟨i, hi, hg⟩ | ⟨p, hp, -⟩)
      · have : i = ⟨r.val, h⟩ := Fin.ext hi.symm
        exact this ▸ hg
      · omega
  · rename_i h
    rw [stdFilled, decide_eq_true_iff]
    constructor
    · exact fun hg => .inr ⟨⟨r.val - 5, by omega⟩, by simp only; omega, hg⟩
    · rintro (⟨i, hi, -⟩ | ⟨p, hp, hg⟩)
      · omega
      · have : p = ⟨r.val - 5, by omega⟩ := Fin.ext (by simp only; omega)
        exact this ▸ hg

/-- The filled position nearest after `r`, going round, is the next one (R174). -/
theorem nextRing_nearest (fuel : Nat) (r q : Fin 11) (hq : ringFilled s q = true)
    (hfuel : (q - r - 1).val < fuel)
    (hmin : ∀ p : Fin 11, ringFilled s p = true → (q - r - 1).val ≤ (p - r - 1).val) :
    nextRing s fuel r = some q := by
  induction fuel generalizing r with
  | zero => omega
  | succ fuel ih =>
    have hnext : ∀ p : Fin 11, p - (r + 1) - 1 = p - r - 1 - 1 := fun p => by abel
    by_cases hr : ringFilled s (r + 1) = true
    · have hzero : (q - r - 1).val = 0 := by
        have := hmin (r + 1) hr
        rw [show r + 1 - r - 1 = 0 by abel] at this
        exact Nat.le_zero.mp this
      have hqr : q = r + 1 := by
        have : q - r - 1 = 0 := Fin.ext hzero
        rw [sub_eq_zero, sub_eq_iff_eq_add] at this
        rw [this, add_comm]
      rw [nextRing, if_pos hr, hqr]
    · have hpos : ∀ p : Fin 11, ringFilled s p = true → p - r - 1 ≠ 0 := fun p hp e => by
        rw [sub_eq_zero, sub_eq_iff_eq_add, add_comm] at e
        exact hr (e ▸ hp)
      have hstep : ∀ p : Fin 11, ringFilled s p = true → (p - (r + 1) - 1).val + 1 = (p - r - 1).val := by
        intro p hp
        have hne := hpos p hp
        rw [hnext, Fin.val_sub_one_of_ne_zero hne]
        have : (p - r - 1).val ≠ 0 := fun e => hne (Fin.ext e)
        omega
      rw [nextRing, if_neg hr]
      refine ih (r + 1) ?_ fun p hp => ?_
      · have := hstep q hq
        omega
      · have := hstep q hq
        have := hstep p hp
        have := hmin p hp
        omega

theorem nextRing_none (h : ∀ q, ringFilled s q = false) (fuel : Nat) (r : Fin 11) :
    nextRing s fuel r = none := by
  induction fuel generalizing r with
  | zero => rfl
  | succ fuel ih =>
    rw [nextRing, if_neg (by rw [h]; exact nofun)]
    exact ih _

theorem firstOpen_lowest (i : Stand) (hi : openFilled s i = true) (hlow : ∀ j < i, openFilled s j = false) :
    firstOpen s = some i := by
  have hat : ∀ k : Stand, allStands[k.val]? = some k := by decide
  obtain ⟨hlen, he⟩ := List.getElem?_eq_some_iff.mp (hat i)
  refine List.find?_eq_some_iff_getElem.mpr ⟨hi, i.val, hlen, he, fun j hj => ?_⟩
  have hj' : j < allStands.length := by omega
  obtain ⟨_, he⟩ := List.getElem?_eq_some_iff.mp (hat ⟨j, by omega⟩)
  rw [he, hlow ⟨j, by omega⟩ hj]
  rfl

theorem firstOpen_none (h : ∀ i, openFilled s i = false) : firstOpen s = none :=
  List.find?_eq_none.mpr fun i _ => by rw [h i]; exact nofun

/-- The link as a won arbitration leaves it with an item to send (R163). -/
def sending (s : State) (nc : Bool) (cls : LinkClass) (item : Item) (a : Option Node) (ring : Fin 11)
    (yield : Bool) : State :=
  s.onLink fun l => { l with
    state := .part, contending := none, nodeContended := nc, ring := ring, yield := yield,
    inFlight := some ⟨item, cls, a, false⟩ }

theorem winArbitration_sends (nc : Bool) (cls : LinkClass) (hc : s.link.contending = some cls)
    (hf : s.link.state = .free) (item : Item) (ring : Fin 11) (h : chooseItem s = some (item, ring)) :
    winArbitration nc s = markInFlight item (sending s nc cls item (itemTarget s item) ring
      (nc && (decide (cls = .normal) || normalItem item))) := by
  unfold winArbitration
  rw [hc]
  dsimp only
  rw [if_neg (not_not.mpr hf), h]
  rfl

theorem winArbitration_empty (nc : Bool) (cls : LinkClass) (hc : s.link.contending = some cls)
    (hf : s.link.state = .free) (h : chooseItem s = none) :
    winArbitration nc s = s.onLink fun l => { l with contending := none, nodeContended := nc } := by
  unfold winArbitration
  rw [hc]
  dsimp only
  rw [if_neg (not_not.mpr hf), h]

theorem chooseItem_stopFirst (h : stopFilled s = true) :
    chooseItem s = some (.stop s.trips.stopWanted true, s.link.ring) := if_pos h

theorem chooseItem_open (h : stopFilled s = false) (i : Stand) (w : Work) (hi : firstOpen s = some i)
    (hw : s.actuators[i].work = some w) : chooseItem s = some (.gapOpen i w.number, s.link.ring) := by
  rw [chooseItem, if_neg (Bool.eq_false_iff.mp h), hi]
  simp only [hw, Option.map_some]

theorem chooseItem_ring (h : stopFilled s = false) (ho : firstOpen s = none) (r : Fin 11)
    (hr : nextRing s 11 s.link.ring = some r) : chooseItem s = (ringItem s r).map fun it => (it, r) := by
  rw [chooseItem, if_neg (Bool.eq_false_iff.mp h), ho, hr]

theorem chooseItem_none (h : stopFilled s = false) (ho : firstOpen s = none)
    (hr : nextRing s 11 s.link.ring = none) : chooseItem s = none := by
  rw [chooseItem, if_neg (Bool.eq_false_iff.mp h), ho, hr]

theorem ringItem_gap (r : Fin 11) (i : Stand) (hr : r.val = i.val) (w : Work)
    (hw : s.actuators[i].work = some w) : ringItem s r = some (.gap i w.cmd w.number) := by
  have hlt : r.val < 5 := by omega
  have hi : (⟨r.val, hlt⟩ : Stand) = i := Fin.ext hr
  rw [ringItem, dif_pos hlt]
  simp only [hi, hw, Option.map_some]

theorem ringItem_gauge (r : Fin 11) (p : Gauge) (hr : r.val = 5 + p.val) :
    ringItem s r = some (.standardize p) := by
  have hge : ¬ r.val < 5 := by omega
  have hp : (⟨r.val - 5, by omega⟩ : Gauge) = p := Fin.ext (by simp only; omega)
  rw [ringItem, dif_neg hge, hp]

theorem markInFlight_open (i : Stand) (w : Work) (hw : s.actuators[i].work = some w) (n : Byte) :
    markInFlight (.gapOpen i n) s = s.onActuator i fun u => { u with work := some { w with phase := .inFlight } } := by
  refine onActuator_congr s i _ _ ?_
  simp only [hw, Option.map_some]

theorem markInFlight_gap (i : Stand) (w : Work) (hw : s.actuators[i].work = some w) (c : GapCommand)
    (n : Byte) :
    markInFlight (.gap i c n) s = s.onActuator i fun u => { u with work := some { w with phase := .inFlight } } :=
  markInFlight_open s i w hw n

/-- A state whose transaction is no normal work is settled. -/
theorem settled_of_item (f : InFlight) (hf : s.link.inFlight = some f) (hn : normalItem f.item = false) :
    Settled s := by
  intro g hg hnormal
  obtain rfl : f = g := Option.some.inj (hf.symm.trans hg)
  rw [hn] at hnormal
  cases hnormal

/-- A state with normal work in flight and neither a stop nor a GAP_OPEN waiting is settled. -/
theorem settled_of_quiet (f : InFlight) (hf : s.link.inFlight = some f) (hn : normalItem f.item = true)
    (hs : ¬ stopRank s.trips.stopSent < stopRank s.trips.stopWanted) (ho : ∀ i, openFilled s i = false) :
    Settled s := by
  intro g hg _
  have hlink : stopOnLink s = false := by
    obtain ⟨item, cls, target, sent⟩ := f
    rw [stopOnLink, hf]
    cases item with
    | stop lv b => cases hn
    | gapOpen | gap | standardize => rfl
  simp only [urgentFilled, stopFilled, hlink, Bool.false_or, Bool.or_eq_false_iff, List.any_eq_false]
  exact ⟨decide_eq_false hs, fun i _ => Bool.eq_false_iff.mp (ho i)⟩

theorem stopFilled_idle (h : s.link.inFlight = none) :
    stopFilled s = decide (stopRank s.trips.stopSent < stopRank s.trips.stopWanted) := by
  rw [stopFilled, stopOnLink, h, Bool.false_or]
end

end Sys2Proof.Machine
end

section
/-! The statement about the part's arbitration. -/

open Sys2Proof Sys2Proof.Machine

section
variable (s : State)

/-- What the part contends at an opportunity (R161, R162). -/
theorem opportunity_contends (h : LinkFree s) (cls : Option LinkClass)
    (hc : (if urgentFilled s then some .urgent else if normalFilled s ∧ ¬ s.link.yield then some .normal
      else none) = cls) :
    exec .arbitrationOpportunity s = .next (s.onLink fun l => { l with contending := cls, yield := false }) := by
  refine line_settled .opportunity s _ h.runs ?_ (settled_of_none _ h.none)
  refine (if_pos ⟨h.free, h.none⟩).trans ?_
  rw [← hc]

/-- A win that sends an item, where nothing is left to end (R163). -/
theorem won_sends (h : LinkFree s) (nc : Bool) (cls : LinkClass) (hc : s.link.contending = some cls)
    (item : Item) (ring : Fin 11) (hi : chooseItem s = some (item, ring))
    (hs : Settled (markInFlight item (sending s nc cls item (itemTarget s item) ring
      (nc && (decide (cls = .normal) || normalItem item))))) :
    exec (.arbitrationWon nc) s = .next (markInFlight item (sending s nc cls item (itemTarget s item) ring
      (nc && (decide (cls = .normal) || normalItem item)))) :=
  line_settled (.won nc) s _ h.runs (winArbitration_sends s nc cls hc h.free item ring hi) hs
end

/-- Settles O54: the class by what waits; a win takes the stop, else the lowest GAP_OPEN, else the next slot of
the ring. -/
theorem arbitrationChoosesWork : Obligations.ArbitrationChoosesWork := by
  unfold Obligations.ArbitrationChoosesWork
  intro s h
  have hurgent := urgentFilled_iff s h.none
  have hnormal := normalFilled_iff s
  refine ⟨fun hu => opportunity_contends s h _ (if_pos (hurgent.mpr hu)), fun hu hn hy => ?_, fun hu hn => ?_,
    fun nc hc => ?_, fun cls nc hc hroles => ?_⟩
  · refine opportunity_contends s h _ ((if_neg (mt hurgent.mp hu)).trans (if_pos ⟨hnormal.mpr hn, ?_⟩))
    rw [hy]
    exact nofun
  · refine opportunity_contends s h _ ((if_neg (mt hurgent.mp hu)).trans (if_neg fun hboth => ?_))
    obtain hn | hy := hn
    · exact hn (hnormal.mp hboth.1)
    · exact hboth.2 hy
  · refine line_idle (.won nc) s ⟨h.runs, settled_of_none s h.none⟩ ?_
    change winArbitration nc s = s
    rw [winArbitration, hc]
  · intro sent stopWaits opens busy
    have hstop := stopFilled_idle s h.none
    have hopens : ∀ i, openFilled s i = true ↔ opens i := openFilled_iff s
    have hbusy : ∀ r, ringFilled s r = true ↔ busy r := by
      intro r
      rw [ringFilled_iff]
      simp only [gapFilled_iff, ← exists_and_left]
      rfl
    refine ⟨fun hw => ?_, fun hw i w a hi hlow hwork ha => ?_, fun hw hno r hr hmin => ?_, fun hu hn => ?_⟩
    · refine (won_sends s h nc cls hc _ _ (chooseItem_stopFirst s (hstop.trans (decide_eq_true hw)))
        (settled_of_item _ _ rfl rfl)).trans ?_
      simp only [normalItem, Bool.or_false]
      rfl
    · have hfirst := firstOpen_lowest s i ((hopens i).mpr hi) fun j hj =>
        Bool.eq_false_iff.mpr (mt (hopens j).mp (hlow j hj))
      refine (won_sends s h nc cls hc _ _ (chooseItem_open s (hstop.trans (decide_eq_false hw)) i w hfirst hwork)
        (settled_of_item _ _ rfl rfl)).trans ?_
      rw [itemTarget, roleNode_eq s (.stand i) a hroles nofun ha, markInFlight_open (sending s nc cls _ _ _ _) i w hwork]
      simp only [normalItem, Bool.or_false]
      rfl
    · have hfirst := firstOpen_none s fun i => Bool.eq_false_iff.mpr (mt (hopens i).mp (hno i))
      have hring := nextRing_nearest s 11 s.link.ring r ((hbusy r).mpr hr) (Fin.isLt _)
        fun p hp => hmin p ((hbusy p).mp hp)
      have hitem := chooseItem_ring s (hstop.trans (decide_eq_false hw)) hfirst r hring
      refine ⟨fun i w a hri hwork ha => ?_, fun p a hrp ha => ?_⟩
      · rw [ringItem_gap s r i hri w hwork] at hitem
        have hcmd : w.cmd ≠ .open_ := by
          obtain ⟨j, v, hrj, hv, hne, -⟩ | ⟨p, hrp, -⟩ := hr
          · obtain rfl : j = i := Fin.ext (hrj.symm.trans hri)
            obtain rfl : v = w := Option.some.inj (hv.symm.trans hwork)
            exact hne
          · omega
        have hnone : ∀ j, openFilled s j = false := fun j => Bool.eq_false_iff.mpr (mt (hopens j).mp (hno j))
        refine (won_sends s h nc cls hc _ _ hitem ?_).trans ?_
        · rw [markInFlight_gap (sending s nc cls _ _ _ _) i w hwork]
          refine settled_of_quiet _ _ rfl rfl hw fun j => Bool.eq_false_iff.mpr fun hj => ?_
          have := (retargets_onActuator i _ s (.inr ?_)).openFilled_mono j hj
          · rw [hnone j] at this
            cases this
          · rintro v ⟨⟩
            exact hcmd
        · rw [itemTarget, roleNode_eq s (.stand i) a hroles nofun ha, markInFlight_gap (sending s nc cls _ _ _ _) i w hwork]
          simp only [normalItem, Bool.or_true, Bool.and_true]
          rfl
      · rw [ringItem_gauge s r p hrp] at hitem
        have hnone : ∀ j, openFilled s j = false := fun j => Bool.eq_false_iff.mpr (mt (hopens j).mp (hno j))
        refine (won_sends s h nc cls hc _ _ hitem (settled_of_quiet _ _ rfl rfl hw hnone)).trans ?_
        rw [itemTarget, roleNode_eq s (.gauge p) a hroles nofun ha]
        simp only [normalItem, Bool.or_true, Bool.and_true]
        rfl
    · refine line_settled (.won nc) s _ h.runs (winArbitration_empty s nc cls hc h.free ?_)
        (settled_of_none _ h.none)
      have hnone : ∀ i, openFilled s i = false := fun i => Bool.eq_false_iff.mpr fun hi =>
        hu (.inr ⟨i, (hopens i).mp hi⟩)
      refine chooseItem_none s (hstop.trans (decide_eq_false fun hw => hu (.inl hw))) (firstOpen_none s hnone)
        (nextRing_none s (fun q => Bool.eq_false_iff.mpr fun hq => hn ?_) 11 _)
      obtain ⟨i, w, -, hw⟩ | ⟨p, -, hp⟩ := (hbusy q).mp hq
      · exact .inl ⟨i, w, hw⟩
      · exact .inr ⟨p, hp⟩

end


section
/-! SUPPORT. The bits of an arbitration (R210): two contenders of as many bits leave the higher number on the
pair. -/

namespace Sys2Proof.Machine

/-- The number a run of bits spells, most significant first. -/
def bitsValue : List Bool → Nat
  | [] => 0
  | b :: bs => bit b (2 ^ bs.length) + bitsValue bs

theorem bitsValue_lt (bs : List Bool) : bitsValue bs < 2 ^ bs.length := by
  induction bs with
  | nil => decide
  | cons b bs ih =>
    rw [bitsValue, List.length_cons, pow_succ]
    cases b <;> simp [bit] <;> omega

theorem contest_alone (bs : List Bool) : contest bs.length [bs] = bs := by
  induction bs with
  | nil => rfl
  | cons b bs ih =>
    simp only [List.length_cons, contest, List.any_cons, List.headD_cons, List.any_nil, Bool.or_false,
      List.filter_cons, beq_self_eq_true, if_true, List.filter_nil, List.map_cons, List.tail_cons, List.map_nil,
      ih]

/-- At the first bit in which two contenders differ the one that drives 0 stops (R210). -/
theorem contest_two (n : Nat) (xs ys : List Bool) (hx : xs.length = n) (hy : ys.length = n) :
    contest n [xs, ys] = if bitsValue xs < bitsValue ys then ys else xs := by
  induction n generalizing xs ys with
  | zero =>
    rw [List.length_eq_zero_iff.mp hx, List.length_eq_zero_iff.mp hy]
    rfl
  | succ n ih =>
    obtain ⟨x, xs, rfl⟩ := List.exists_cons_of_length_eq_add_one hx
    obtain ⟨y, ys, rfl⟩ := List.exists_cons_of_length_eq_add_one hy
    rw [List.length_cons, Nat.add_right_cancel_iff] at hx hy
    have hx' := bitsValue_lt xs
    have hy' := bitsValue_lt ys
    rw [hx] at hx'
    rw [hy] at hy'
    have hsame := ih xs ys hx hy
    have honly : contest n [xs] = xs ∧ contest n [ys] = ys := by
      constructor
      · rw [← hx, contest_alone]
      · rw [← hy, contest_alone]
    obtain ⟨hxs, hys⟩ := honly
    have same : ∀ z : Bool, contest (n + 1) [z :: xs, z :: ys] = z :: contest n [xs, ys] := by
      intro z
      cases z <;> rfl
    have value : ∀ z : Bool, (bitsValue (z :: xs) < bitsValue (z :: ys)) = (bitsValue xs < bitsValue ys) := by
      intro z
      simp only [bitsValue, hx, hy, Nat.add_lt_add_iff_left]
    cases x with
    | false =>
      cases y with
      | false => simp only [same, hsame, value, apply_ite (List.cons false)]
      | true =>
        have hless : bitsValue (false :: xs) < bitsValue (true :: ys) := by
          simp [bitsValue, bit, hy]
          omega
        rw [if_pos hless]
        exact congrArg (List.cons true) hys
    | true =>
      cases y with
      | false =>
        have hmore : ¬ bitsValue (true :: xs) < bitsValue (false :: ys) := by
          simp [bitsValue, bit, hx]
          omega
        rw [if_neg hmore]
        exact congrArg (List.cons true) hxs
      | true => simp only [same, hsame, value, apply_ite (List.cons true)]

theorem bitsValue_msbFirst : ∀ b : Byte, bitsValue (msbFirst b) = b.toNat := by decide +kernel

theorem pairByte_odd : ∀ b : Byte, (pairByte b).countP id % 2 = 1 := by decide +kernel

theorem pairArbitration_odd (b : Byte) : (pairArbitration b true).countP id % 2 = 1 := by
  have : (pairArbitration b true).countP id = (pairByte b).countP id := by
    simp [pairArbitration, pairByte, msbFirst]
  rw [this, pairByte_odd]

theorem lsbFirst_at (b : Byte) (k : Nat) (h : k < 8) : (lsbFirst b)[k]? = some (b.getLsbD k) := by
  rw [lsbFirst, List.getElem?_map, List.getElem?_range h]
  rfl

theorem lsbFirst_length (b : Byte) : (lsbFirst b).length = 8 := by simp [lsbFirst]

theorem msbFirst_length (b : Byte) : (msbFirst b).length = 8 := by simp [msbFirst, lsbFirst]

theorem msbFirst_at (b : Byte) (k : Nat) (h : k < 8) : (msbFirst b)[k]? = some (b.getLsbD (7 - k)) := by
  rw [msbFirst, List.getElem?_reverse (by rw [lsbFirst_length]; exact h), lsbFirst_length,
    show 8 - 1 - k = 7 - k by omega, lsbFirst_at b _ (by omega)]

/-- Two bytes that meet on the pair read as the higher (R210). -/
theorem contest_bytes (a b : Byte) :
    contest 8 [msbFirst a, msbFirst b] = msbFirst (if a.toNat < b.toNat then b else a) := by
  rw [contest_two 8 _ _ (msbFirst_length a) (msbFirst_length b), bitsValue_msbFirst, bitsValue_msbFirst,
    apply_ite msbFirst]

/-- The part's byte has the highest address (R210), so a node outranks it by its class alone. -/
theorem nodeOutranks_iff (urgent : Bool) (a : BitVec 4) (cls : LinkClass) :
    (arbitrationByte urgent a).toNat ≤ (partByte cls).toNat ↔ urgent = false ∨ cls = .urgent := by
  have ha := a.isLt
  cases urgent <;> cases cls <;> simp [arbitrationByte, partByte, bit] <;> omega

end Sys2Proof.Machine
end

section
/-! The statement about the bits of an arbitration, a node's win and HOLD. -/

open Sys2Proof Sys2Proof.Machine

section
variable (s : State)

/-- A node's win on a FREE link that the part does not outrank (R161). -/
theorem nodeWins_free (urgent : Bool) (a : BitVec 4) (hf : s.link.state = .free)
    (ho : ∀ cls, s.link.contending = some cls → urgent = true ∧ cls = .normal) :
    nodeWins urgent a s = s.onLink fun l =>
      { l with state := .node, holdOther := true, sender := some a, answer := none,
               nodeContended := l.nodeContended || l.contending.isSome, contending := none } := by
  unfold nodeWins
  rw [hf]
  dsimp only
  cases hc : s.link.contending with
  | none => rfl
  | some cls =>
    obtain ⟨rfl, rfl⟩ := ho cls hc
    refine if_neg ?_
    simp only [decide_eq_true_eq, nodeOutranks_iff]
    decide

theorem nodeWins_outranked (urgent : Bool) (a : BitVec 4) (cls : LinkClass) (hf : s.link.state = .free)
    (hc : s.link.contending = some cls) (ho : urgent = false ∨ cls = .urgent) : nodeWins urgent a s = s := by
  unfold nodeWins
  rw [hf, hc]
  exact if_pos (decide_eq_true ((nodeOutranks_iff urgent a cls).mpr ho))

/-- A change of the link that keeps the part's transaction leaves a settled state. -/
theorem settled_onLink (f : Link → Link) (h : Settled s) (hf : (f s.link).inFlight = s.link.inFlight) :
    Settled (s.onLink f) :=
  (settled_congr s (s.onLink f) hf rfl rfl fun _ => rfl).mpr h

theorem run_nodeWins (hp : s.power = .running) (urgent : Bool) (a : BitVec 4) (t : State)
    (ht : nodeWins urgent a s = t) (hs : Settled t) : exec (.nodeWinsArbitration urgent a) s = .next t :=
  (if_pos hp).trans (line_settled (.nodeWon urgent a) s t hp ht hs)

theorem run_releaseHold (hp : s.power = .running) (t : State)
    (ht : releaseHold s = t) (hs : Settled t) : exec .holdReleased s = .next t :=
  (if_pos hp).trans (line_settled .holdFreed s t hp ht hs)
end

/-- Settles O55: the higher byte on the pair, a node's win by its class, and HOLD by the link's state. -/
theorem nodeHoldsAndReleases : Obligations.NodeHoldsAndReleases := by
  unfold Obligations.NodeHoldsAndReleases
  refine ⟨fun a b => ⟨contest_bytes a b, pairByte_odd a, pairArbitration_odd a, fun k => ⟨?_, ?_⟩⟩,
    fun s urgent a h hc => ?_, fun s urgent a cls h hc => ⟨fun hout => ?_, fun hout => ?_⟩,
    fun s h => ⟨fun hst urgent a => ?_, fun hst urgent a => ?_, fun hst hn => ?_, fun hst => ?_,
      fun hst => ?_⟩⟩
  · rw [pairByte, List.getElem?_append_left (by rw [lsbFirst_length]; exact k.isLt), lsbFirst_at a _ k.isLt]
  · rw [pairArbitration, List.getElem?_append_left (by rw [msbFirst_length]; exact k.isLt),
      msbFirst_at a _ k.isLt]
  · refine run_nodeWins s h.runs urgent a _ ((nodeWins_free s urgent a h.free ?_).trans ?_)
      (settled_of_none _ h.none)
    · rw [hc]
      exact nofun
    · simp only [State.onLink, hc, Option.isSome_none, Bool.or_false]
  · refine run_nodeWins s h.runs urgent a _ ((nodeWins_free s urgent a h.free ?_).trans ?_)
      (settled_of_none _ h.none)
    · rw [hc]
      rintro _ ⟨⟩
      exact hout
    · simp only [State.onLink, hc, Option.isSome_some, Bool.or_true]
  · exact run_nodeWins s h.runs urgent a _ (nodeWins_outranked s urgent a cls h.free hc hout)
      (settled_of_none s h.none)
  · exact run_nodeWins s h.runs urgent a _ (nodeWins_held urgent a s hst) h.settled
  · have hset := settled_onLink s (fun l => { l with holdOther := true }) h.settled rfl
    refine ⟨_, run_nodeWins s h.runs urgent a _ (nodeWins_resetting urgent a s hst) hset, rfl, ?_⟩
    refine line_settled .pulseOver _ _ h.runs ((if_pos hst).trans ?_)
      (settled_onLink s (fun l => { l with state := .node, holdOther := true }) h.settled rfl)
    rfl
  · refine run_releaseHold s h.runs _ ?_ (settled_of_none _ hn)
    rw [releaseHold, hst]
  · refine run_releaseHold s h.runs _ ?_ (settled_onLink s _ h.settled rfl)
    rw [releaseHold, hst]
  · refine run_releaseHold s h.runs _ ?_ h.settled
    obtain hst | hst := hst <;> rw [releaseHold, hst]

end


section
/-! SUPPORT. The loss of a node (R158 to R160) and a transaction not delivered (R166), as the statements say
them. -/

namespace Sys2Proof.Machine

/-! ### A gauge whose node became LOST (R46, R61) -/

theorem onNode_congr (s : State) (a : Node) (f g : NodeEntry → NodeEntry)
    (h : f s.nodes[a] = g s.nodes[a]) : s.onNode a f = s.onNode a g := by
  simp only [State.onNode, upd, h]

/-- A gauge's record right after its state became ABSENT (R46, R63). -/
def gaugeAbsent (r : GaugeRecord) : GaugeRecord :=
  { r with
    mode := .absent
    phase := phaseAfter r.phase r.mode .absent
    inFlight := r.inFlight && decide (phaseAfter r.phase r.mode .absent = .placed) }

theorem setGaugeMode_absent (p : Gauge) (s : State) :
    setGaugeMode p .absent s = s.onGauge p gaugeAbsent := by
  have hraw : setGaugeMode p .absent s = s.onGauge p fun r =>
      { r with
        mode := .absent
        phase := phaseAfter s.gauges[p].phase s.gauges[p].mode .absent
        inFlight := r.inFlight && decide (phaseAfter s.gauges[p].phase s.gauges[p].mode .absent = .placed)
        holdOff := r.holdOff && true } := rfl
  rw [hraw]
  refine onGauge_congr s p _ _ ?_
  simp only [Bool.and_true]
  rfl

/-- The tests of a gauge that is ABSENT withdraw work placed and not yet sent, and place none (R61). -/
theorem testedRecord_absent (near : Bool) (r : GaugeRecord) :
    testedRecord near (gaugeAbsent r) = gaugeGone r := by
  unfold testedRecord gaugeAbsent gaugeGone phaseAfter
  cases hphase : r.phase with
  | none | waiting => simp
  | placed => cases hf : r.inFlight <;> simp
  | accepted | running => cases hmode : r.mode <;> simp

theorem gaugeLost_eq (p : Gauge) (s : State) (hi : s.gauges[p].installed = true) :
    gaugeLost p s = s.onGauge p gaugeGone := by
  have hat : (s.onGauge p gaugeAbsent).gauges[p] = gaugeAbsent s.gauges[p] := by
    rw [State.onGauge_gauges, upd_same]
  rw [gaugeLost, setGaugeMode_absent, gaugeTests_installed p _ (by rw [hat]; exact hi), onGauge_onGauge]
  exact onGauge_congr s p _ _ (testedRecord_absent _ _)

/-! ### A source raised (R130 to R133) -/

section
variable (src : TripSource) (d : Nat) (s : State)

/-- A source raised stands LATCHED. -/
theorem raiseTrip_raised : (raiseTrip src d s).trips.records[sourceIndex src].latched = true := by
  rw [raiseTrip_latched, decide_eq_true rfl, Bool.true_or]

theorem raiseTrip_clear (h : s.trips.records[sourceIndex src].latched = false) :
    (raiseTrip src d s).trips.records[sourceIndex src] = { s.trips.records[sourceIndex src] with
      latched := true, rank := latchedCount s + 1, time := s.now, count := 1, reported := false,
      detail := d } := by
  rw [raiseTrip_records, upd_same, if_neg (Bool.eq_false_iff.mp h)]

theorem raiseTrip_counts (h : s.trips.records[sourceIndex src].latched = true) :
    (raiseTrip src d s).trips.records[sourceIndex src] = { s.trips.records[sourceIndex src] with
      count := min 255 (s.trips.records[sourceIndex src].count + 1) } := by
  rw [raiseTrip_records, upd_same, if_pos h]

theorem raiseTrip_others (j : Source) (hj : j ≠ sourceIndex src) :
    (raiseTrip src d s).trips.records[j] = s.trips.records[j] := by
  rw [raiseTrip_records, upd_other _ _ _ _ hj]

theorem raiseTrip_opens (h : s.trips.records[sourceIndex src].latched = false) (i : Stand)
    (hi : s.trips.records[sourceIndex src].affected.getLsbD i.val = true)
    (ho : s.actuators[i].state ≠ .open_) (hg : s.actuators[i].state ≠ .opening)
    (hf : s.actuators[i].state ≠ .openFailed) : (raiseTrip src d s).actuators[i] = openingOf s i := by
  rw [raiseTrip, if_neg (Bool.eq_false_iff.mp h)]
  exact latch_opens _ d s i hi ho hg hf
end

/-! ### A node LOST (R160) -/

section
variable (a : Node) (c : Int) (s : State) (hroom : s.host.events.length < 48)
include hroom

theorem raise_nodeLost : raise .nodeLost (.node a) none c (s.onNode a fun n => { n with state := .lost }) =
    markedLost a (BitVec.ofInt 32 c) s :=
  raise_room _ _ _ _ _ hroom

theorem nodeGone_loseNode : NodeGone a (BitVec.ofInt 32 c) s (loseNode a c s) := by
  have hlost := raise_nodeLost a c s hroom
  constructor
  · intro hq
    unfold loseNode
    dsimp only
    rw [hlost]
    obtain hr | ⟨hm, hr | ⟨i, hr⟩⟩ := hq
    · rw [hr]
    · rw [hr]
      exact if_pos hm
    · rw [hr]
      exact if_pos hm
  · intro p hr hi
    unfold loseNode
    dsimp only
    rw [hlost, hr]
    exact gaugeLost_eq p _ hi
  · intro k hm hk
    obtain ⟨src, rfl, hraised⟩ : ∃ src, sourceIndex src = k ∧
        loseNode a c s = raiseTrip src a.val (markedLost a (BitVec.ofInt 32 c) s) := by
      unfold loseNode
      dsimp only
      rw [hlost]
      obtain ⟨hr, hk⟩ | ⟨i, hr, hk⟩ := hk
      · rw [hr]
        exact ⟨.nodeLostEntry, Fin.ext hk.symm, if_neg hm⟩
      · rw [hr]
        exact ⟨.nodeLost i, Fin.ext hk.symm, if_neg hm⟩
    rw [hraised]
    exact ⟨by simp only [raiseTrip_frame], raiseTrip_raised _ _ _,
      fun hl => ⟨raiseTrip_clear src _ (markedLost a _ s) hl,
        fun i hi ho hg hf => raiseTrip_opens src _ (markedLost a _ s) hl i hi ho hg hf⟩,
      fun hl => raiseTrip_counts src _ (markedLost a _ s) hl,
      fun j hj => raiseTrip_others src _ (markedLost a _ s) j hj⟩
end

/-- The loss of a node leaves urgent work, if any, in the stands it opens alone; normal work on the link makes
way for that (R173). -/
theorem NodeGone.abandon {a : Node} {c : BitVec 32} {s t : State} (h : NodeGone a c s t) (hs : Settled s) :
    NodeGone a c s (abandonForUrgent t) := by
  have hmarked : Settled (markedLost a c s) := (settled_congr s _ rfl rfl rfl fun _ => rfl).mpr hs
  refine ⟨fun hq => ?_, fun p hr hi => ?_, fun k hm hk => ?_⟩
  · have := h.quiet hq
    subst this
    exact abandon_of_settled _ hmarked
  · have := h.gauge p hr hi
    subst this
    exact abandon_of_settled _ ((settled_onGauge p _ _).mpr hmarked)
  · obtain ⟨hnodes, hl, hnew, hcount, hothers⟩ := h.trip k hm hk
    rw [abandonForUrgent_nodes, abandonForUrgent_trips]
    refine ⟨hnodes, hl, fun hc => ⟨(hnew hc).1, fun i hi ho hg hf => ?_⟩, hcount, hothers⟩
    have hopen := (hnew hc).2 i hi ho hg hf
    rw [abandonForUrgent_queued t i ⟨_, congrArg Actuator.work hopen, rfl⟩, hopen]

/-! ### A transaction not delivered (R109, R118, R123, R166) -/

theorem requeue_at (i : Stand) (w : Work) (s : State) : (requeue i w s).actuators[i] =
    { s.actuators[i] with work := some { w with phase := .queued } } := by
  rw [requeue, State.onActuator_actuators, upd_same]

section
variable (s : State) (i : Stand) (n : Byte)

theorem takeOutcome_travel (pos : Int) (hw : s.actuators[i].work = some ⟨.travel pos, n, .inFlight⟩) :
    takeOutcome i n .accept s = (s.onActuator i fun a =>
      { a with p := pos, work := some ⟨.travel pos, n, .moving⟩,
               moveT := some ⟨s.now, s.stands[i].moveTimeout⟩ }) ∧
    takeOutcome i n .reject s = actuatorFault i s ∧
    (s.actuators[i].state = .travel →
      takeOutcome i n .notDelivered s = applyTravel i (requeue i ⟨.travel pos, n, .inFlight⟩ s)) := by
  refine ⟨?_, ?_, fun hst => ?_⟩
  · simp [takeOutcome, hw, -Fin.getElem_fin]
  · simp [takeOutcome, hw, -Fin.getElem_fin]
  · simp [takeOutcome, hw, requeue_at, hst, -Fin.getElem_fin]

theorem takeOutcome_trim (v : Int) (hw : s.actuators[i].work = some ⟨.trim v, n, .inFlight⟩) :
    takeOutcome i n .accept s = acceptTrim i v s ∧ takeOutcome i n .reject s = rejectTrim i v s ∧
    (s.actuators[i].state = .hold →
      takeOutcome i n .notDelivered s = applyHold i (requeue i ⟨.trim v, n, .inFlight⟩ s)) := by
  refine ⟨?_, ?_, fun hst => ?_⟩
  · simp [takeOutcome, hw, -Fin.getElem_fin]
  · simp [takeOutcome, hw, -Fin.getElem_fin]
  · simp [takeOutcome, hw, requeue_at, hst, -Fin.getElem_fin]

theorem takeOutcome_open (hw : s.actuators[i].work = some ⟨.open_, n, .inFlight⟩) :
    takeOutcome i n .accept s = (s.onActuator i fun a => { a with work := some ⟨.open_, n, .moving⟩ }) ∧
    takeOutcome i n .reject s = openFailed i 1 s ∧
    takeOutcome i n .notDelivered s = (s.onActuator i fun a => { a with work := some ⟨.open_, n, .queued⟩ }) := by
  refine ⟨?_, ?_, ?_⟩ <;> simp [takeOutcome, hw, requeue, -Fin.getElem_fin]

theorem takeOutcome_stale (o : Handed)
    (h : ∀ w, s.actuators[i].work = some w → w.number ≠ n ∨ w.phase ≠ .inFlight) :
    takeOutcome i n o s = s := by
  unfold takeOutcome
  cases hw : s.actuators[i].work with
  | none => rfl
  | some w =>
    refine if_neg fun hc => ?_
    obtain hn | hp := h w hw
    · exact hn hc.2
    · exact hp hc.1

end

theorem notDelivered_handOn (item : Item) (e : TxnEnd) (s : State) (he : handedAs e = .notDelivered) :
    NotDelivered item s (handOn item e s) := by
  constructor
  · rintro i pos tgt n rfl hw hst ht
    obtain ⟨-, -, hnot⟩ := takeOutcome_travel s i n pos hw
    have hat := requeue_at i ⟨.travel pos, n, .inFlight⟩ s
    simp only [handOn, he, hnot hst]
    rw [applyTravel_queued i (requeue i ⟨.travel pos, n, .inFlight⟩ s) tgt (by rw [hat]; exact ht)
      (by rw [hat]; rintro _ ⟨⟩; rfl), hat]
    refine ⟨fun hsame => ?_, fun hmoved => ?_⟩
    · refine if_pos ?_
      rw [← hsame]
      rfl
    · refine (if_neg fun e => hmoved ?_).trans ?_
      · simpa using e.symm
      · rw [buildWork, requeue, onActuator_onActuator]
        rfl
  · rintro i v tgt n rfl hw hst ht
    obtain ⟨-, -, hnot⟩ := takeOutcome_trim s i n v hw
    have hat := requeue_at i ⟨.trim v, n, .inFlight⟩ s
    have htgt : (requeue i ⟨.trim v, n, .inFlight⟩ s).actuators[i].t = some tgt := by
      rw [hat]
      exact ht
    have hqueued : ∀ w, (requeue i ⟨.trim v, n, .inFlight⟩ s).actuators[i].work = some w → w.phase = .queued := by
      rw [hat]
      rintro _ ⟨⟩
      rfl
    simp only [handOn, he, hnot hst]
    refine ⟨fun hp => ?_, fun hp hb hv => ?_, fun hp hb hv => ?_, fun hp hb => ?_⟩
    · rw [applyHold_there i _ (by rw [hat]; exact ht.trans (congrArg some hp)), dropWork, requeue,
        onActuator_onActuator]
      rfl
    · rw [applyHold_band i _ tgt htgt (by rw [hat]; exact hp) hb.1 (by rw [hat]; exact hb.2) hqueued, hat]
      refine if_pos ?_
      rw [← hv]
      rfl
    · rw [applyHold_band i _ tgt htgt (by rw [hat]; exact hp) hb.1 (by rw [hat]; exact hb.2) hqueued, hat]
      refine (if_neg fun e => hv ?_).trans ?_
      · simpa using e.symm
      · rw [buildWork, requeue, onActuator_onActuator]
        rfl
    · rw [applyHold_beyond i _ tgt htgt (by rw [hat]; exact hp) (by rw [hat]; exact hb),
        enterTravel_builds i _ tgt htgt, hat, requeue, onActuator_onActuator]
      rfl
  · rintro i n rfl hw
    simp only [handOn, he]
    exact (takeOutcome_open s i n hw).2.2
  · rintro p rfl hp hf
    simp only [handOn, he, takeStdOutcome]
    exact if_pos ⟨hp, hf⟩
  · rintro lv b rfl
    rfl
  · rintro i n (rfl | ⟨cmd, rfl⟩) hs
    · exact takeOutcome_stale s i n _ hs
    · exact takeOutcome_stale s i n _ hs
  · rintro p rfl hs
    simp only [handOn, takeStdOutcome]
    refine if_neg fun hc => ?_
    obtain hp | hf := hs
    · exact hp hc.1
    · rw [hf] at hc
      exact absurd hc.2 nofun

end Sys2Proof.Machine
end


section
/-! SUPPORT. A node's failure count (R159), and the ends of a transaction to a node (R164, R166). -/

namespace Sys2Proof.Machine

section
variable (a : Node) (s : State)

/-- The node's entry with one failure more (R159). -/
def oneFailure : State := s.onNode a fun n => { n with failures := min 3 (n.failures + 1) }

theorem oneFailure_at : (oneFailure a s).nodes[a] =
    { s.nodes[a] with failures := min 3 (s.nodes[a].failures + 1) } := by
  rw [oneFailure, State.onNode_nodes, upd_same]

theorem countFailure_eq : countFailure a s =
    if s.nodes[a].state = .present ∧ 2 ≤ s.nodes[a].failures then loseNode a 1 (oneFailure a s)
    else oneFailure a s := by
  have hthird : (oneFailure a s).nodes[a].failures = 3 ↔ 2 ≤ s.nodes[a].failures := by
    rw [oneFailure_at]
    change min 3 (s.nodes[a].failures + 1) = 3 ↔ _
    omega
  have hraw : countFailure a s =
      if s.nodes[a].state = .present ∧ (oneFailure a s).nodes[a].failures = 3 then
        loseNode a 1 (oneFailure a s) else oneFailure a s := rfl
  simp only [hraw, hthird]

/-- Short of its third failure in a row a node stays, and so does one that is not PRESENT. -/
theorem countFailure_kept (h : s.nodes[a].state ≠ .present ∨ s.nodes[a].failures < 2) :
    countFailure a s = oneFailure a s := by
  rw [countFailure_eq, if_neg]
  rintro ⟨hp, hf⟩
  obtain h | h := h
  · exact h hp
  · exact absurd hf (not_le.mpr h)

/-- At its third failure in a row a PRESENT node becomes LOST (R159, R160). -/
theorem countFailure_gone (hp : s.nodes[a].state = .present) (hf : 2 ≤ s.nodes[a].failures)
    (hroom : s.host.events.length < 48) : NodeGone a 1 (oneFailure a s) (countFailure a s) := by
  rw [countFailure_eq, if_pos ⟨hp, hf⟩]
  exact nodeGone_loseNode a 1 (oneFailure a s) hroom

/-- The end of a transaction that counts as a failure of its target. -/
def failing (e : TxnEnd) : Prop := e = .noResponse ∨ e = .answered .checkError

theorem failing_handedAs {e : TxnEnd} (h : failing e) : handedAs e = .notDelivered := by
  obtain rfl | rfl := h <;> rfl

/-- The link after a failed transaction of the part (R164, R178). -/
def failedLink : State := s.onLink fun l =>
  { l with state := .free, inFlight := none, respTimer := none, counters :=
    { l.counters with failed := min 65535 (l.counters.failed + 1) } }

theorem unanswered_eq : unanswered a s = oneFailure a (failedLink s) := rfl

theorem endTxn_failing (e : TxnEnd) (he : failing e) (f : InFlight) (hf : f.target = some a) :
    endTxn f e (releaseLink s) = handOn f.item e (countFailure a (failedLink s)) := by
  rw [endTxn, hf]
  obtain rfl | rfl := he <;> rfl

/-- A failed transaction is handed on as not delivered, after the node's loss where it was the third failure
(R159, R160, R166). -/
theorem endTxn_notDelivered (e : TxnEnd) (he : failing e) (f : InFlight) (hf : f.target = some a) :
    ((s.nodes[a].state ≠ .present ∨ s.nodes[a].failures < 2) →
      NotDelivered f.item (unanswered a s) (endTxn f e (releaseLink s))) ∧
    (s.nodes[a].state = .present → 2 ≤ s.nodes[a].failures → s.host.events.length < 48 →
      ∃ u, NodeGone a 1 (unanswered a s) u ∧ NotDelivered f.item u (endTxn f e (releaseLink s))) := by
  rw [endTxn_failing a s e he f hf, unanswered_eq]
  have hnot := notDelivered_handOn f.item e (countFailure a (failedLink s)) (failing_handedAs he)
  refine ⟨fun hk => ?_, fun hp hl hroom => ⟨_, countFailure_gone a (failedLink s) hp hl hroom, hnot⟩⟩
  rw [countFailure_kept a (failedLink s) hk] at hnot ⊢
  exact hnot

/-- A transaction that the node has answered otherwise clears its failure count (R164). -/
theorem endTxn_answered (r : Answer) (hr : r ≠ .checkError) (f : InFlight) (hf : f.target = some a) :
    endTxn f (.answered r) (releaseLink s) = handOn f.item (.answered r) (released a s) := by
  rw [endTxn, hf]
  cases r with
  | checkError => exact absurd rfl hr
  | accept | reject | busy => rfl

theorem endTxn_released (e : TxnEnd) (f : InFlight) : (endTxn f e (releaseLink s)).link.inFlight = none := by
  simp [endTxn, releaseLink]
end

end Sys2Proof.Machine
end

section
/-! The statements about silence and about a node's frame. -/

open Sys2Proof Sys2Proof.Machine

/-- Settles O60: a tick moves the time base alone; a node's silence is judged against SILENCE_MS. -/
theorem silenceLosesNodes : Obligations.SilenceLosesNodes := by
  unfold Obligations.SilenceLosesNodes
  intro s h
  refine ⟨line_settled .tick s _ h.runs rfl ((settled_congr s _ rfl rfl rfl fun _ => rfl).mpr h.settled),
    fun a => ⟨fun hq => ?_, fun hp hl hroom => ?_⟩⟩
  · refine line_idle (.silence a) s h (if_neg fun hs => ?_)
    simp only [silent, Bool.and_eq_true, decide_eq_true_eq] at hs
    obtain ⟨hp, hl⟩ := hs
    obtain hn | hl' := hq
    · exact hn hp
    · exact absurd hl (not_lt.mpr hl')
  · refine ⟨_, whileRunning_running _ _ h.runs, ?_⟩
    have hsilent : silent s a = true := by
      rw [silent, decide_eq_true hp, Bool.true_and]
      exact decide_eq_true hl
    rw [silenceTest, if_pos hsilent]
    exact (nodeGone_loseNode a 0 s hroom).abandon h.settled

section
variable (s : State) (f : NodeFrame) (sender : BitVec 4)

theorem receiveFrame_judged (hn : s.link.state = .node) (hs : s.link.sender = some sender) :
    (judgeFrame s sender f = .unanswered → receiveFrame f s = judged none s) ∧
    (judgeFrame s sender f = .checkError → receiveFrame f s =
      (judged (some .checkError) s).onLink fun l => { l with counters :=
        { l.counters with checkErrors := min 65535 (l.counters.checkErrors + 1) } }) ∧
    (judgeFrame s sender f = .reject → receiveFrame f s = rejectFrame sender (judged (some .reject) s)) := by
  unfold receiveFrame
  rw [hn, hs]
  refine ⟨fun h => ?_, fun h => ?_, fun h => ?_⟩ <;> simp only [h] <;> rfl

theorem judgeFrame_elsewhere (h : ¬ (f.targetParity = true ∧ f.target = 0x0F)) :
    judgeFrame s sender f = .unanswered := by
  refine if_pos ?_
  by_contra hno
  rw [not_or, not_not, not_not] at hno
  exact h hno

theorem judgeFrame_damaged (h : f.targetParity = true ∧ f.target = 0x0F)
    (hw : ¬ (f.parity = true ∧ crc8 (nodeFrameBody f) = f.check)) : judgeFrame s sender f = .checkError := by
  refine (if_neg ?_).trans (if_pos ?_)
  · rw [not_or, not_not, not_not]
    exact h
  · by_contra hno
    rw [not_or, not_not, not_not] at hno
    exact hw hno

/-- A whole frame for the part is rejected unless its sender's role admits its kind and length (R169). -/
theorem judgeFrame_reject (h : f.targetParity = true ∧ f.target = 0x0F)
    (hw : f.parity = true ∧ crc8 (nodeFrameBody f) = f.check)
    (hno : ¬ ∃ a : Node, a.val = sender.toNat ∧
      ((∃ i : Stand, s.nodes[a].role = .stand i ∧ f.kind = 0x61 ∧ f.payload.length = 14) ∨
        (s.nodes[a].role = .entry ∧ f.kind = 0x62 ∧ f.payload.length = 8) ∨
        ∃ p : Gauge, s.nodes[a].role = .gauge p ∧ f.kind = 0x63 ∧ f.payload.length = 3)) :
    judgeFrame s sender f = .reject := by
  refine (if_neg ?_).trans ((if_neg ?_).trans ?_)
  · rw [not_or, not_not, not_not]
    exact h
  · rw [not_or, not_not, not_not]
    exact hw
  · by_cases hlt : sender.toNat < 15
    · rw [nodeOf, dif_pos hlt]
      dsimp only
      cases hr : s.nodes[(⟨sender.toNat, hlt⟩ : Node)].role with
      | none => rfl
      | stand i => exact if_neg fun hc => hno ⟨_, rfl, .inl ⟨i, hr, hc⟩⟩
      | entry => exact if_neg fun hc => hno ⟨_, rfl, .inr (.inl ⟨hr, hc⟩)⟩
      | gauge p => exact if_neg fun hc => hno ⟨_, rfl, .inr (.inr ⟨p, hr, hc⟩)⟩
    · rw [nodeOf, dif_neg hlt]

/-- The state after a REJECT, before the sender's failure is counted (R169, R178). -/
def rejectedBy : State := (judged (some .reject) s).onLink fun l => { l with counters :=
  { l.counters with rejected := min 65535 (l.counters.rejected + 1) } }

theorem rejectFrame_unknown (h : sender = 15) : rejectFrame sender (judged (some .reject) s) = rejectedBy s := by
  subst h
  rfl

theorem rejectFrame_node (a : Node) (h : a.val = sender.toNat) :
    rejectFrame sender (judged (some .reject) s) = countFailure a (rejectedBy s) := by
  have ha : nodeOf sender = some a := by
    have := a.isLt
    rw [nodeOf, dif_pos (by omega)]
    exact congrArg some (Fin.ext h.symm)
  rw [rejectFrame, ha]
  rfl
end

/-- Settles O58: the checks of R169 in order, each with its answer, and a rejected sender's failure counted. -/
theorem nodeFrameChecks : Obligations.NodeFrameChecks := by
  unfold Obligations.NodeFrameChecks
  intro s f h hnone
  refine ⟨fun hidle => ?_, fun hn sender hs => ?_⟩
  · refine line_idle (.nodeFrame f) s h ?_
    change receiveFrame f s = s
    unfold receiveFrame
    split
    · rename_i a hn hs
      obtain hidle | hidle := hidle
      · exact absurd hn hidle
      · rw [hidle] at hs
        cases hs
    · rfl
  · intro forPart whole admitted rejected
    obtain ⟨hun, hdam, hrej⟩ := receiveFrame_judged s f sender hn hs
    refine ⟨fun hp => ?_, fun hp hw => ?_, fun hp hw hno => ⟨fun h15 => ?_, fun a ha => ⟨fun hk => ?_,
      fun hpres hl hroom => ?_⟩⟩⟩
    · exact line_settled (.nodeFrame f) s _ h.runs (hun (judgeFrame_elsewhere s f sender hp))
        (settled_of_none _ hnone)
    · exact line_settled (.nodeFrame f) s _ h.runs (hdam (judgeFrame_damaged s f sender hp hw))
        (settled_of_none _ hnone)
    all_goals have hrejected := hrej (judgeFrame_reject s f sender hp hw hno)
    · exact line_settled (.nodeFrame f) s _ h.runs (hrejected.trans (rejectFrame_unknown s sender h15))
        (settled_of_none _ hnone)
    · refine line_settled (.nodeFrame f) s _ h.runs ((hrejected.trans (rejectFrame_node s sender a ha)).trans
        (countFailure_kept a (rejectedBy s) hk)) (settled_of_none _ hnone)
    · refine ⟨_, whileRunning_running _ _ h.runs, ?_⟩
      rw [hrejected, rejectFrame_node s sender a ha]
      have hgone := countFailure_gone a (rejectedBy s) hpres hl hroom
      have hthree : oneFailure a (rejectedBy s) =
          (rejectedBy s).onNode a fun n => { n with failures := 3 } := by
        refine onNode_congr _ a _ _ ?_
        have : min 3 ((rejectedBy s).nodes[a].failures + 1) = 3 := by
          change min 3 (s.nodes[a].failures + 1) = 3
          omega
        simp only [this]
      rw [hthree] at hgone
      exact hgone.abandon (settled_of_none _ hnone)

end


section
/-! SUPPORT. A trim that ends where its stand's target lies (R117). -/

namespace Sys2Proof.Machine

section
variable (i : Stand) (v : Int) (s : State) (t : Int) (ht : s.actuators[i].t = some t)
  (hc : t = s.actuators[i].c + v)
include ht hc

theorem acceptTrim_there : acceptTrim i v s = s.onActuator i fun u => { u with p := t, work := none } := by
  rw [acceptTrim, applyHold_there, dropWork, onActuator_onActuator]
  · refine onActuator_congr s i _ _ ?_
    simp only [Function.comp_apply, hc]
  · rw [State.onActuator_actuators, upd_same, ht, hc]

theorem rejectTrim_there (hroom : s.host.events.length < 48) :
    rejectTrim i v s = (s.onActuator i fun u => { u with work := none }).onHost fun p =>
      { p with events := p.events ++ [⟨.trimRejected, .stand i, none, BitVec.ofInt 32 v, s.now⟩] } := by
  have hat : (s.onActuator i fun u => { u with work := none }).actuators[i] =
      { s.actuators[i] with work := none } := by
    rw [State.onActuator_actuators, upd_same]
  unfold rejectTrim
  rw [raise_room _ _ _ _ (dropWork i s) hroom]
  refine if_pos ?_
  rw [State.onHost_actuators, dropWork, hat, ← hc]
  exact ht
end

end Sys2Proof.Machine
end

section
/-! The statements about the ends of the part's transactions. -/

open Sys2Proof Sys2Proof.Machine

section
variable (s : State) (f : InFlight)

/-- A settled state stays so where the part's transaction keeps its item. -/
theorem settled_sameItem (t : State) (h : Settled s) (hf : s.link.inFlight = some f)
    (g : InFlight) (hg : t.link.inFlight = some g) (hi : g.item = f.item) (ht : t.trips = s.trips)
    (ha : t.actuators = s.actuators) : Settled t := by
  intro k hk hn
  obtain rfl : g = k := Option.some.inj (hg.symm.trans hk)
  have hlink : stopOnLink t = stopOnLink s := by
    rw [stopOnLink, stopOnLink, hg, hf]
    simp only [hi]
  have hu : urgentFilled t = urgentFilled s := by
    simp only [urgentFilled, stopFilled, hlink, ht]
    exact congrArg _ (List.any_congr rfl fun i => by rw [openFilled, ha, openFilled])
  rw [hu]
  exact h f hf (hi ▸ hn)

theorem frameSent_starts (hf : s.link.inFlight = some f) (hs : s.link.state = .part)
    (hi : ∀ lv b, f.item ≠ .stop lv b) (hn : f.frameSent = false) :
    frameSent s = s.onLink fun l =>
      { l with inFlight := some { f with frameSent := true }, respTimer := some s.respUs } := by
  have hcond : s.link.state = .part ∧ ¬ f.frameSent = true := ⟨hs, Bool.eq_false_iff.mp hn⟩
  unfold frameSent
  rw [hf]
  dsimp only
  split
  · rename_i lv b hitem
    exact absurd hitem (hi lv b)
  · exact if_pos hcond

theorem broadcastSent_ends (hf : s.link.inFlight = some f) (lv : StopLevel) (counts : Bool)
    (hi : f.item = .stop lv counts) :
    broadcastSent s = (releaseLink s).onTrips fun t =>
      { t with stopSent := if counts ∧ stopRank t.stopSent < stopRank lv then lv else t.stopSent } := by
  unfold broadcastSent
  rw [hf]
  simp only [hi]

theorem responseExpiry_due (hf : s.link.inFlight = some f) (load elapsed : Nat)
    (ht : s.link.respTimer = some load) (hsent : f.frameSent = true) :
    responseExpiry elapsed s =
      if load ≤ elapsed then endTxn f .noResponse (releaseLink s) else s := by
  unfold responseExpiry
  rw [hf, ht]
  simp only [hsent, true_and]

/-- How a byte received after the check byte ends the transaction (R164). -/
def byteEnd (b : Byte) (parity : Bool) : TxnEnd :=
  if parity then (match answerOf b with
    | some r => .answered r
    | none => .noResponse) else .noResponse

theorem responseByte_ends (hf : s.link.inFlight = some f) (hsent : f.frameSent = true) (b : Byte)
    (parity : Bool) : responseByte b parity s = endTxn f (byteEnd b parity) (releaseLink s) := by
  unfold responseByte
  rw [hf]
  dsimp only
  rw [if_pos hsent]
  unfold byteEnd
  cases parity with
  | false => cases answerOf b <;> rfl
  | true => cases answerOf b <;> rfl

theorem byteEnd_failing (b : Byte) (parity : Bool)
    (h : parity = false ∨ b = 0xE1 ∨ (b ≠ 0xA5 ∧ b ≠ 0x5A ∧ b ≠ 0x3C)) : failing (byteEnd b parity) := by
  unfold byteEnd
  obtain rfl | hb := h
  · exact .inl rfl
  · cases parity with
    | false => exact .inl rfl
    | true =>
      obtain rfl | ⟨hacc, hrej, hbusy⟩ := hb
      · exact .inr rfl
      · rw [answerOf, if_neg hacc, if_neg hrej, if_neg hbusy]
        by_cases hcheck : b = 0xE1
        · rw [if_pos hcheck]
          exact .inr rfl
        · rw [if_neg hcheck]
          exact .inl rfl

/-- A response byte's event, where nothing is left on the link to end. -/
theorem run_responseByte (hp : s.power = .running) (hf : s.link.inFlight = some f)
    (hsent : f.frameSent = true) (b : Byte) (parity : Bool) :
    exec (.responseByteReceived b parity) s = .next (endTxn f (byteEnd b parity) (releaseLink s)) :=
  line_settled (.response b parity) s _ hp (responseByte_ends s f hf hsent b parity)
    (settled_of_none _ (endTxn_released s _ f))
end

/-- Settles O56: the check byte starts the timer, a STOP ends at its own, and an expiry hands the item on as not
delivered. -/
theorem transactionsRunToTheirEnd : Obligations.TransactionsRunToTheirEnd := by
  unfold Obligations.TransactionsRunToTheirEnd
  intro s f h hf hpart
  refine ⟨fun hi hn => ?_, fun lv hi => ?_, fun lv hi => ?_, fun elapsed load hsent ht => ⟨fun hl => ?_,
    fun hl a ha hk => ?_, fun hl a ha hp hk hroom => ?_⟩⟩
  · exact line_settled .checkByteSent s _ h.runs (frameSent_starts s f hf hpart hi hn)
      (settled_sameItem s f _ h.settled hf _ rfl rfl rfl rfl)
  · refine line_settled .stopSent s _ h.runs ((broadcastSent_ends s f hf lv true hi).trans ?_)
      (settled_of_none _ rfl)
    simp only [true_and]
    rfl
  · exact line_settled .stopSent s _ h.runs (broadcastSent_ends s f hf lv false hi) (settled_of_none _ rfl)
  · refine line_idle (.responseTimeout elapsed) s h ?_
    exact (responseExpiry_due s f hf load elapsed ht hsent).trans (if_neg (not_le.mpr hl))
  all_goals
    have hrun : exec (.responseTimeout elapsed) s = .next (endTxn f .noResponse (releaseLink s)) :=
      line_settled (.responseTimeout elapsed) s _ h.runs
        ((responseExpiry_due s f hf load elapsed ht hsent).trans (if_pos hl))
        (settled_of_none _ (endTxn_released s _ f))
    obtain ⟨hkept, hgone⟩ := endTxn_notDelivered a s .noResponse (.inl rfl) f ha
  · exact ⟨_, hrun, hkept hk⟩
  · obtain ⟨u, hu, hnot⟩ := hgone hp hk hroom
    exact ⟨u, _, hrun, hu, hnot⟩

/-- Settles O57: the byte's value gives the transaction's end, and the end reaches the slot's owner. -/
theorem responsesReachTheirOwners : Obligations.ResponsesReachTheirOwners := by
  unfold Obligations.ResponsesReachTheirOwners
  intro s cls a item h hf
  have hrun := fun b parity => run_responseByte s _ h.runs hf rfl b parity
  have hanswer : ∀ (b : Byte) (r : Answer), answerOf b = some r → r ≠ .checkError →
      exec (.responseByteReceived b true) s = .next (handOn item (.answered r) (released a s)) := by
    intro b r hb hr
    rw [hrun, byteEnd, if_pos rfl, hb]
    exact congrArg _ (endTxn_answered a s r hr _ rfl)
  have haccept := hanswer 0xA5 .accept rfl nofun
  have hreject := hanswer 0x5A .reject rfl nofun
  have hbusy := hanswer 0x3C .busy rfl nofun
  refine ⟨?_, ?_, ?_, ?_, ?_, ?_, ?_⟩
  · rintro i pos n rfl hw
    obtain ⟨hacc, hrej, -⟩ := takeOutcome_travel (released a s) i n pos hw
    refine ⟨haccept.trans (congrArg _ hacc), fun hst => ⟨_, hreject.trans (congrArg _ hrej), ?_, ?_⟩⟩
    · exact actuatorFault_at i (released a s) (show engaged s.actuators[i].state = true by rw [hst]; rfl)
    · rw [actuatorFault_records]
      exact raiseTrip_raised _ _ _
  · rintro i v t n rfl hw ht hc
    obtain ⟨hacc, hrej, -⟩ := takeOutcome_trim (released a s) i n v hw
    refine ⟨haccept.trans (congrArg _ (hacc.trans ?_)), fun hroom =>
      hreject.trans (congrArg _ (hrej.trans ?_))⟩
    · exact acceptTrim_there i v (released a s) t ht hc
    · exact rejectTrim_there i v (released a s) t ht hc hroom
  · rintro i n rfl hw
    obtain ⟨hacc, hrej, -⟩ := takeOutcome_open (released a s) i n hw
    refine ⟨haccept.trans (congrArg _ hacc), fun he hroom => ?_, fun he hroom => ?_⟩
    · exact hreject.trans (congrArg _ (hrej.trans (openFailed_first i (released a s) 1 he hroom)))
    · exact hreject.trans (congrArg _ (hrej.trans (openFailed_later i (released a s) 1 he hroom)))
  · rintro p rfl hp hfl
    have hcond : (released a s).gauges[p].phase = .placed ∧ (released a s).gauges[p].inFlight = true := ⟨hp, hfl⟩
    refine ⟨haccept.trans (congrArg _ (if_pos hcond)), fun hroom =>
      hreject.trans (congrArg _ ((if_pos hcond).trans ?_))⟩
    rw [raise_room _ _ _ _ ((released a s).onGauge p _) hroom, inMetres, BitVec.ofInt_natCast]
    rfl
  · exact ⟨_, hbusy, notDelivered_handOn item (.answered .busy) (released a s) rfl⟩
  · intro b parity hb
    obtain ⟨hkept, hgone⟩ := endTxn_notDelivered a s _ (byteEnd_failing b parity hb) ⟨item, cls, some a, true⟩ rfl
    refine ⟨fun hk => ⟨_, hrun b parity, hkept hk⟩, fun hp hk hroom => ?_⟩
    obtain ⟨u, hu, hnot⟩ := hgone hp hk hroom
    exact ⟨u, _, hrun b parity, hu, hnot⟩
  · rintro i cmd n rfl hstale b hb
    have hnone : ∀ o, takeOutcome i n o (released a s) = released a s := fun o =>
      takeOutcome_stale (released a s) i n o fun w hw => .inl (hstale w hw)
    obtain rfl | rfl | rfl := hb
    · exact haccept.trans (congrArg _ (hnone _))
    · exact hreject.trans (congrArg _ (hnone _))
    · exact hbusy.trans (congrArg _ (hnone _))

end


section
/-! SUPPORT. A LINK-RESET pulse in closed form (R176), and the owners that take a cut transaction without a look at
the host port. -/

namespace Sys2Proof.Machine

/-! ### Every node's entry changed alike -/

/-- The node table with a change made at each address of a list. -/
def onNodes (l : List Node) (f : NodeEntry → NodeEntry) (v : Vector NodeEntry 15) : Vector NodeEntry 15 :=
  l.foldl (fun v a => upd v a f) v

theorem foldl_onNode (l : List Node) (f : NodeEntry → NodeEntry) (s : State) :
    l.foldl (fun s a => s.onNode a f) s = { s with nodes := onNodes l f s.nodes } := by
  induction l generalizing s with
  | nil => rfl
  | cons a l ih => exact (ih (s.onNode a f)).trans rfl

theorem onNodes_at (l : List Node) (f : NodeEntry → NodeEntry) (hf : ∀ n, f (f n) = f n)
    (v : Vector NodeEntry 15) (a : Node) : (onNodes l f v)[a] = if a ∈ l then f v[a] else v[a] := by
  unfold onNodes
  induction l generalizing v with
  | nil => rfl
  | cons b l ih =>
    rw [List.foldl_cons, ih, upd_at]
    by_cases hb : a = b <;> by_cases hl : a ∈ l <;> simp [hb, hl, hf]

/-- The state with a LINK-RESET pulse under way (R176). -/
def pulsedBy (u : State) : State :=
  { u with
    nodes := u.nodes.map fun n => { n with failures := 0 }
    link := { u.link with
      state := .resetting, inFlight := none, respTimer := none, sender := none, answer := none,
      contending := none, yield := false, lastReset := some u.now, counters :=
        { u.link.counters with resets := min 65535 (u.link.counters.resets + 1) } } }

theorem pulsedBy_node (u : State) (a : Node) : (pulsedBy u).nodes[a] = { u.nodes[a] with failures := 0 } := by
  simp [pulsedBy]

theorem onNodes_all (v : Vector NodeEntry 15) :
    onNodes allNodes (fun n => { n with failures := 0 }) v = v.map fun n => { n with failures := 0 } := by
  refine table_ext fun a => ?_
  rw [onNodes_at allNodes (fun n => { n with failures := 0 }) (fun _ => rfl) v a, if_pos (mem_allNodes a)]
  simp

theorem startPulse_none (s : State) (h : s.link.inFlight = none) : startPulse s = pulsedBy s := by
  unfold startPulse
  rw [h]
  dsimp only
  rw [foldl_onNode, State.onLink_nodes, onNodes_all]
  rfl

/-- The counter of abandoned transactions risen (R178). -/
def countAbandoned (s : State) : State := s.onLink fun l => { l with counters :=
  { l.counters with abandoned := min 65535 (l.counters.abandoned + 1) } }

theorem startPulse_some (s : State) (f : InFlight) (h : s.link.inFlight = some f) :
    startPulse s = handOn f.item .abandoned (countAbandoned (pulsedBy s)) := by
  unfold startPulse
  rw [h]
  dsimp only
  rw [foldl_onNode, State.onLink_nodes, onNodes_all, endTxn, targetFailures_abandoned]
  rfl

/-! ### An owner does not look at the host port (R166) -/

section
variable (i : Stand) (g : HostPort → HostPort) (s : State)

theorem applyTravel_onHost : applyTravel i (s.onHost g) = (applyTravel i s).onHost g := by
  unfold applyTravel
  simp only [State.onHost_actuators, State.onHost_stands]
  cases s.actuators[i].t with
  | none => rfl
  | some t =>
    cases s.actuators[i].work with
    | none => rfl
    | some w =>
      cases hp : w.phase with
      | inFlight | moving => simp only [hp]
      | queued =>
        simp only [hp, apply_ite (State.onHost · g)]
        rfl

theorem applyHold_onHost : applyHold i (s.onHost g) = (applyHold i s).onHost g := by
  have henter : enterTravel i (s.onHost g) = (enterTravel i s).onHost g :=
    applyTravel_onHost i g ((dropWork i s).onActuator i fun a => { a with state := .travel })
  unfold applyHold
  simp only [State.onHost_actuators, State.onHost_stands]
  cases s.actuators[i].t with
  | none => rfl
  | some t =>
    simp only [apply_ite (State.onHost · g), henter]
    cases s.actuators[i].work with
    | none => rfl
    | some w =>
      simp only [apply_ite (State.onHost · g)]
      rfl

theorem takeOutcome_onHost (n : Byte) : takeOutcome i n .notDelivered (s.onHost g) =
    (takeOutcome i n .notDelivered s).onHost g := by
  have htravel : ∀ w, applyTravel i (requeue i w (s.onHost g)) = (applyTravel i (requeue i w s)).onHost g :=
    fun w => applyTravel_onHost i g (requeue i w s)
  have hhold : ∀ w, applyHold i (requeue i w (s.onHost g)) = (applyHold i (requeue i w s)).onHost g :=
    fun w => applyHold_onHost i g (requeue i w s)
  have hstate : ∀ w, (requeue i w (s.onHost g)).actuators[i].state = (requeue i w s).actuators[i].state :=
    fun _ => rfl
  unfold takeOutcome
  simp only [State.onHost_actuators]
  cases s.actuators[i].work with
  | none => rfl
  | some w =>
    simp only [apply_ite (State.onHost · g)]
    cases hc : w.cmd with
    | open_ => simp only []; rfl
    | travel | trim =>
      simp only [htravel, hhold, hstate]
      cases (requeue i w s).actuators[i].state <;> rfl

theorem takeStdOutcome_onHost (p : Gauge) : takeStdOutcome p .notDelivered (s.onHost g) =
    (takeStdOutcome p .notDelivered s).onHost g := by
  unfold takeStdOutcome
  simp only [State.onHost_gauges, apply_ite (State.onHost · g)]
  rfl

theorem handOn_onHost (item : Item) : handOn item .abandoned (s.onHost g) =
    (handOn item .abandoned s).onHost g := by
  cases item with
  | stop lv b => rfl
  | gapOpen i n => exact takeOutcome_onHost i g s n
  | gap i c n => exact takeOutcome_onHost i g s n
  | standardize p => exact takeStdOutcome_onHost g s p

theorem handOn_abandoned_host (item : Item) : (handOn item .abandoned s).host = s.host := by
  have hsame : handOn item .abandoned s = (handOn item .abandoned s).onHost fun _ => s.host :=
    handOn_onHost (fun _ => s.host) s item
  exact (congrArg State.host hsame).trans rfl
end

/-! ### A stuck link (R175) -/

theorem recentReset_iff (s : State) : recentReset s = true ↔
    ∃ t : Time, s.link.lastReset = some t ∧ (s.now - t).toNat < 1000 := by
  unfold recentReset
  cases s.link.lastReset with
  | none => simp
  | some t => simp

/-- The stuck flag set, with LINK_RESET where it was clear (R175). -/
def flagged (s : State) : State :=
  if s.link.stuck then s else raise .linkReset .none none 0 (s.onLink fun l => { l with stuck := true })

theorem stuckDetected_eq (held : Nat) (s : State) (hn : s.link.state = .node) (hl : s.txnLimitUs < held) :
    stuckDetected held s =
      startPulse (if recentReset s then raiseTrip .linkFault 0 (flagged s) else flagged s) :=
  if_pos ⟨hn, hl⟩

theorem flagged_stuck (s : State) (h : s.link.stuck = true) : flagged s = s := if_pos h

theorem flagged_clear (s : State) (h : s.link.stuck = false) :
    flagged s = raise .linkReset .none none 0 (s.onLink fun l => { l with stuck := true }) :=
  if_neg (Bool.eq_false_iff.mp h)

theorem flagged_frame (s : State) : (flagged s).link = { s.link with stuck := true } ∧
    (flagged s).trips = s.trips ∧ (flagged s).nodes = s.nodes ∧ (flagged s).now = s.now := by
  cases h : s.link.stuck with
  | true =>
    rw [flagged_stuck s h]
    exact ⟨by rw [← h], rfl, rfl, rfl⟩
  | false =>
    rw [flagged_clear s h]
    exact ⟨rfl, rfl, rfl, rfl⟩

end Sys2Proof.Machine
end

section
/-! The statement about the stuck link and the LINK-RESET pulse. -/

open Sys2Proof Sys2Proof.Machine

section
variable (s : State)

theorem stuck_runs (held : Nat) (h : s.power = .running) (hn : s.link.state = .node)
    (hl : s.txnLimitUs < held) (hnone : s.link.inFlight = none) :
    exec (.stuckLinkDetected held) s =
      .next (pulsedBy (if recentReset s then raiseTrip .linkFault 0 (flagged s) else flagged s)) := by
  refine line_settled (.stuck held) s _ h ((stuckDetected_eq held s hn hl).trans (startPulse_none _ ?_))
    (settled_of_none _ rfl)
  obtain ⟨hlink, -⟩ := flagged_frame s
  split
  · rw [show (raiseTrip .linkFault 0 (flagged s)).link = (flagged s).link by simp, hlink]
    exact hnone
  · rw [hlink]
    exact hnone

/-- Reset Stand Link outside a pulse (R177). -/
theorem serveResetLink_pulses (u : State) (hn : s.link.state ≠ .resetting) (hu : startPulse s = u)
    (hlink : u.link.state = .resetting) (hroom : u.host.events.length < 48) (hnow : u.now = s.now) :
    serveResetLink s = (u.onHost fun h =>
      { h with events := h.events ++ [⟨.linkReset, .none, none, 1, s.now⟩] }, ⟨.ok, [1, 3]⟩) := by
  rw [serveResetLink, if_neg hn, hu, raise_room _ _ _ _ u hroom, hnow]
  simp only [State.onHost_link, hlink]
  rfl
end

/-- Settles O59: a stuck link's flag, trip and pulse; Reset Stand Link, whose pulse hands a cut transaction on;
and the pulse's end by HOLD. -/
theorem stuckLinkAndPulse : Obligations.StuckLinkAndPulse := by
  unfold Obligations.StuckLinkAndPulse
  intro s h pulsed limit recent noticed
  have hrecent : recentReset s = true ↔ recent := recentReset_iff s
  refine ⟨fun held hq => ?_, fun held hn hl hnone => ⟨fun hr hst hroom => ?_, fun hr hst => ?_, fun hr => ?_⟩,
    fun hst => ?_, fun hst hh => ?_, fun hst hh => ?_, fun tag hqueue => ⟨fun hst => ?_,
      fun hst hnone hroom => ?_, fun hst hroom f hf => ?_⟩⟩
  · refine line_idle (.stuck held) s h (if_neg fun hc => ?_)
    obtain hn | hl := hq
    · exact hn hc.1
    · exact absurd hc.2 (not_lt.mpr hl)
  · rw [stuck_runs s held h.runs hn hl hnone, if_neg (mt hrecent.mp hr), flagged_clear s hst,
      raise_room _ _ _ _ (s.onLink _) hroom]
    rfl
  · rw [stuck_runs s held h.runs hn hl hnone, if_neg (mt hrecent.mp hr), flagged_stuck s hst]
    rfl
  · refine ⟨_, stuck_runs s held h.runs hn hl hnone, ?_⟩
    rw [if_pos (hrecent.mpr hr)]
    obtain ⟨hlink, htrips, hnodes, hnow⟩ := flagged_frame s
    refine ⟨?_, raiseTrip_raised _ _ _, fun hc => ?_, fun a => ?_⟩
    · simp only [pulsedBy, raiseTrip_frame, hlink, hnow]
      rfl
    · have hclear := raiseTrip_clear .linkFault 0 (flagged s) ((congrArg (·.records[(30 : Source)].latched) htrips).trans hc)
      have hcount : latchedCount (flagged s) = latchedCount s := by rw [latchedCount, htrips, latchedCount]
      rw [hcount] at hclear
      exact congrArg TripRecord.rank hclear
    · rw [pulsedBy_node]
      simp only [raiseTrip_frame, hnodes]
  · exact line_idle .pulseOver s h (if_neg hst)
  · refine line_settled .pulseOver s _ h.runs ((if_pos hst).trans ?_)
      (settled_onLink s (fun l => { l with state := .node }) h.settled rfl)
    simp only [State.onLink, hh, if_true]
  · refine line_settled .pulseOver s _ h.runs ((if_pos hst).trans ?_)
      (settled_onLink s (fun l => { l with state := .free, stuck := false }) h.settled rfl)
    simp only [State.onLink, hh]
    rfl
  all_goals have hready : Ready s := ⟨h.runs, hqueue, h.settled⟩
  · exact frameOf_unchanged _ _ _ _ _ hready (if_pos hst)
  · refine frameOf_answered tag .resetStandLink .ok [1, 3] s _ hready (settled_of_none _ rfl) ?_
    refine (serveResetLink_pulses (taken tag .resetStandLink s) _ hst
      (startPulse_none (taken tag .resetStandLink s) hnone) rfl hroom rfl).trans ?_
    rfl
  · have hlink : (handOn f.item .abandoned (countAbandoned (pulsedBy (taken tag .resetStandLink s)))).link.state =
        .resetting := by
      simp only [handOn_frame]
      rfl
    have hhost := handOn_abandoned_host (countAbandoned (pulsedBy (taken tag .resetStandLink s))) f.item
    have hserve := serveResetLink_pulses (taken tag .resetStandLink s) _ hst
      (startPulse_some (taken tag .resetStandLink s) f hf) hlink (by rw [hhost]; exact hroom)
      (by simp only [handOn_frame]; rfl)
    rw [← handOn_onHost] at hserve
    intro cut
    refine ⟨handOn f.item .abandoned cut, notDelivered_handOn f.item .abandoned cut rfl,
      frameOf_answered tag .resetStandLink .ok [1, 3] s _ hready (settled_of_none _ ?_) (hserve.trans ?_)⟩
    · simp only [handOn_frame]
      rfl
    · have htaken : taken tag .resetStandLink (handOn f.item .abandoned cut) =
          handOn f.item .abandoned (taken tag .resetStandLink cut) := (handOn_onHost _ cut f.item).symm
      rw [htaken]
      rfl

end


section
/-! SUPPORT. The parts of a stand report, flag by flag (R106, R114, R117, R120, R124). -/

namespace Sys2Proof.Machine

/-! ### The tests of the Trip Controller (R135, R141 to R143) -/

/-- A node of a role is PRESENT and its drive stops (R135). -/
def stopping (s : State) (r : Role) (d : DriveState) : Prop :=
  ∃ a : Node, s.nodes[a].role = r ∧ s.nodes[a].state = .present ∧ (d = .stopping ∨ d = .stopped)

theorem confirms_iff (s : State) (h : RolesUnique s) (r : Role) (hr : r ≠ .none) (d : DriveState) :
    confirms s r d = true ↔ stopping s r d := by
  rw [confirms, Bool.and_eq_true, decide_eq_true_iff, roleInState_iff s r .present h hr]
  constructor
  · rintro ⟨⟨a, ha, hp⟩, hd⟩
    exact ⟨a, ha, hp, hd⟩
  · rintro ⟨a, ha, hp, hd⟩
    exact ⟨⟨a, ha, hp⟩, hd⟩

/-- Every counted node confirms the stop (R135). -/
theorem confirmHolds_iff (s : State) (h : RolesUnique s) : confirmHolds s = true ↔
    (s.mill.configured = true → stopping s .entry s.trips.driveEntry) ∧
      ∀ i : Stand, s.stands[i].configured = true → i.val + 1 ≤ s.mill.n →
        stopping s (.stand i) s.trips.drive[i] := by
  rw [confirmHolds, Bool.and_eq_true, Bool.or_eq_true, Bool.not_eq_true', List.all_eq_true]
  refine and_congr ?_ (forall_congr' fun i => ?_)
  · rw [confirms_iff s h .entry nofun, ← Bool.not_eq_true, ← imp_iff_not_or]
  · simp only [mem_allStands, true_implies]
    rw [Bool.or_eq_true, confirms_iff s h (.stand i) nofun, Bool.not_eq_true', ← Bool.not_eq_true,
      ← imp_iff_not_or, Bool.and_eq_true, and_imp, withinN_iff]

theorem confirmTest_passed (s : State) (h : ¬ (s.trips.confirm = .waiting ∧ confirmHolds s = true)) :
    confirmTest s = s := if_neg h

theorem confirmTest_holds (s : State) (tm : Timer) (hw : s.trips.confirm = .waiting)
    (ht : s.trips.confirmT = some tm) (h : confirmHolds s = true) (hroom : s.host.events.length < 48) :
    confirmTest s = (s.onTrips fun t => { t with confirm := .confirmed, confirmT := none }).onHost fun p =>
      { p with events := p.events ++ [⟨.stopConfirmed, .none, none, s.now - tm.start, s.now⟩] } := by
  unfold confirmTest
  rw [if_pos ⟨hw, h⟩, ht]
  rw [raise_room _ _ _ _ (s.onTrips _) hroom]
  have hms : BitVec.ofInt 32 (timerElapsed s.now tm) = s.now - tm.start := by
    rw [timerElapsed, BitVec.ofInt_natCast, BitVec.ofNat_toNat, BitVec.setWidth_eq]
  simp only [hms, State.onTrips_now]

section
variable (s : State) (z : Fin 5)

theorem tensioned_iff : tensioned s z = true ↔ z.val < s.mill.n ∧ s.track.mode ≠ .stopped ∧
    ∃ (c : Cell) (rest : List Cell), s.track.queue = c :: rest ∧ z.val < c.entries.length := by
  unfold tensioned
  rw [Bool.and_eq_true, Bool.and_eq_true, decide_eq_true_iff, decide_eq_true_iff, and_assoc]
  refine and_congr_right fun _ => and_congr_right fun _ => ?_
  cases s.track.queue with
  | nil => simp
  | cons c rest => simp [holdsStamp]

theorem breakTension_eq : breakTension s z = match z.val with
    | 0 => s.mill.breakTension0
    | 1 => s.stands[(0 : Fin 5)].breakTension
    | 2 => s.stands[(1 : Fin 5)].breakTension
    | 3 => s.stands[(2 : Fin 5)].breakTension
    | _ => s.stands[(3 : Fin 5)].breakTension := by
  fin_cases z <;> rfl

/-- A tension reading that is not low ends the run of low ones (R142). -/
theorem tensionReading_fine (v : Nat) (h : ¬ tensioned s z = true ∨ breakTension s z ≤ v) :
    tensionReading z v s = s.onTrips fun t => { t with low := t.low.set z.val 0 } := by
  have hlow : (tensioned s z && decide (v < breakTension s z)) = false := by
    obtain h | h := h
    · rw [Bool.eq_false_iff.mpr h, Bool.false_and]
    · rw [decide_eq_false (not_lt.mpr h), Bool.and_false]
  unfold tensionReading
  simp only [hlow]
  rfl

/-- A low reading is counted, and at a count of 2 or more a strip break is raised (R142, R143). -/
theorem tensionReading_low (v : Nat) (ht : tensioned s z = true) (h : v < breakTension s z) :
    tensionReading z v s =
      if 1 ≤ s.trips.low[z] then raiseTrip (.stripBreak z) z.val
        (s.onTrips fun t => { t with low := t.low.set z.val (min 255 (s.trips.low[z] + 1)) })
      else s.onTrips fun t => { t with low := t.low.set z.val 1 } := by
  unfold tensionReading
  simp only [ht, decide_eq_true h, Bool.and_self, if_true, satAdd]
  by_cases hl : 1 ≤ s.trips.low[z]
  · rw [if_pos hl, if_pos (by omega)]
    rfl
  · rw [if_neg hl, if_neg (by omega)]
    have hzero : s.trips.low[z] = 0 := by omega
    rw [hzero]
    rfl
end

/-! ### The sequencer's share, flag by flag (R106) -/

section
variable (i : Stand) (r : StandReport) (s : State)

/-- The reported position taken (R106). -/
def reportedBase : State := s.onActuator i fun a => { a with reported := some r.position.toInt }

theorem reportedBase_at : (reportedBase i r s).actuators[i] =
    { s.actuators[i] with reported := some r.position.toInt } := by
  rw [reportedBase, State.onActuator_actuators, upd_same]

/-- LOCAL releases the stand (R120). -/
def localReleases : Prop := r.flags.getLsbD 2 = true ∧
  (s.actuators[i].state = .open_ ∨ engaged s.actuators[i].state = true) ∧ tripNames s i = false

/-- Open ends an opening, or a failed one (R124). -/
def openEnds : Prop := r.flags.getLsbD 1 = true ∧ (s.actuators[i].state = .openFailed ∨
  s.actuators[i].state = .opening ∧ ∃ w, s.actuators[i].work = some w ∧ w.cmd = .open_ ∧ w.number = r.echo)

/-- The part of the report after its first step. -/
def takeFlags (s : State) : State :=
  let s2 := if reportLocal r then takeLocal i s else s
  let s3 := if reportOpen r then takeOpen i r.echo s2 else s2
  if reportInPosition r then takeInPosition i r.echo s3 else s3

theorem takeReport_eq : takeReport i r s = takeFlags i r (reportedBase i r s) := rfl

theorem local_kept (h : ¬ localReleases i r s) : (if reportLocal r then takeLocal i s else s) = s := by
  by_cases hf : r.flags.getLsbD 2 = true
  · rw [reportLocal, if_pos hf]
    refine if_neg fun hc => h ⟨hf, hc.1, Bool.eq_false_iff.mpr hc.2⟩
  · rw [reportLocal, if_neg hf]

theorem local_releases (h : localReleases i r s) (hroom : s.host.events.length < 48) :
    (if reportLocal r then takeLocal i s else s) = (s.onActuator i fun a =>
      { a with state := .released, work := none, settleT := none, moveT := none }).onHost fun p =>
        { p with events := p.events ++
          [⟨.standReleased, .stand i, none, BitVec.ofNat 32 (actCode s.actuators[i].state), s.now⟩] } := by
  obtain ⟨hf, hst, hn⟩ := h
  rw [reportLocal, if_pos hf, takeLocal]
  rw [if_pos ⟨hst, Bool.eq_false_iff.mp hn⟩, raise_room _ _ _ _ (s.onActuator i _) hroom]
  have hcode : BitVec.ofInt 32 (leftCode s.actuators[i].state) =
      BitVec.ofNat 32 (actCode s.actuators[i].state) := by
    cases s.actuators[i].state <;> rfl
  rw [hcode]
  rfl

theorem open_kept (h : ¬ openEnds i r s) : (if reportOpen r then takeOpen i r.echo s else s) = s := by
  by_cases hf : r.flags.getLsbD 1 = true
  · rw [reportOpen, if_pos hf]
    unfold takeOpen
    dsimp only
    split
    · rename_i hst
      split
      · rename_i w hw
        exact if_neg fun hc => h ⟨hf, .inr ⟨hst, w, hw, hc⟩⟩
      · rfl
    · rename_i hst
      exact absurd ⟨hf, .inl hst⟩ h
    · rfl
  · rw [reportOpen, if_neg hf]

theorem open_ends (h : openEnds i r s) (hroom : s.host.events.length < 48) :
    (if reportOpen r then takeOpen i r.echo s else s) = (s.onActuator i fun a =>
      { a with state := .open_, work := none, openT := none }).onHost fun p =>
        { p with events := p.events ++
          [⟨.standOpened, .stand i, none, BitVec.ofNat 32 r.echo.toNat, s.now⟩] } := by
  obtain ⟨hf, hst⟩ := h
  rw [reportOpen, if_pos hf, takeOpen, raise_room _ _ _ _ (s.onActuator i _) hroom, BitVec.ofInt_natCast]
  obtain hst | ⟨hst, w, hw, hc⟩ := hst
  · rw [hst]
    rfl
  · rw [hst, hw]
    exact if_pos hc

theorem position_idle (h : ∀ w, s.actuators[i].work = some w → w.number = r.echo →
    ¬ (s.actuators[i].state = .travel ∧ ∃ pos, w.cmd = .travel pos) ∧
      ¬ (s.actuators[i].state = .hold ∧ ∃ v, w.cmd = .trim v)) : takeInPosition i r.echo s = s := by
  unfold takeInPosition
  dsimp only
  split
  · rfl
  · rename_i w hw
    split
    · rename_i hn
      obtain ⟨htravel, hhold⟩ := h w hw hn
      split
      · rename_i pos hst hc
        exact absurd ⟨hst, pos, hc⟩ htravel
      · rename_i v hst hc
        exact absurd ⟨hst, v, hc⟩ hhold
      · rfl
    · rfl

theorem position_travel (w : Work) (pos : Int) (hw : s.actuators[i].work = some w) (hn : w.number = r.echo)
    (hst : s.actuators[i].state = .travel) (hc : w.cmd = .travel pos) :
    takeInPosition i r.echo s = completeStep i pos s := by
  unfold takeInPosition
  simp only [hw, hn, hst, hc, if_true]

/-- The stand with a step complete at a position (R114). -/
def stepDone (pos : Int) : State := s.onActuator i fun u => { u with p := pos, work := none, moveT := none }

theorem stepDone_at (pos : Int) : (stepDone i s pos).actuators[i] =
    { s.actuators[i] with p := pos, work := none, moveT := none } := by
  rw [stepDone, State.onActuator_actuators, upd_same]

/-- A step complete at the target settles, at once where there is no settling time (R114, R115). -/
theorem completeStep_there (pos : Int) (ht : s.actuators[i].t = some pos) : completeStep i pos s =
    if s.stands[i].settle = 0 then
      (stepDone i s pos).onActuator i fun u => { u with state := .hold, c := pos, settleT := none }
    else (stepDone i s pos).onActuator i fun u =>
      { u with state := .settle, settleT := some ⟨s.now, s.stands[i].settle⟩ } := by
  have hdone := stepDone_at i s pos
  have hraw : completeStep i pos s = if (stepDone i s pos).actuators[i].t = some pos then
      (if s.stands[i].settle = 0 then settleExpire i ((stepDone i s pos).onActuator i fun u =>
          { u with state := .settle, settleT := some ⟨s.now, s.stands[i].settle⟩ })
        else (stepDone i s pos).onActuator i fun u =>
          { u with state := .settle, settleT := some ⟨s.now, s.stands[i].settle⟩ })
      else applyTravel i (stepDone i s pos) := rfl
  rw [hraw, if_pos (by rw [hdone]; exact ht)]
  split
  · have hat : ((stepDone i s pos).onActuator i fun u =>
        { u with state := .settle, settleT := some ⟨s.now, s.stands[i].settle⟩ }).actuators[i] =
        { s.actuators[i] with p := pos, work := none, moveT := none, state := .settle,
                              settleT := some ⟨s.now, s.stands[i].settle⟩ } := by
      rw [State.onActuator_actuators, upd_same, hdone]
    rw [settleExpire_eq, if_pos (by rw [hat]; exact ht), settledHold, onActuator_onActuator]
    refine onActuator_congr _ i _ _ ?_
    rw [hdone]
    rfl
  · rfl

theorem completeStep_onward (pos tgt : Int) (ht : s.actuators[i].t = some tgt) (hne : tgt ≠ pos) :
    completeStep i pos s = (stepDone i s pos).onActuator i fun u =>
      { u with
        number := u.number + 1
        work := some ⟨.travel (wantedStep pos tgt s.stands[i].maxStep), u.number + 1, .queued⟩ } := by
  have hdone := stepDone_at i s pos
  have htgt : (stepDone i s pos).actuators[i].t = some tgt := by
    rw [hdone]
    exact ht
  have hraw : completeStep i pos s = if (stepDone i s pos).actuators[i].t = some pos then _
      else applyTravel i (stepDone i s pos) := rfl
  rw [hraw, if_neg (by rw [htgt]; exact fun e => hne (Option.some.inj e)),
    applyTravel_queued i _ tgt htgt (by rw [hdone]; exact nofun), hdone, if_neg nofun]
  rfl

/-- The stand with a trim accepted (R117). -/
def trimDone (v : Int) : State := s.onActuator i fun u => { u with p := u.c + v, work := none }

theorem trimDone_at (v : Int) : (trimDone i s v).actuators[i] =
    { s.actuators[i] with p := s.actuators[i].c + v, work := none } := by
  rw [trimDone, State.onActuator_actuators, upd_same]

theorem acceptTrim_eq (v : Int) : acceptTrim i v s = applyHold i (trimDone i s v) := rfl

theorem acceptTrim_same (v : Int) (ht : s.actuators[i].t = some (s.actuators[i].c + v)) :
    acceptTrim i v s = trimDone i s v := by
  have hat := trimDone_at i s v
  rw [acceptTrim_eq, applyHold_there i _ (by rw [hat]; exact ht), dropWork]
  refine onActuator_same i _ _ ?_
  rw [hat]

theorem acceptTrim_band (v tgt : Int) (ht : s.actuators[i].t = some tgt) (hne : tgt ≠ s.actuators[i].c + v)
    (hb : s.stands[i].mode = .band ∧ (tgt - s.actuators[i].c).natAbs ≤ s.stands[i].band) :
    acceptTrim i v s = (trimDone i s v).onActuator i fun u =>
      { u with number := u.number + 1, work := some ⟨.trim (tgt - u.c), u.number + 1, .queued⟩ } := by
  have hat := trimDone_at i s v
  rw [acceptTrim_eq, applyHold_band i (trimDone i s v) tgt (by rw [hat]; exact ht) (by rw [hat]; exact hne) hb.1
    (by rw [hat]; exact hb.2) (by rw [hat]; exact nofun), if_neg (by rw [hat]; exact nofun), buildWork]
  refine onActuator_congr _ i _ _ ?_
  rw [hat]

theorem acceptTrim_beyond (v tgt : Int) (ht : s.actuators[i].t = some tgt) (hne : tgt ≠ s.actuators[i].c + v)
    (hb : ¬ (s.stands[i].mode = .band ∧ (tgt - s.actuators[i].c).natAbs ≤ s.stands[i].band)) :
    acceptTrim i v s = (trimDone i s v).onActuator i fun u =>
      { u with
        state := .travel
        number := u.number + 1
        work := some ⟨.travel (wantedStep (s.actuators[i].c + v) tgt s.stands[i].maxStep), u.number + 1,
          .queued⟩ } := by
  have hat := trimDone_at i s v
  rw [acceptTrim_eq, applyHold_beyond i _ tgt (by rw [hat]; exact ht) (by rw [hat]; exact hne)
    (by rw [hat]; exact hb), enterTravel_builds i _ tgt (by rw [hat]; exact ht), hat]
  rfl

theorem position_hold (w : Work) (v : Int) (hw : s.actuators[i].work = some w) (hn : w.number = r.echo)
    (hst : s.actuators[i].state = .hold) (hc : w.cmd = .trim v) :
    takeInPosition i r.echo s = acceptTrim i v s := by
  unfold takeInPosition
  simp only [hw, hn, hst, hc, if_true]
end

end Sys2Proof.Machine
end

section
/-! The statement about the indications of a report. -/

open Sys2Proof Sys2Proof.Machine

section
variable (i : Stand) (r : StandReport) (s : State)

theorem takeFlags_position (h : ¬ localReleases i r s) (ho : ¬ openEnds i r s) :
    takeFlags i r s = if reportInPosition r then takeInPosition i r.echo s else s := by
  unfold takeFlags
  dsimp only
  rw [local_kept i r s h, open_kept i r s ho]

/-- A report that leaves its stand without work and in no state an open ends changes no more. -/
theorem takeFlags_local (h : localReleases i r s) (hroom : s.host.events.length < 48) :
    takeFlags i r s = (s.onActuator i fun a =>
      { a with state := .released, work := none, settleT := none, moveT := none }).onHost fun p =>
        { p with events := p.events ++
          [⟨.standReleased, .stand i, none, BitVec.ofNat 32 (actCode s.actuators[i].state), s.now⟩] } := by
  have hat : (s.onActuator i fun a =>
      { a with state := .released, work := none, settleT := none, moveT := none }).actuators[i] =
      { s.actuators[i] with state := .released, work := none, settleT := none, moveT := none } := by
    rw [State.onActuator_actuators, upd_same]
  unfold takeFlags
  dsimp only
  rw [local_releases i r s h hroom, open_kept]
  · split
    · refine position_idle i r _ ?_
      rw [State.onHost_actuators, hat]
      exact nofun
    · rfl
  · rintro ⟨-, hst⟩
    rw [State.onHost_actuators, hat] at hst
    obtain hst | ⟨hst, -⟩ := hst <;> cases hst

theorem takeFlags_open (h : openEnds i r s) (hroom : s.host.events.length < 48) :
    takeFlags i r s = (s.onActuator i fun a =>
      { a with state := .open_, work := none, openT := none }).onHost fun p =>
        { p with events := p.events ++
          [⟨.standOpened, .stand i, none, BitVec.ofNat 32 r.echo.toNat, s.now⟩] } := by
  have hat : (s.onActuator i fun a => { a with state := .open_, work := none, openT := none }).actuators[i] =
      { s.actuators[i] with state := .open_, work := none, openT := none } := by
    rw [State.onActuator_actuators, upd_same]
  have hlocal : ¬ localReleases i r s := by
    rintro ⟨-, hst, -⟩
    obtain ⟨-, ho | ⟨ho, -⟩⟩ := h
    all_goals
      rw [ho] at hst
      obtain hst | hst := hst <;> cases hst
  unfold takeFlags
  dsimp only
  rw [local_kept i r s hlocal, open_ends i r s h hroom]
  split
  · refine position_idle i r _ ?_
    rw [State.onHost_actuators, hat]
    exact nofun
  · rfl
end

theorem localReleases_iff (i : Stand) (r : StandReport) (s : State) :
    localReleases i r (reportedBase i r s) ↔ r.flags.getLsbD 2 = true ∧
      (s.actuators[i].state = .open_ ∨ s.actuators[i].state = .travel ∨ s.actuators[i].state = .settle ∨
        s.actuators[i].state = .hold) ∧
      ∀ k : Source, s.trips.records[k].latched = true →
        s.trips.records[k].affected.getLsbD i.val = false := by
  rw [localReleases, reportedBase_at, engaged, decide_eq_true_iff]
  refine and_congr_right fun _ => and_congr_right fun _ => ?_
  rw [← Bool.not_eq_true, tripNames_iff]
  constructor
  · intro hno k hl
    exact Bool.eq_false_iff.mpr fun ha => hno ⟨k, hl, ha⟩
  · rintro hall ⟨k, hl, ha⟩
    exact absurd ha (Bool.eq_false_iff.mp (hall k hl))

theorem openEnds_iff (i : Stand) (r : StandReport) (s : State) :
    openEnds i r (reportedBase i r s) ↔ openEnds i r s := by
  rw [openEnds, openEnds, reportedBase_at]

/-- Settles O53: the tests of the Trip Controller on the reported levels, and the sequencer's share flag by
flag. -/
theorem reportIndicationsAct : Obligations.ReportIndicationsAct := by
  unfold Obligations.ReportIndicationsAct
  refine ⟨fun i r s => ⟨fun z hz hn => ?_, fun hn => ?_⟩, fun r s => rfl, fun s h => ⟨fun hno => ?_,
    fun tm hw ht hh hroom => ?_⟩, fun i r s hroom => ?_, fun z v s => ⟨fun h => ?_, fun ht hv => ⟨fun hl => ?_,
      fun hl => ?_⟩⟩⟩
  · have hin : standNumber i < s.mill.n ∧ standNumber i < 5 := by
      have := z.isLt
      exact ⟨by rw [standNumber]; omega, by rw [standNumber]; omega⟩
    have hzone : (⟨standNumber i, hin.2⟩ : Fin 5) = z := Fin.ext hz.symm
    refine (congrArg confirmTest (dif_pos hin)).trans ?_
    rw [hzone]
    rfl
  · have hout : ¬ (standNumber i < s.mill.n ∧ standNumber i < 5) := fun hc => absurd hc.1 (not_lt.mpr hn)
    exact congrArg confirmTest (dif_neg hout)
  · refine confirmTest_passed s fun hc => ?_
    obtain hno | hno := hno
    · exact hno hc.1
    · exact hno ((confirmHolds_iff s h).mp hc.2)
  · exact confirmTest_holds s tm hw ht ((confirmHolds_iff s h).mpr hh) hroom
  · intro a base released opened placed noted
    have hat := reportedBase_at i r s
    have hreleased : localReleases i r (reportedBase i r s) ↔ released := localReleases_iff i r s
    have hopened : openEnds i r (reportedBase i r s) ↔ opened := openEnds_iff i r s
    have hengaged : engaged s.actuators[i].state = true → ¬ opened := by
      rintro he ⟨-, ho | ⟨ho, -⟩⟩ <;> rw [show s.actuators[i].state = _ from ho] at he <;> cases he
    rw [takeReport_eq]
    refine ⟨fun hr => ?_, fun ho => ?_, fun hr hst pos w hw hc => ?_, fun hr hst v w hw hc => ?_,
      fun hr ho hidle => ?_⟩
    · rw [takeFlags_local i r _ (hreleased.mpr hr) hroom, hat]
      rfl
    · rw [takeFlags_open i r _ (hopened.mpr ho) hroom]
      rfl
    · have hopen := mt hopened.mp (hengaged (by rw [show s.actuators[i].state = _ from hst]; rfl))
      have hfinal : takeFlags i r (reportedBase i r s) = completeStep i pos (reportedBase i r s) := by
        rw [takeFlags_position i r _ (mt hreleased.mp hr) hopen, reportInPosition, if_pos hw.1]
        exact position_travel i r _ w pos (by rw [hat]; exact hw.2.1) hw.2.2 (by rw [hat]; exact hst) hc
      rw [hfinal]
      refine ⟨fun ht hsettle => ?_, fun ht hsettle => ?_, fun tgt ht hne => ?_⟩
      · have hlong : ¬ (reportedBase i r s).stands[i].settle = 0 := Nat.one_le_iff_ne_zero.mp hsettle
        rw [completeStep_there i _ pos (by rw [hat]; exact ht), if_neg hlong]
        rfl
      · have hzero : (reportedBase i r s).stands[i].settle = 0 := hsettle
        rw [completeStep_there i _ pos (by rw [hat]; exact ht), if_pos hzero]
        rfl
      · exact completeStep_onward i _ pos tgt (by rw [hat]; exact ht) hne
    · have hopen := mt hopened.mp (hengaged (by rw [show s.actuators[i].state = _ from hst]; rfl))
      have hfinal : takeFlags i r (reportedBase i r s) = acceptTrim i v (reportedBase i r s) := by
        rw [takeFlags_position i r _ (mt hreleased.mp hr) hopen, reportInPosition, if_pos hw.1]
        exact position_hold i r _ w v (by rw [hat]; exact hw.2.1) hw.2.2 (by rw [hat]; exact hst) hc
      rw [hfinal]
      refine ⟨fun ht => ?_, fun tgt ht hne => ⟨fun hb => ?_, fun hb => ?_⟩⟩
      · exact acceptTrim_same i _ v (by rw [hat]; exact ht)
      · exact acceptTrim_band i _ v tgt (by rw [hat]; exact ht) (by rw [hat]; exact hne) (by rw [hat]; exact hb)
      · rw [acceptTrim_beyond i _ v tgt (by rw [hat]; exact ht) (by rw [hat]; exact hne)
          (by rw [hat]; exact hb), hat]
        rfl
    · rw [takeFlags_position i r _ (mt hreleased.mp hr) (mt hopened.mp ho)]
      split
      · rename_i hf
        refine position_idle i r _ fun w hw hn => ?_
        rw [hat] at hw ⊢
        exact hidle w ⟨hf, hw, hn⟩
      · rfl
  · refine tensionReading_fine s z v ?_
    rw [tensioned_iff, breakTension_eq]
    exact h
  · rw [tensionReading_low s z v ((tensioned_iff s z).mpr ht) (by rw [breakTension_eq]; exact hv),
      if_neg (by omega)]
  · rw [tensionReading_low s z v ((tensioned_iff s z).mpr ht) (by rw [breakTension_eq]; exact hv), if_pos hl]

end


section
/-! SUPPORT. A composition's events (R89) and a role's drive state forgotten (R137). -/

namespace Sys2Proof.Machine

section
variable (i : Stand) (s : State)

/-- The limited flag of a composed demand (R89). -/
def limitedOf (d : DemandValue) : Bool :=
  decide (d.sum < s.stands[i].gapMin ∨ s.stands[i].gapMax < d.sum)

/-- A demand written with its flag, STAND_LIMITED raised where the flag newly sets (R89). -/
def composedState (d : DemandValue) : State :=
  let s1 := s.onDemand i fun r => { r with demand := some d, limited := limitedOf i s d }
  if limitedOf i s d && !s.demands[i].limited then raise .standLimited (.stand i) none d.sum s1 else s1

/-- A composition of a stand with a demand: written, and handed on where its value is new (R88 to R90). -/
theorem composeDemand_some (d : DemandValue) (h : demandOf s i = some d) : composeDemand i s =
    if s.demands[i].demand.map (·.value) = some d.value then composedState i s d
    else newDemand i (some d.value) (composedState i s d) := by
  obtain ⟨hc, p, hp, rfl⟩ : s.stands[i].configured = true ∧ ∃ p, s.store.active[i] = some p ∧
      ⟨clampTo s.stands[i].gapMin s.stands[i].gapMax (demandSum s i p), demandSum s i p⟩ = d := by
    simpa only [demandOf, Option.ite_none_right_eq_some, Option.map_eq_some_iff] using h
  simp only [composeDemand, hc, hp]
  rfl

theorem composedState_demands (d : DemandValue) : (composedState i s d).demands =
    upd s.demands i fun r => { r with demand := some d, limited := limitedOf i s d } := by
  unfold composedState
  dsimp only
  split <;> rfl

theorem composedState_actuators (d : DemandValue) : (composedState i s d).actuators = s.actuators := by
  unfold composedState
  dsimp only
  split <;> rfl

/-- The event of a composition, where it raises one (R89). -/
def limitEvents (d : DemandValue) : List Event :=
  if limitedOf i s d = true ∧ s.demands[i].limited = false then
    [⟨.standLimited, .stand i, none, BitVec.ofInt 32 d.sum, s.now⟩] else []

theorem composedState_room (d : DemandValue) (hroom : s.host.events.length < 48) : composedState i s d =
    (s.onDemand i fun r => { r with demand := some d, limited := limitedOf i s d }).onHost fun p =>
      { p with events := p.events ++ limitEvents i s d } := by
  unfold composedState limitEvents
  dsimp only
  by_cases hl : limitedOf i s d = true ∧ s.demands[i].limited = false
  · rw [if_pos (by rw [hl.1, hl.2]; rfl), if_pos hl, raise_room _ _ _ _ (s.onDemand i _) hroom]
    rfl
  · have hno : (limitedOf i s d && !s.demands[i].limited) = false := by
      rw [not_and, Bool.not_eq_false] at hl
      cases hlim : limitedOf i s d with
      | false => rfl
      | true => rw [hl hlim]; rfl
    rw [hno, if_neg hl]
    simp only [List.append_nil]
    rfl

/-- The demand and the flag a composition leaves (R88, R89). -/
theorem composeDemand_at : (composeDemand i s).demands[i] = { s.demands[i] with
    demand := demandOf s i, limited := (demandOf s i).elim false (limitedOf i s) } := by
  have hall : (composeDemand i s).demands = upd s.demands i fun r =>
      { r with demand := demandOf s i, limited := (demandOf s i).elim false (limitedOf i s) } := by
    cases hd : demandOf s i with
    | none =>
      rw [composeDemand_inactive i s hd, endDemand_eq]
      rfl
    | some d =>
      rw [composeDemand_some i s d hd]
      split <;> simp only [newDemand_frame, composedState_demands] <;> rfl
  rw [hall, upd_same]

/-- A composition raises STAND_LIMITED exactly where its flag newly sets (R89). -/
theorem composeDemand_host (hroom : s.host.events.length < 48) : (composeDemand i s).host =
    { s.host with events := s.host.events ++ (demandOf s i).elim [] (limitEvents i s) } := by
  cases hd : demandOf s i with
  | none =>
    rw [composeDemand_inactive i s hd, endDemand_eq, Option.elim_none, List.append_nil]
    rfl
  | some d =>
    rw [composeDemand_some i s d hd, composedState_room i s d hroom, Option.elim_some]
    split <;> simp
end

end Sys2Proof.Machine
end

section
/-! SUPPORT. A settled state after a change that wants no other stop and fills no GAP_OPEN slot (R173). -/

namespace Sys2Proof.Machine

theorem settled_sameStops (s t : State) (hl : t.link = s.link)
    (hw : t.trips.stopWanted = s.trips.stopWanted) (hs : t.trips.stopSent = s.trips.stopSent)
    (ho : ∀ i, openFilled t i = true → openFilled s i = true) (h : Settled s) : Settled t := by
  intro f hf hn
  rw [hl] at hf
  have hu := h f hf hn
  simp only [urgentFilled, stopFilled, stopOnLink, Bool.or_eq_false_iff, List.any_eq_false, hl, hw, hs]
    at hu ⊢
  obtain ⟨hstop, hopen⟩ := hu
  exact ⟨hstop, fun i hi hc => hopen i hi (ho i hc)⟩

/-- The confirmation test changes the confirmation alone (R135). -/
theorem confirmTest_kept (s : State) : (confirmTest s).trips.drive = s.trips.drive ∧
    (confirmTest s).trips.driveEntry = s.trips.driveEntry ∧
    (confirmTest s).trips.records = s.trips.records ∧
    (confirmTest s).trips.escalation = s.trips.escalation ∧
    (confirmTest s).trips.stopWanted = s.trips.stopWanted ∧
    (confirmTest s).trips.stopSent = s.trips.stopSent ∧
    (confirmTest s).trips.low = s.trips.low ∧ (confirmTest s).trips.pressed = s.trips.pressed := by
  rw [confirmTest_trips]
  split <;> exact ⟨rfl, rfl, rfl, rfl, rfl, rfl, rfl, rfl⟩

theorem settled_confirmTest (s : State) (h : Settled s) : Settled (confirmTest s) := by
  obtain ⟨-, -, -, -, hw, hs, -⟩ := confirmTest_kept s
  exact settled_sameStops s _ (by simp) hw hs
    (fun i hi => by rwa [openFilled_congr s _ i (confirmTest_actuators s)] at hi) h

end Sys2Proof.Machine
end

section
/-! SUPPORT. What an accepted Configure Stand leaves (R11). -/

namespace Sys2Proof.Machine

section
variable (p : StandParams) (i : Stand) (a : Node) (s : State)

/-- The stand's record and role written, and its terms clamped, before the demand is composed (R11). -/
def standBase : State :=
  (giveRole a (.stand i) (forgetDrive a (.stand i) (s.onStand i fun _ => standRecordOf p))).onDemand i fun d =>
    { d with ff := clampSym p.ffLimit.toNat d.ff, trim := clampSym p.monLimit.toNat d.trim }

theorem standEffect_eq : standEffect p i a s = confirmTest (composeDemand i (standBase p i a s)) := by
  have hrec : ((giveRole a (.stand i) (forgetDrive a (.stand i) (s.onStand i fun _ =>
      standRecordOf p))).stands[i]) = standRecordOf p := by
    simp only [giveRole_frame, forgetDrive_frame, State.onStand_stands]
    exact upd_same _ _ _
  unfold standEffect reclampDemand standBase
  dsimp only
  rw [hrec]
  rfl

theorem standBase_frame : (standBase p i a s).mill = s.mill ∧ (standBase p i a s).track = s.track ∧
    (standBase p i a s).gauges = s.gauges ∧ (standBase p i a s).store = s.store ∧
    (standBase p i a s).actuators = s.actuators ∧ (standBase p i a s).link = s.link ∧
    (standBase p i a s).host = s.host ∧ (standBase p i a s).now = s.now := by
  simp [standBase]

theorem standBase_stand : (standBase p i a s).stands[i] = standRecordOf p := by
  simp only [standBase, State.onDemand_stands, giveRole_frame, forgetDrive_frame, State.onStand_stands]
  exact upd_same _ _ _

theorem standBase_demand : (standBase p i a s).demands[i] = { s.demands[i] with
    ff := clampSym p.ffLimit.toNat s.demands[i].ff, trim := clampSym p.monLimit.toNat s.demands[i].trim } := by
  simp only [standBase, State.onDemand_demands, giveRole_frame, forgetDrive_frame, State.onStand_demands]
  exact upd_same _ _ _

theorem standBase_nodes (h : RolesUnique s) (b : Node) : (standBase p i a s).nodes[b] =
    if s.nodes[b].role = .stand i then (if b = a then s.nodes[b] else nodeReset .none)
    else if b = a then nodeReset (.stand i) else s.nodes[b] := by
  have hnodes : (forgetDrive a (.stand i) (s.onStand i fun _ => standRecordOf p)).nodes = s.nodes := by simp
  have := giveRole_nodes a (.stand i) (forgetDrive a (.stand i) (s.onStand i fun _ => standRecordOf p))
    (rolesUnique_of_nodes hnodes h) nofun b
  rw [hnodes] at this
  exact this

theorem standBase_trips : (standBase p i a s).trips =
    (forgetDrive a (.stand i) (s.onStand i fun _ => standRecordOf p)).trips := by
  simp [standBase]

/-- The demand to compose after a Configure Stand (R11, R89). -/
theorem demandOf_standBase : demandOf (standBase p i a s) i = s.store.active[i].map fun q =>
    let sum := s.store.table[q].sSet[i] + clampSym p.ffLimit.toNat s.demands[i].ff +
      clampSym p.monLimit.toNat s.demands[i].trim + s.demands[i].offset
    ⟨clampTo p.gapMin.toInt p.gapMax.toInt sum, sum⟩ := by
  obtain ⟨-, -, -, hstore, -⟩ := standBase_frame p i a s
  rw [demandOf]
  simp only [demandSum, standBase_stand, standBase_demand, hstore]
  exact if_pos rfl

theorem limitedOf_standBase (d : DemandValue) : limitedOf i (standBase p i a s) d =
    decide (d.sum < p.gapMin.toInt ∨ p.gapMax.toInt < d.sum) := by
  rw [limitedOf, standBase_stand]
  rfl

theorem standBase_others (j : Stand) (h : j ≠ i) : (standBase p i a s).stands[j] = s.stands[j] ∧
    (standBase p i a s).demands[j] = s.demands[j] := by
  constructor
  · simp only [standBase, State.onDemand_stands, giveRole_frame, forgetDrive_frame, State.onStand_stands]
    exact upd_other _ _ _ _ h
  · simp only [standBase, State.onDemand_demands, giveRole_frame, forgetDrive_frame, State.onStand_demands]
    exact upd_other _ _ _ _ h

theorem standBase_records : (standBase p i a s).trips.records = s.trips.records ∧
    (standBase p i a s).trips.stopWanted = s.trips.stopWanted ∧
    (standBase p i a s).trips.stopSent = s.trips.stopSent ∧
    (standBase p i a s).trips.confirm = s.trips.confirm := by
  rw [standBase_trips, forgetDrive]
  split <;> exact ⟨rfl, rfl, rfl, rfl⟩

theorem settled_standEffect (h : Settled s) : Settled (standEffect p i a s) := by
  rw [standEffect_eq]
  refine settled_confirmTest _ ?_
  obtain ⟨-, -, -, -, hact, hlink, -⟩ := standBase_frame p i a s
  obtain ⟨-, hw, hs, -⟩ := standBase_records p i a s
  refine settled_sameStops s _ (by simp [hlink]) (by simp [hw]) (by simp [hs]) (fun j hj => ?_) h
  have := (retargets_composeDemand i (standBase p i a s)).openFilled_mono j hj
  rwa [openFilled_congr s _ j hact] at this

theorem forgetDrive_held (r : Role) (h : s.nodes[a].role = r) : forgetDrive a r s = s := if_pos h

theorem forgetDrive_stand (h : s.nodes[a].role ≠ .stand i) : forgetDrive a (.stand i) s =
    s.onTrips fun t => { t with drive := upd t.drive i fun _ => .unknown } := if_neg h
end

section
variable (p : StandParams) (i : Stand) (a : Node) (s : State)

theorem standEffect_nodes : (standEffect p i a s).nodes = (standBase p i a s).nodes := by
  rw [standEffect_eq]
  simp

theorem standEffect_drive : (standEffect p i a s).trips.drive = (standBase p i a s).trips.drive := by
  rw [standEffect_eq, (confirmTest_kept _).1]
  simp

theorem standEffect_role (h : RolesUnique s) (b : Node) :
    (standEffect p i a s).nodes[b].role = .stand i ↔ b = a := by
  rw [standEffect_nodes, standBase_nodes p i a s h]
  by_cases hr : s.nodes[b].role = .stand i <;> by_cases hb : b = a
  · rw [if_pos hr, if_pos hb]
    exact iff_of_true hr hb
  · rw [if_pos hr, if_neg hb]
    exact iff_of_false nofun hb
  · rw [if_neg hr, if_pos hb]
    exact iff_of_true rfl hb
  · rw [if_neg hr, if_neg hb]
    exact iff_of_false hr hb

/-- An address that holds the role already keeps its entry, and the drive state stands (R3, R137). -/
theorem standEffect_held (h : RolesUnique s) (hr : s.nodes[a].role = .stand i) :
    (standEffect p i a s).nodes = s.nodes ∧ (standEffect p i a s).trips.drive = s.trips.drive := by
  constructor
  · refine table_ext fun b => ?_
    rw [standEffect_nodes, standBase_nodes p i a s h]
    by_cases hb : b = a
    · subst hb
      rw [if_pos hr, if_pos rfl]
    · have hne : s.nodes[b].role ≠ .stand i := fun e => hb (h b a (e.trans hr.symm) (by rw [e]; exact nofun))
      rw [if_neg hne, if_neg hb]
  · rw [standEffect_drive, standBase_trips, forgetDrive_held a (s.onStand i _) _ hr]
    rfl

/-- An address that takes the role takes its reset values, and the drive state is UNKNOWN (R3, R137). -/
theorem standEffect_given (h : RolesUnique s) (hr : s.nodes[a].role ≠ .stand i) :
    (standEffect p i a s).nodes[a] = nodeReset (.stand i) ∧
      (standEffect p i a s).trips.drive[i] = .unknown := by
  constructor
  · rw [standEffect_nodes, standBase_nodes p i a s h, if_neg hr, if_pos rfl]
  · rw [standEffect_drive, standBase_trips, forgetDrive_stand i a (s.onStand i _) hr]
    exact upd_same _ _ _

theorem standEffect_demands : (standEffect p i a s).demands = (composeDemand i (standBase p i a s)).demands := by
  rw [standEffect_eq]
  simp

/-- The stand's terms clamped and its demand composed (R11, R89). -/
theorem standEffect_demand : (standEffect p i a s).demands[i] = { s.demands[i] with
    ff := clampSym p.ffLimit.toNat s.demands[i].ff
    trim := clampSym p.monLimit.toNat s.demands[i].trim
    demand := demandOf (standBase p i a s) i
    limited := (demandOf (standBase p i a s) i).elim false fun d =>
      decide (d.sum < p.gapMin.toInt ∨ p.gapMax.toInt < d.sum) } := by
  have hlim : limitedOf i (standBase p i a s) = fun d =>
      decide (d.sum < p.gapMin.toInt ∨ p.gapMax.toInt < d.sum) := funext (limitedOf_standBase p i a s)
  rw [standEffect_demands, composeDemand_at, standBase_demand, hlim]

/-- Without an active product the demand ends (R88). -/
theorem standEffect_noDemand (hq : s.store.active[i] = none) : (standEffect p i a s).demands[i] =
    { s.demands[i] with
      ff := clampSym p.ffLimit.toNat s.demands[i].ff
      trim := clampSym p.monLimit.toNat s.demands[i].trim
      demand := none
      limited := false } := by
  rw [standEffect_demand, demandOf_standBase, hq]
  rfl

/-- With an active product the demand is composed anew (R11, R89). -/
theorem standEffect_someDemand (q : Product) (hq : s.store.active[i] = some q) :
    let sum := s.store.table[q].sSet[i] + clampSym p.ffLimit.toNat s.demands[i].ff +
      clampSym p.monLimit.toNat s.demands[i].trim + s.demands[i].offset
    (standEffect p i a s).demands[i] = { s.demands[i] with
      ff := clampSym p.ffLimit.toNat s.demands[i].ff
      trim := clampSym p.monLimit.toNat s.demands[i].trim
      demand := some ⟨clampTo p.gapMin.toInt p.gapMax.toInt sum, sum⟩
      limited := decide (sum < p.gapMin.toInt ∨ p.gapMax.toInt < sum) } := by
  rw [standEffect_demand, demandOf_standBase, hq]
  rfl

/-- Outside TRAVEL and HOLD a changed demand only becomes the target (R11, R110). -/
theorem standEffect_target (hopen : s.actuators[i].state = .open_ ∨ s.actuators[i].state = .released) :
    (standEffect p i a s).actuators[i] = { s.actuators[i] with
      t := if (standEffect p i a s).demands[i].demand.map (·.value) = s.demands[i].demand.map (·.value)
        then s.actuators[i].t else (standEffect p i a s).demands[i].demand.map (·.value) } := by
  obtain ⟨-, -, -, -, hact, -⟩ := standBase_frame p i a s
  have hstate : (standBase p i a s).actuators[i].state = s.actuators[i].state := by rw [hact]
  have ht : (standBase p i a s).actuators[i].state ≠ .travel := by
    rw [hstate]
    obtain ho | ho := hopen <;> rw [ho] <;> exact nofun
  have hh : (standBase p i a s).actuators[i].state ≠ .hold := by
    rw [hstate]
    obtain ho | ho := hopen <;> rw [ho] <;> exact nofun
  rw [standEffect_demand]
  have hactuators : (standEffect p i a s).actuators = (composeDemand i (standBase p i a s)).actuators := by
    rw [standEffect_eq, confirmTest_actuators]
  rw [hactuators, composeDemand_target i _ ht hh, standBase_demand, hact]
  simp only [eq_comm]

theorem standEffect_others (j : Stand) (h : j ≠ i) : (standEffect p i a s).stands[j] = s.stands[j] ∧
    (standEffect p i a s).demands[j] = s.demands[j] ∧
    (standEffect p i a s).actuators[j] = s.actuators[j] := by
  obtain ⟨hstand, hdemand⟩ := standBase_others p i a s j h
  obtain ⟨-, -, -, -, hact, -⟩ := standBase_frame p i a s
  obtain ⟨lim, hd⟩ := composeDemand_demands i (standBase p i a s)
  refine ⟨?_, ?_, ?_⟩
  · have : (standEffect p i a s).stands = (standBase p i a s).stands := by
      rw [standEffect_eq]
      simp
    rw [this, hstand]
  · rw [standEffect_demands, hd, upd_other _ _ _ _ h, hdemand]
  · have : (standEffect p i a s).actuators = (composeDemand i (standBase p i a s)).actuators := by
      rw [standEffect_eq, confirmTest_actuators]
    rw [this, (retargets_composeDemand i _).others j h, hact]

theorem standEffect_keeps : (standEffect p i a s).mill = s.mill ∧ (standEffect p i a s).track = s.track ∧
    (standEffect p i a s).gauges = s.gauges ∧ (standEffect p i a s).store = s.store ∧
    (standEffect p i a s).trips.records = s.trips.records ∧ (standEffect p i a s).link = s.link := by
  obtain ⟨hmill, htrack, hgauges, hstore, -, hlink, -⟩ := standBase_frame p i a s
  have hrec : (standEffect p i a s).trips.records = s.trips.records := by
    obtain ⟨-, -, hr, -⟩ := confirmTest_kept (composeDemand i (standBase p i a s))
    rw [standEffect_eq, hr, show (composeDemand i (standBase p i a s)).trips = (standBase p i a s).trips by simp,
      (standBase_records p i a s).1]
  refine ⟨?_, ?_, ?_, ?_, hrec, ?_⟩ <;> rw [standEffect_eq] <;> simp [hmill, htrack, hgauges, hstore, hlink]

/-- The one event of an accepted Configure Stand, where its limited flag newly sets (R89). -/
theorem standEffect_host (hc : s.trips.confirm ≠ .waiting) (hroom : s.host.events.length < 48) :
    (standEffect p i a s).host.events = s.host.events ++
      (if (standEffect p i a s).demands[i].limited = true ∧ s.demands[i].limited = false then
        [⟨.standLimited, .stand i, none, BitVec.ofInt 32
          (((standEffect p i a s).demands[i].demand.map (·.sum)).getD 0), s.now⟩] else []) := by
  obtain ⟨-, -, -, -, -, -, hhost, hnow⟩ := standBase_frame p i a s
  obtain ⟨-, -, -, hconf⟩ := standBase_records p i a s
  have htrips : (composeDemand i (standBase p i a s)).trips = (standBase p i a s).trips := by simp
  have hpass : standEffect p i a s = composeDemand i (standBase p i a s) := by
    rw [standEffect_eq]
    refine confirmTest_passed _ fun hw => hc ?_
    rw [← hconf, ← htrips]
    exact hw.1
  rw [standEffect_demand, hpass, composeDemand_host i _ (by rw [hhost]; exact hroom), hhost]
  cases demandOf (standBase p i a s) i with
  | none => simp
  | some d =>
    rw [Option.elim_some, limitEvents, limitedOf_standBase, standBase_demand, hnow]
    rfl
end

end Sys2Proof.Machine
end

section
/-! The statement about an accepted Configure Stand. -/

open Sys2Proof Sys2Proof.Machine

/-- Settles O29: the record, the role and the clamped terms, then one composition, whose new demand an OPEN or
RELEASED stand takes as its target alone. -/
theorem configureStandEffect : Obligations.ConfigureStandEffect := by
  unfold Obligations.ConfigureStandEffect
  intro tag p s i h hroles hi hc hn hopen hchecks ff trim
  obtain ⟨a, ha, hserve⟩ := serveConfigureStand_accepts p (taken tag (.configureStand p) s) i hi hc hn
    (.inr hopen) hchecks
  have hrun := frameOf_settled tag (.configureStand p) s _ _ h
    (settled_standEffect p i a (taken tag (.configureStand p) s) h.settled) hserve
  have hrole := standEffect_role p i a (taken tag (.configureStand p) s) hroles
  have hheld := standEffect_held p i a (taken tag (.configureStand p) s) hroles
  have hgiven := standEffect_given p i a (taken tag (.configureStand p) s) hroles
  have hnone := standEffect_noDemand p i a (taken tag (.configureStand p) s)
  have hsome := standEffect_someDemand p i a (taken tag (.configureStand p) s)
  have htarget := standEffect_target p i a (taken tag (.configureStand p) s) hopen
  have hothers := standEffect_others p i a (taken tag (.configureStand p) s)
  have hhost := standEffect_host p i a (taken tag (.configureStand p) s)
  obtain ⟨hmill, htrack, hgauges, hstore, hrec, hlink⟩ := standEffect_keeps p i a (taken tag (.configureStand p) s)
  generalize standEffect p i a (taken tag (.configureStand p) s) = u at *
  refine ⟨_, hrun, fun b => (hrole b).trans ⟨fun e => e ▸ ha, fun hb => Fin.ext (hb.trans ha.symm)⟩,
    fun b hb => ?_, hnone, hsome, htarget, hothers, hmill, htrack, hgauges, hstore, hrec, hlink, hhost⟩
  obtain rfl : b = a := Fin.ext (hb.trans ha.symm)
  exact ⟨hheld, hgiven⟩

end


section
/-! SUPPORT. What the sequencer makes of a demand (R110, R112, R116). -/

namespace Sys2Proof.Machine

section
variable (i : Stand) (s t : State) (ha : t.actuators = s.actuators)
include ha

theorem buildWork_actuators_congr (cmd : GapCommand) :
    (buildWork i cmd t).actuators = (buildWork i cmd s).actuators := by
  simp only [buildWork, State.onActuator_actuators, ha]

theorem dropWork_actuators_congr : (dropWork i t).actuators = (dropWork i s).actuators := by
  simp only [dropWork, State.onActuator_actuators, ha]

variable (hs : t.stands = s.stands)
include hs

theorem applyTravel_actuators_congr : (applyTravel i t).actuators = (applyTravel i s).actuators := by
  have hbuild := buildWork_actuators_congr i s t ha
  simp only [applyTravel, ha, hs]
  cases s.actuators[i].t with
  | none => exact ha
  | some v =>
    cases s.actuators[i].work with
    | none => exact hbuild _
    | some w =>
      dsimp only
      cases w.phase with
      | queued =>
        dsimp only
        split_ifs
        · exact ha
        · exact hbuild _
      | inFlight => exact ha
      | moving => exact ha

theorem enterTravel_actuators_congr : (enterTravel i t).actuators = (enterTravel i s).actuators :=
  applyTravel_actuators_congr i _ _ (by simp only [State.onActuator_actuators, dropWork, ha]) hs

theorem applyHold_actuators_congr : (applyHold i t).actuators = (applyHold i s).actuators := by
  have hbuild := buildWork_actuators_congr i s t ha
  have htravel := enterTravel_actuators_congr i s t ha hs
  have hdrop := dropWork_actuators_congr i s t ha
  simp only [applyHold, ha, hs]
  cases s.actuators[i].t with
  | none => exact ha
  | some v =>
    dsimp only
    by_cases hp : v = s.actuators[i].p
    · rw [if_pos hp, if_pos hp]
      exact hdrop
    · rw [if_neg hp, if_neg hp]
      by_cases hb : s.stands[i].mode = .band ∧ (v - s.actuators[i].c).natAbs ≤ s.stands[i].band
      · rw [if_pos hb, if_pos hb]
        cases s.actuators[i].work with
        | none => exact hbuild _
        | some w =>
          dsimp only
          split_ifs
          · exact ha
          · exact hbuild _
      · rw [if_neg hb, if_neg hb]
        exact htravel

/-- What a demand makes of a stand depends on the actuators and the stand records alone. -/
theorem newDemand_actuators_congr (d : Option Int) :
    (newDemand i d t).actuators = (newDemand i d s).actuators := by
  have htook : (t.onActuator i fun a => { a with t := d }).actuators =
      (s.onActuator i fun a => { a with t := d }).actuators := by
    simp only [State.onActuator_actuators, ha]
  have hbusy : ∀ moving, workBusy t i moving = workBusy s i moving := fun moving => by
    simp only [workBusy, ha]
  simp only [newDemand, hbusy, ha]
  cases s.actuators[i].state with
  | travel =>
    dsimp only
    split_ifs
    · exact htook
    · exact applyTravel_actuators_congr i _ _ htook hs
  | hold =>
    dsimp only
    split_ifs
    · exact htook
    · exact applyHold_actuators_congr i _ _ htook hs
  | _ => exact htook
end

section
variable (i : Stand) (s : State) (t : Int)

/-- The target taken, before it is acted on (R110). -/
def withTarget : State := s.onActuator i fun a => { a with t := some t }

theorem withTarget_at : (withTarget i s t).actuators[i] = { s.actuators[i] with t := some t } := upd_same _ _ _

theorem withTarget_eq : withTarget i s t = s.onActuator i fun _ => { s.actuators[i] with t := some t } :=
  onActuator_congr s i _ _ rfl

/-- Work on the link, or a step that moves, keeps the sequencer from acting (R112, R116). -/
theorem newDemand_busy (w : Work) (hw : s.actuators[i].work = some w)
    (hb : w.phase = .inFlight ∨ s.actuators[i].state = .travel ∧ w.phase = .moving) :
    newDemand i (some t) s = withTarget i s t := by
  simp only [newDemand, workBusy, hw]
  obtain hf | ⟨ht, hm⟩ := hb
  · rw [hf]
    cases s.actuators[i].state <;> rfl
  · rw [ht, hm]
    rfl

theorem workBusy_queued (moving : Bool) (h : ∀ w, s.actuators[i].work = some w → w.phase = .queued) :
    workBusy s i moving = false := by
  cases hw : s.actuators[i].work with
  | none => simp only [workBusy, hw]
  | some w => simp only [workBusy, hw, h w hw]

theorem newDemand_travel (ht : s.actuators[i].state = .travel)
    (hq : ∀ w, s.actuators[i].work = some w → w.phase = .queued) :
    newDemand i (some t) s = applyTravel i (withTarget i s t) := by
  simp only [newDemand, ht, workBusy_queued i s true hq]
  rfl

theorem newDemand_hold (ht : s.actuators[i].state = .hold)
    (hq : ∀ w, s.actuators[i].work = some w → w.phase = .queued) :
    newDemand i (some t) s = applyHold i (withTarget i s t) := by
  simp only [newDemand, ht, workBusy_queued i s false hq]
  rfl

/-- A command built behind a taken target (R108). -/
theorem buildWork_withTarget (cmd : GapCommand) : buildWork i cmd (withTarget i s t) =
    s.onActuator i fun _ => { s.actuators[i] with
      t := some t, number := s.actuators[i].number + 1,
      work := some ⟨cmd, s.actuators[i].number + 1, .queued⟩ } := by
  rw [buildWork, withTarget, onActuator_onActuator]
  exact onActuator_congr s i _ _ rfl

end

end Sys2Proof.Machine
end

section
/-! SUPPORT. The sequencer's share of a new demand, state by state (R110, R112, R116). -/

namespace Sys2Proof.Machine

section
variable (i : Stand) (s : State) (t : Int)

/-- In TRAVEL with no step or a QUEUED one the wanted step is kept or built (R112). -/
theorem newDemand_step (ht : s.actuators[i].state = .travel)
    (hq : ∀ w, s.actuators[i].work = some w → w.phase = .queued) :
    newDemand i (some t) s =
      if s.actuators[i].work.map (·.cmd) = some (.travel (wantedStep s.actuators[i].p t s.stands[i].maxStep))
      then withTarget i s t
      else buildWork i (.travel (wantedStep s.actuators[i].p t s.stands[i].maxStep)) (withTarget i s t) := by
  rw [newDemand_travel i s t ht hq, applyTravel_queued i (withTarget i s t) t]
  · rw [withTarget_at]
    rfl
  · rw [withTarget_at]
  · rw [withTarget_at]
    exact hq

/-- In HOLD at the target a trim is dropped (R116). -/
theorem newDemand_there (ht : s.actuators[i].state = .hold)
    (hq : ∀ w, s.actuators[i].work = some w → w.phase = .queued) (hp : t = s.actuators[i].p) :
    newDemand i (some t) s = s.onActuator i fun _ => { s.actuators[i] with t := some t, work := none } := by
  rw [newDemand_hold i s t ht hq, applyHold_there]
  · rw [dropWork, withTarget, onActuator_onActuator]
    exact onActuator_congr s i _ _ rfl
  · rw [withTarget_at]
    exact congrArg some hp

/-- In HOLD within the band the wanted trim is kept or built (R116). -/
theorem newDemand_trim (ht : s.actuators[i].state = .hold)
    (hq : ∀ w, s.actuators[i].work = some w → w.phase = .queued) (hp : t ≠ s.actuators[i].p)
    (hb : s.stands[i].mode = .band ∧ (t - s.actuators[i].c).natAbs ≤ s.stands[i].band) :
    newDemand i (some t) s =
      if s.actuators[i].work.map (·.cmd) = some (.trim (t - s.actuators[i].c)) then withTarget i s t
      else buildWork i (.trim (t - s.actuators[i].c)) (withTarget i s t) := by
  have hat := withTarget_at i s t
  rw [newDemand_hold i s t ht hq, applyHold_band i (withTarget i s t) t (by rw [hat]) (by rw [hat]; exact hp)
    hb.1 (by rw [hat]; exact hb.2) (by rw [hat]; exact hq), hat]

/-- In HOLD beyond the band the stand travels (R116). -/
theorem newDemand_far (ht : s.actuators[i].state = .hold)
    (hq : ∀ w, s.actuators[i].work = some w → w.phase = .queued) (hp : t ≠ s.actuators[i].p)
    (hb : ¬ (s.stands[i].mode = .band ∧ (t - s.actuators[i].c).natAbs ≤ s.stands[i].band)) :
    newDemand i (some t) s = s.onActuator i fun _ => { s.actuators[i] with
      t := some t, state := .travel, number := s.actuators[i].number + 1,
      work := some ⟨.travel (wantedStep s.actuators[i].p t s.stands[i].maxStep),
        s.actuators[i].number + 1, .queued⟩ } := by
  have hat := withTarget_at i s t
  rw [newDemand_hold i s t ht hq, applyHold_beyond i (withTarget i s t) t (by rw [hat])
    (by rw [hat]; exact hp) (by rw [hat]; exact hb), enterTravel_builds i (withTarget i s t) t (by rw [hat]), hat,
    withTarget, onActuator_onActuator]
  exact onActuator_congr s i _ _ rfl
end

/-- What a composition hands on (R90). -/
theorem composeDemand_actuators (i : Stand) (s : State) (d : DemandValue) (h : demandOf s i = some d) :
    (composeDemand i s).actuators = if s.demands[i].demand.map (·.value) = some d.value then s.actuators
      else (newDemand i (some d.value) s).actuators := by
  have ha : (composedState i s d).actuators = s.actuators := composedState_actuators i s d
  have hs : (composedState i s d).stands = s.stands := by
    unfold composedState
    dsimp only
    split <;> rfl
  rw [composeDemand_some i s d h]
  split_ifs
  · exact ha
  · exact newDemand_actuators_congr i s _ ha hs _

/-- The events and the overrun flag a composition leaves (R89, R191). -/
theorem composeDemand_raises (i : Stand) (s : State) (d : DemandValue) (h : demandOf s i = some d) :
    (composeDemand i s).host = (if limitedOf i s d = true ∧ s.demands[i].limited = false
      then raise .standLimited (.stand i) none d.sum s else s).host := by
  have hcomposed : (composeDemand i s).host = (composedState i s d).host := by
    rw [composeDemand_some i s d h]
    split_ifs <;> simp
  rw [hcomposed]
  unfold composedState
  dsimp only
  cases limitedOf i s d <;> cases s.demands[i].limited <;> rfl

end Sys2Proof.Machine
end

section
/-! The statement about the composition of a demand and what the sequencer makes of it. -/

open Sys2Proof Sys2Proof.Machine

/-- Settles O41: the closed form of a composition, and the sequencer's answer to a demand by its state and the
phase of its work. -/
theorem demandIsClampedSum : Obligations.DemandIsClampedSum := by
  unfold Obligations.DemandIsClampedSum
  refine ⟨fun i s => ?_, fun i s => ?_⟩
  · intro next
    have hothers : ∀ j : Stand, j ≠ i → next.demands[j] = s.demands[j] ∧ next.actuators[j] = s.actuators[j] := by
      intro j hj
      obtain ⟨lim, hd⟩ := composeDemand_demands i s
      exact ⟨by rw [hd, upd_other _ _ _ _ hj], (retargets_composeDemand i s).others j hj⟩
    refine ⟨hothers, by simp [next], by simp [next], by simp [next], by simp [next], by simp [next],
      by simp [next], by simp [next], by simp [next], fun hno => ?_, fun p hc hp => ?_⟩
    · have hnone : demandOf s i = none := by
        obtain hc | hp := hno
        · exact if_neg (by rw [hc]; exact nofun)
        · simp only [demandOf, hp, Option.map_none, ite_self]
      have hend : next = endDemand i s := composeDemand_inactive i s hnone
      rw [hend, newDemand_none, endDemand_eq]
      refine ⟨upd_same _ _ _, rfl, fun hd => ?_, fun hd => ?_⟩
      · rw [State.onActuator_actuators, upd_same, hd]
        rfl
      · rw [State.onActuator_actuators, upd_same, State.onActuator_actuators, upd_same,
          if_pos (Option.isSome_iff_ne_none.mpr hd)]
        rfl
    · intro d sum v lim
      have hd : demandOf s i = some ⟨v, sum⟩ := by
        rw [demandOf, if_pos hc, hp]
        rfl
      have hact := composeDemand_actuators i s ⟨v, sum⟩ hd
      refine ⟨?_, fun he => ?_, fun he => ?_, composeDemand_raises i s ⟨v, sum⟩ hd⟩
      · exact (composeDemand_at i s).trans (by rw [hd]; rfl)
      · rw [if_pos he] at hact
        exact congrArg (fun v : Vector Actuator 5 => v[i]) hact
      · rw [if_neg he] at hact
        exact congrArg (fun v : Vector Actuator 5 => v[i]) hact
  · intro r a becomes queued
    refine ⟨(newDemand_none i s).trans (onActuator_congr s i _ _ rfl), fun t => ?_⟩
    intro took step built
    refine ⟨fun ht hh => (newDemand_idle i _ s ht hh).trans (withTarget_eq i s t), fun w hw hb => ?_, fun ht hq => ?_,
      fun hh hq => ?_⟩
    · exact (newDemand_busy i s t w hw hb).trans (withTarget_eq i s t)
    · have hstep := newDemand_step i s t ht hq
      refine ⟨fun he => ?_, fun he => ?_⟩
      · exact hstep.trans ((if_pos he).trans (withTarget_eq i s t))
      · exact hstep.trans ((if_neg he).trans (buildWork_withTarget i s t _))
    · intro near
      refine ⟨newDemand_there i s t hh hq, fun hp hb => ?_, newDemand_far i s t hh hq⟩
      have htrim := newDemand_trim i s t hh hq hp hb
      refine ⟨fun he => ?_, fun he => ?_⟩
      · exact htrim.trans ((if_pos he).trans (withTarget_eq i s t))
      · exact htrim.trans ((if_neg he).trans (buildWork_withTarget i s t _))

end


section
/-! SUPPORT. Feedforward, the monitor and the product switch of a stand (R82, R91 to R99). -/

namespace Sys2Proof.Machine

theorem onDemand_onDemand (s : State) (i : Stand) (f g : DemandState → DemandState) :
    (s.onDemand i f).onDemand i g = s.onDemand i fun d => g (f d) := by
  simp only [State.onDemand, upd_upd]
  rfl

section
variable (i : Stand) (s : State)

/-- The freeze that the bite of a cell leaves (R98). -/
def thawed (y : Cell) (freeze : Option Nat) : Option Nat :=
  freeze.filter fun n => !(y.weld && decide (n ≤ y.serial))

theorem thawed_some (y : Cell) (n : Nat) :
    thawed y (some n) = if y.weld = true ∧ n ≤ y.serial then none else some n := by
  unfold thawed
  rw [Option.filter_some]
  by_cases h : y.weld = true ∧ n ≤ y.serial
  · rw [if_pos h, h.1, decide_eq_true h.2]
    rfl
  · rw [if_neg h, if_pos]
    rw [Bool.not_eq_true', Bool.and_eq_false_iff, decide_eq_false_iff_not, ← Bool.not_eq_true]
    exact not_and_or.mp h

/-- The terms a stand keeps at the switch to another product (R98, R99). -/
def switchTerms (y : Cell) (carry : Bool) (d : DemandState) : DemandState :=
  { d with freeze := thawed y d.freeze, trim := if carry then d.trim else 0 }

/-- The stand's active product replaced (R82). -/
def activated (y : Cell) : State :=
  s.onStore fun t => { t with active := upd t.active i fun _ => some y.product }

theorem biteProduct_switches (y : Cell) (h : s.store.active[i] ≠ some y.product) :
    biteProduct i y s = raise .weldAtStand (.stand i) (some y.serial) y.product.val
      (recompose i (switchTerms y s.store.table[y.product].carryTrim) (activated i s y)) := by
  unfold biteProduct
  rw [if_neg h]
  dsimp only
  rw [switchDemand, endFreeze, onDemand_onDemand]
  rfl

/-- A composition adds at most one event. -/
theorem recompose_events (f : DemandState → DemandState) (hroom : s.host.events.length ≤ 46) :
    (recompose i f s).host.events.length < 48 := by
  rw [recompose, composeDemand_host i _ (by rw [State.onDemand_host]; omega)]
  have hone : ((demandOf (s.onDemand i f) i).elim [] (limitEvents i (s.onDemand i f))).length ≤ 1 := by
    cases demandOf (s.onDemand i f) i with
    | none => exact Nat.zero_le 1
    | some d =>
      rw [Option.elim_some, limitEvents]
      split_ifs
      · exact le_refl 1
      · exact Nat.zero_le 1
  simp only [List.length_append, State.onDemand_host]
  omega

theorem feedforward_unconfigured (y : Cell) (h : s.stands[i].configured = false) : feedforward s i y = 0 := by
  simp only [feedforward, h]

theorem feedforward_noInput (y : Cell) (h : biteInput s i y = none) : feedforward s i y = 0 := by
  unfold feedforward
  rw [h]
  cases s.stands[i].configured <;> rfl

theorem feedforward_input (y : Cell) (d : Int) (hc : s.stands[i].configured = true) (h : biteInput s i y = some d) :
    feedforward s i y =
      clampSym s.stands[i].ffLimit (-(scaleQ12 (d * s.store.table[y.product].kFf[i]))) := by
  simp only [feedforward, hc, h]

/-- The input of stand 1: the entry measurement (R91). -/
theorem biteInput_first (y : Cell) : biteInput s 0 y =
    y.measured.map fun m => (m.h0 : Int) - s.store.table[y.product].hRef := rfl

/-- The input of a later stand: the mean of its own samples of the cell, while its gauge is installed (R91). -/
theorem biteInput_later (y : Cell) (j : Fin 4) : biteInput s j.succ y =
    match s.gauges[j.succ.castSucc].installed, y.entries[j.val]? with
    | true, some n =>
      if 1 ≤ n.count then
        some ((roundHalfUp n.sum n.count : Int) - s.store.table[y.product].hExit[j.castSucc])
      else none
    | _, _ => none := rfl

/-- A monitor update (R95). -/
theorem monitorUpdate_taken (x : Cell) (h : Nat) (hc : s.stands[i].configured = true)
    (hf : s.demands[i].freeze = none) (hp : s.store.active[i] = some x.product) :
    monitorUpdate i x h s = recompose i
      (fun d => { d with trim := clampSym s.stands[i].monLimit (d.trim -
        scaleQ12 (((h : Int) - s.store.table[x.product].hExit[i]) * s.store.table[x.product].kMon[i])) })
      (onEntry x.serial i (fun n => { n with monUsed := true }) s) := by
  unfold monitorUpdate
  rw [if_pos ⟨hc, hf, hp⟩]
  rfl

/-- A monitor update passed over (R96). -/
theorem monitorUpdate_passed (x : Cell) (h : Nat) (hno : s.stands[i].configured = false ∨
    s.demands[i].freeze.isSome = true ∨ s.store.active[i] ≠ some x.product) : monitorUpdate i x h s = s := by
  unfold monitorUpdate
  refine if_neg ?_
  rintro ⟨hc, hf, hp⟩
  obtain hn | hn | hn := hno
  · exact absurd (hc.symm.trans hn) nofun
  · rw [hf] at hn
    exact absurd hn nofun
  · exact hn hp

/-- The cells of the serial show the update (R95). -/
theorem onEntry_marks (serial : Nat) (c : Cell) (n : StandEntry)
    (hc : c ∈ (onEntry serial i (fun n => { n with monUsed := true }) s).track.queue) (hs : c.serial = serial)
    (hn : c.entries[i.val]? = some n) : n.monUsed = true := by
  obtain ⟨b, -, hb⟩ := List.mem_map.mp (hc : c ∈ s.track.queue.map fun c => if c.serial = serial then
    { c with entries := c.entries.modify i.val fun n => { n with monUsed := true } } else c)
  by_cases hbs : b.serial = serial
  · rw [if_pos hbs] at hb
    subst hb
    rw [List.getElem?_modify_eq] at hn
    obtain ⟨m, -, rfl⟩ := Option.map_eq_some_iff.mp hn
    rfl
  · rw [if_neg hbs] at hb
    subst hb
    exact absurd hs hbs
end

/-- The demand a switched stand is given (R89, R99). -/
theorem biteProduct_switched (s : State) (i : Stand) (y : Cell) (h : s.store.active[i] ≠ some y.product) :
    let t := biteProduct i y s
    t.store = { s.store with active := s.store.active.set i.val (some y.product) } ∧
    (∃ lim, t.demands[i] = { switchTerms y s.store.table[y.product].carryTrim s.demands[i] with
      demand := if s.stands[i].configured = true then
          let sum := s.store.table[y.product].sSet[i] + t.demands[i].ff + t.demands[i].trim + t.demands[i].offset
          some ⟨clampTo s.stands[i].gapMin s.stands[i].gapMax sum, sum⟩ else none
      limited := lim }) ∧
    (s.host.events.length ≤ 46 → t.host.events.getLast? =
      some ⟨.weldAtStand, .stand i, some y.serial, BitVec.ofNat 32 y.product.val, s.now⟩) ∧
    (∀ j : Stand, j ≠ i → t.demands[j] = s.demands[j] ∧ t.actuators[j] = s.actuators[j]) ∧
    t.track = s.track ∧ t.gauges = s.gauges ∧ t.trips = s.trips := by
  intro t
  have ht : t = raise .weldAtStand (.stand i) (some y.serial) y.product.val
      (recompose i (switchTerms y s.store.table[y.product].carryTrim) (activated i s y)) := biteProduct_switches i s y h
  generalize switchTerms y s.store.table[y.product].carryTrim = f at ht ⊢
  clear_value t
  subst ht
  have hkept := recompose_demandOnly i f (activated i s y)
  refine ⟨?_, ?_, fun hroom => ?_, fun j hj => ?_, ?_, ?_, ?_⟩
  · simp only [raise_frame, hkept.store]
    rfl
  · obtain ⟨lim, hat⟩ := recompose_at i f (activated i s y)
    have hact : (activated i s y).store.active[i] = some y.product := upd_same _ _ _
    rw [hkept.demandOf_eq i, hact] at hat
    simp only [raise_frame]
    exact ⟨lim, hat⟩
  · have hnow : (recompose i f (activated i s y)).now = s.now := by simp [recompose, activated]
    rw [raise_room _ _ _ _ _ (recompose_events i (activated i s y) f hroom), hnow, BitVec.ofInt_natCast]
    exact List.getLast?_concat
  · simp only [raise_frame]
    exact recompose_others i f (activated i s y) j hj
  · simp only [raise_frame, hkept.track]
    rfl
  · simp [recompose, activated]
  · simp only [raise_frame, hkept.trips]
    rfl

end Sys2Proof.Machine
end

section
/-! The statement about feedforward, the monitor and the product switch. -/

open Sys2Proof Sys2Proof.Machine

/-- Settles O42: the switch, the terms and the update by their closed forms. -/
theorem feedforwardAndMonitor : Obligations.FeedforwardAndMonitor := by
  unfold Obligations.FeedforwardAndMonitor
  refine ⟨fun s i x h => ⟨fun hi => ?_, fun hi => ?_⟩, fun s i x m => ⟨fun hi hm hs => ?_, fun hno => ?_⟩,
    fun s i y => ⟨fun h => if_pos h, fun h => ?_⟩, fun s y i => feedforward_unconfigured i s y,
    fun s y hm => ?_, fun s y m hc hm => ?_, fun s y j => ⟨fun hno => ?_, fun n hc hg hn hone => ?_⟩,
    fun s i x h => ⟨monitorUpdate_passed i s x h, fun hc hf hp => ?_⟩⟩
  · exact if_pos hi
  · exact if_neg (by rw [show s.gauges[zoneAfter i].installed = false from hi]; exact nofun)
  · exact if_pos ⟨by rw [show s.gauges[zoneAfter i].installed = false from hi]; exact nofun, hm,
      by rw [hs]; exact nofun⟩
  · refine if_neg ?_
    rintro ⟨hi, hm, hs⟩
    obtain hn | hn | hn := hno
    · exact hi hn
    · exact absurd (hm.symm.trans hn) nofun
    · exact hs hn
  · obtain ⟨hstore, ⟨lim, hat⟩, hlast, hothers, htrack, hgauges, htrips⟩ := biteProduct_switched s i y h
    generalize biteProduct i y s = t at *
    have hff : t.demands[i].ff = s.demands[i].ff := (congrArg DemandState.ff hat :)
    have hoff : t.demands[i].offset = s.demands[i].offset := (congrArg DemandState.offset hat :)
    have htrim : t.demands[i].trim = _ := congrArg DemandState.trim hat
    have hfreeze : t.demands[i].freeze = thawed y s.demands[i].freeze := congrArg DemandState.freeze hat
    have hdemand : t.demands[i].demand = _ := congrArg DemandState.demand hat
    exact ⟨hstore, hff, hoff, htrim, fun n hn => by rw [hfreeze, hn, thawed_some], fun hn => by rw [hfreeze, hn]; rfl,
      hdemand, hlast, hothers, htrack, hgauges, htrips⟩
  · refine feedforward_noInput 0 s y ?_
    rw [biteInput_first, hm]
    rfl
  · refine feedforward_input 0 s y _ hc ?_
    rw [biteInput_first, hm]
    rfl
  · refine feedforward_noInput j.succ s y ?_
    rw [biteInput_later]
    obtain hg | hn := hno
    · rw [hg]
    · cases hentry : y.entries[j.val]? with
      | none => cases s.gauges[j.succ.castSucc].installed <;> rfl
      | some n =>
        cases s.gauges[j.succ.castSucc].installed with
        | false => rfl
        | true => exact if_neg (by rw [hn n hentry]; exact nofun)
  · refine feedforward_input j.succ s y _ hc ?_
    rw [biteInput_later, hg, hn]
    exact if_pos hone
  · rw [monitorUpdate_taken i s x h hc hf hp]
    generalize hs : onEntry x.serial i (fun n => { n with monUsed := true }) s = u
    have hdem : u.demands = s.demands := by rw [← hs]; rfl
    obtain ⟨lim, hat⟩ := recompose_at i (fun d => { d with trim := clampSym s.stands[i].monLimit (d.trim -
        scaleQ12 (((h : Int) - s.store.table[x.product].hExit[i]) * s.store.table[x.product].kMon[i])) }) u
    have htrack := (recompose_demandOnly i (fun d => { d with trim := clampSym s.stands[i].monLimit (d.trim -
        scaleQ12 (((h : Int) - s.store.table[x.product].hExit[i]) * s.store.table[x.product].kMon[i])) }) u).track
    refine ⟨by rw [hat, hdem], by rw [hat, hdem], fun c hc hser n hn => ?_, fun j hj => ?_⟩
    · rw [htrack, ← hs] at hc
      exact onEntry_marks i s x.serial c n hc hser hn
    · rw [(recompose_others i _ u j hj).1, hdem]

end


section
/-! SUPPORT. What holds through the steps of an advance, a confirmation and a weld: a predicate that the
elementary changes keep which these are made of. -/

namespace Sys2Proof.Machine

/-- The elementary changes that the Tracking Unit makes or causes: none moves an odometer or ends a run. -/
structure StripRuns (P : State → Prop) : Prop where
  strip : ∀ (f : Track → Track) s, (f s.track).odo = s.track.odo →
    ((f s.track).mode = .stopped ↔ s.track.mode = .stopped) → P s → P (s.onTrack f)
  store : ∀ (f : Store → Store) s, P s → P (s.onStore f)
  terms : ∀ i (f : DemandState → DemandState) s, P s → P (s.onDemand i f)
  target : ∀ i d s, P s → P (newDemand i d s)
  gauge : ∀ p (f : GaugeRecord → GaugeRecord) s, P s → P (s.onGauge p f)
  raised : ∀ c sub n v s, P s → P (raise c sub n v s)
  trip : ∀ k d s, P s → P (raiseTrip k d s)

namespace StripRuns

variable {P : State → Prop}

theorem cell (K : StripRuns P) (n : Nat) (f : Cell → Cell) (s : State) (h : P s) : P (onCell n f s) :=
  K.strip _ s rfl Iff.rfl h

theorem entry (K : StripRuns P) (n : Nat) (i : Stand) (f : StandEntry → StandEntry) (s : State) (h : P s) :
    P (onEntry n i f s) :=
  K.cell n _ s h

theorem compose (K : StripRuns P) (i : Stand) (s : State) (h : P s) : P (composeDemand i s) := by
  cases hd : demandOf s i with
  | none =>
    rw [composeDemand_inactive i s hd, endDemand]
    split
    · exact K.target i none _ (K.terms i _ s h)
    · exact K.terms i _ s h
  | some d =>
    have hcomposed : P (composedState i s d) := by
      unfold composedState
      dsimp only
      split
      · exact K.raised _ _ _ _ _ (K.terms i _ s h)
      · exact K.terms i _ s h
    rw [composeDemand_some i s d hd]
    split
    · exact hcomposed
    · exact K.target i _ _ hcomposed

theorem approach (K : StripRuns P) (i : Stand) (y : Cell) (s : State) (h : P s) : P (signalApproach i y s) :=
  K.terms i _ _ (K.cell _ _ s h)

theorem product (K : StripRuns P) (i : Stand) (y : Cell) (s : State) (h : P s) : P (biteProduct i y s) := by
  unfold biteProduct
  split
  · exact h
  · exact K.raised _ _ _ _ _ (K.compose i _ (K.terms i _ _ (K.terms i _ _ (K.store _ s h))))

theorem feed (K : StripRuns P) (i : Stand) (y : Cell) (s : State) (h : P s) : P (biteDemand i y s) :=
  K.compose i _ (K.terms i _ _ (K.entry _ i _ _ (K.terms i _ s h)))

theorem monitor (K : StripRuns P) (i : Stand) (x : Cell) (v : Nat) (s : State) (h : P s) :
    P (monitorUpdate i x v s) := by
  unfold monitorUpdate
  split
  · exact K.compose i _ (K.entry _ i _ _ (K.terms i _ s h))
  · exact h

theorem massFlow (K : StripRuns P) (i : Stand) (x : Cell) (n : Nat) (s : State) (h : P s) :
    P (formMassFlow i x n s) := by
  unfold formMassFlow takeMassFlow
  repeat' split
  · exact h
  · exact h
  · exact K.monitor i x _ _ (K.entry _ i _ s h)
  · exact K.entry _ i _ s h

theorem finalised (K : StripRuns P) (i : Stand) (x : Cell) (s : State) (h : P s) : P (finalise i x s) := by
  unfold finalise takeMeasured
  dsimp only
  repeat' split
  · exact h
  · exact K.monitor i x _ _ (K.entry _ i _ s h)
  · exact K.entry _ i _ s h
  · exact h

theorem threaded (K : StripRuns P) (i : Stand) (y : Cell) (s : State) (h : P s) : P (threadingDone i y s) := by
  unfold threadingDone
  split
  · rename_i hm
    refine K.raised _ _ _ _ _ (K.strip _ s rfl (iff_of_false nofun ?_) h)
    rw [hm.1]
    exact nofun
  · exact h

theorem bitten (K : StripRuns P) (i : Stand) (y : Cell) (s : State) (h : P s) : P (bite i y s) := by
  have handed : ∀ u, P u → P (biteDemand i y (biteProduct i y u)) := fun u hu =>
    K.feed i y _ (K.product i y u hu)
  unfold bite
  dsimp only
  refine K.threaded i y _ ?_
  repeat' split
  · exact K.massFlow i _ _ _ (handed _ (K.approach i y _ (K.cell _ _ s h)))
  · exact K.massFlow i _ _ _ (handed _ (K.cell _ _ s h))
  · exact handed _ (K.approach i y _ (K.cell _ _ s h))
  · exact handed _ (K.cell _ _ s h)

theorem bites (K : StripRuns P) (i : Stand) (fuel : Nat) (s : State) (h : P s) : P (biteLoop i fuel s) := by
  induction fuel generalizing s with
  | zero => exact h
  | succ fuel ih =>
    unfold biteLoop
    repeat' split
    · exact h
    · exact h
    · exact ih _ (K.bitten i _ s h)
    · exact h

theorem biteStep (K : StripRuns P) (i : Stand) (s : State) (h : P s) : P (biteStep i s) := by
  have hloop := K.bites i s.track.queue.length s h
  unfold Machine.biteStep cobbleCheck
  repeat' split
  · exact hloop
  · exact K.trip _ _ _ (K.strip _ _ rfl Iff.rfl hloop)
  · exact hloop

theorem confirmHead (K : StripRuns P) (i : Stand) (force : Nat) (s : State) (h : P s) :
    P (confirmHead i force s) := by
  unfold Machine.confirmHead
  repeat' split
  · exact h
  · exact K.bitten i _ s h
  · exact h
  · exact h

theorem approachStep (K : StripRuns P) (i : Stand) (s : State) (h : P s) : P (approachStep i s) :=
  UnitsKeep.pass _ (fun u y hu => K.approach i y u hu) _ s h

theorem passageStep (K : StripRuns P) (i : Stand) (before : Nat) (s : State) (h : P s) :
    P (passageStep i before s) := by
  refine UnitsKeep.pass _ (fun u y hu => ?_) _ s h
  split
  · exact K.finalised i _ u hu
  · exact hu

theorem closed (K : StripRuns P) (f : FormingCell) (n : Nat) (new : FormingCell) (s : State) (h : P s) :
    P (closeForming f n new s) := by
  unfold closeForming
  exact K.strip _ s rfl Iff.rfl h

theorem closeStep (K : StripRuns P) (s : State) (h : P s) : P (closeStep s) := by
  unfold Machine.closeStep
  dsimp only
  repeat' split
  · exact h
  · exact h
  · exact K.closed _ _ _ s h
  · exact K.strip _ s rfl Iff.rfl h
  · exact K.raised _ _ _ _ _ (K.strip _ _ rfl Iff.rfl (K.strip _ s rfl Iff.rfl h))

theorem offered (K : StripRuns P) (s : State) (h : P s) : P (offerRecord s) := by
  have after : ∀ u, P u → P (afterClosure u) := fun u hu => K.approachStep 0 _ (K.biteStep 0 u hu)
  unfold offerRecord
  repeat' split
  · exact h
  · exact after _ (K.closed _ _ _ s h)
  · exact after _ (K.closed _ _ _ s h)
  · exact h

theorem retired (K : StripRuns P) (z : Zone) (fuel : Nat) (s : State) (h : P s) : P (retireLoop z fuel s) := by
  induction fuel generalizing s with
  | zero => exact h
  | succ fuel ih =>
    unfold retireLoop
    repeat' split
    · exact ih _ (K.offered _ (K.strip _ s rfl Iff.rfl h))
    · exact h
    · exact h

theorem steps (K : StripRuns P) (z : Zone) (before : Nat) (s : State) (h : P s) :
    P (advanceSteps z before s) := by
  have close : P (closeAt z s) := by
    unfold closeAt
    split
    · exact K.closeStep s h
    · exact h
  have bite : P (bitesAt z (closeAt z s)) := by
    unfold bitesAt
    repeat' split
    · exact K.biteStep _ _ close
    · exact close
    · exact close
  have passage : P (passagesAt z before (bitesAt z (closeAt z s))) := by
    unfold passagesAt
    dsimp only
    repeat' split
    · exact bite
    · exact K.passageStep _ before _ bite
    · exact bite
  have near : P (approachAt z (passagesAt z before (bitesAt z (closeAt z s)))) := by
    unfold approachAt
    repeat' split
    · exact K.approachStep _ _ passage
    · exact passage
    · exact passage
  rw [advanceSteps_eq]
  unfold retireAt
  split
  · exact K.retired z _ _ near
  · exact near

/-! ### The standardisation's share, and a weld -/

theorem tests (K : StripRuns P) (p : Gauge) (s : State) (h : P s) : P (gaugeTests p s) := by
  unfold gaugeTests
  dsimp only
  repeat' split
  · exact h
  · exact K.gauge p _ s h
  · exact K.gauge p _ s h
  · exact h

theorem testsAfter (K : StripRuns P) (z : Zone) (s : State) (h : P s) : P (testsAfter z s) := by
  unfold Machine.testsAfter
  dsimp only
  split
  · exact K.tests _ _ (K.tests z s h)
  · exact K.tests z s h

theorem grown (K : StripRuns P) (p : Gauge) (n : Nat) (s : State) (h : P s) : P (growLength p n s) := by
  unfold growLength
  dsimp only
  repeat' split
  · exact h
  · exact K.gauge p _ s h
  · exact K.raised _ _ _ _ _ (K.gauge p _ _ (K.gauge p _ _ (K.gauge p _ s h)))
  · exact K.gauge p _ _ (K.gauge p _ s h)
  · exact K.raised _ _ _ _ _ (K.gauge p _ _ (K.gauge p _ s h))
  · exact K.gauge p _ s h

theorem weldTaken (K : StripRuns P) (s : State) (h : P s) : P (takeWeld s) := by
  have coil : ∀ kept u, P u → P (allGaugeTests (takeCoil kept u)) := fun kept u hu => by
    refine UnitsKeep.pass _ (fun v p hv => K.tests p v hv) _ _ ?_
    unfold takeCoil
    split
    · exact K.raised _ _ _ _ _ (K.store _ u hu)
    · exact K.raised _ _ _ _ _ (K.raised _ _ _ _ u hu)
  unfold takeWeld
  dsimp only
  repeat' split
  · exact h
  · exact h
  · exact K.raised _ _ _ _ s h
  · exact coil _ _ (K.strip _ s rfl Iff.rfl h)
  · exact coil _ _ (K.closed _ _ _ s h)
  · exact coil _ _ (K.strip _ s rfl Iff.rfl h)

end StripRuns

end Sys2Proof.Machine
end


section
/-! SUPPORT. The reported positions, which only a report writes (R106). -/

namespace Sys2Proof.Machine

/-- No stand's reported position changes. -/
def SamePositions (s t : State) : Prop := ∀ j : Stand, t.actuators[j].reported = s.actuators[j].reported

namespace SamePositions

theorem refl (s : State) : SamePositions s s := fun _ => rfl

theorem of_actuators {s t : State} (h : t.actuators = s.actuators) : SamePositions s t := fun j => by rw [h]

theorem trans {s t u : State} (h : SamePositions s t) (k : SamePositions t u) : SamePositions s u :=
  fun j => (k j).trans (h j)

theorem onActuator (i : Stand) (f : Actuator → Actuator) (s : State)
    (hf : ∀ a, (f a).reported = a.reported) : SamePositions s (s.onActuator i f) := by
  intro j
  rw [State.onActuator_actuators]
  by_cases hj : j = i
  · subst hj
    rw [upd_same, hf]
  · rw [upd_other _ _ _ _ hj]

section
variable (i : Stand) (s : State)

theorem travel : SamePositions s (applyTravel i s) := by
  unfold applyTravel
  dsimp only
  repeat' split
  · exact refl s
  · exact onActuator i _ s fun _ => rfl
  · exact refl s
  · exact onActuator i _ s fun _ => rfl
  · exact refl s
  · exact refl s

theorem drop : SamePositions s (dropWork i s) := onActuator i _ s fun _ => rfl

theorem hold : SamePositions s (applyHold i s) := by
  unfold applyHold
  dsimp only
  repeat' split
  · exact refl s
  · exact drop i s
  · exact refl s
  · exact onActuator i _ s fun _ => rfl
  · exact onActuator i _ s fun _ => rfl
  · exact ((drop i s).trans (onActuator i (fun a => { a with state := .travel }) _ fun _ => rfl)).trans (travel i _)

theorem demand (d : Option Int) : SamePositions s (newDemand i d s) := by
  have htook : SamePositions s (s.onActuator i fun a => { a with t := d }) := onActuator i _ s fun _ => rfl
  unfold newDemand
  dsimp only
  split <;> try exact htook
  all_goals split
  · exact htook
  · exact htook.trans (travel i _)
  · exact htook
  · exact htook.trans (hold i _)

theorem settled : SamePositions s (settleExpire i s) := by
  have hbase := onActuator i (fun a => { a with state := .hold, c := a.p, settleT := none }) s fun _ => rfl
  unfold settleExpire
  dsimp only
  split
  · exact hbase
  · exact hbase.trans (hold i _)

theorem step (pos : Int) : SamePositions s (completeStep i pos s) := by
  have hbase := onActuator i (fun a => { a with p := pos, work := none, moveT := none }) s fun _ => rfl
  unfold completeStep
  dsimp only
  repeat' split
  · exact (hbase.trans (onActuator i (fun a => { a with
      state := .settle, settleT := some ⟨s.now, s.stands[i].settle⟩ }) _ fun _ => rfl)).trans (settled i _)
  · exact hbase.trans (onActuator i _ _ fun _ => rfl)
  · exact hbase.trans (travel i _)

theorem raised (c : EventCode) (sub : Subject) (n : Option Nat) (v : Int) (f : Actuator → Actuator)
    (hf : ∀ a, (f a).reported = a.reported) : SamePositions s (raise c sub n v (s.onActuator i f)) :=
  (onActuator i f s hf).trans (of_actuators (by simp))

theorem released : SamePositions s (takeLocal i s) := by
  unfold takeLocal
  dsimp only
  split
  · exact raised i s _ _ _ _ _ fun _ => rfl
  · exact refl s

theorem opened (echo : Byte) : SamePositions s (takeOpen i echo s) := by
  unfold takeOpen
  dsimp only
  repeat' split
  · exact raised i s _ _ _ _ _ fun _ => rfl
  · exact refl s
  · exact refl s
  · exact raised i s _ _ _ _ _ fun _ => rfl
  · exact refl s

theorem inPosition (echo : Byte) : SamePositions s (takeInPosition i echo s) := by
  unfold takeInPosition acceptTrim
  dsimp only
  repeat' split
  · exact refl s
  · exact step i s _
  · refine .trans ?_ (hold i _)
    exact onActuator i _ s fun _ => rfl
  · exact refl s
  · exact refl s

theorem flags (r : StandReport) : SamePositions s (takeFlags i r s) := by
  unfold takeFlags
  dsimp only
  have hlocal : SamePositions s (if reportLocal r then takeLocal i s else s) := by
    split
    · exact released i s
    · exact refl s
  generalize (if reportLocal r then takeLocal i s else s) = u at hlocal ⊢
  have hopen : SamePositions u (if reportOpen r then takeOpen i r.echo u else u) := by
    split
    · exact opened i u _
    · exact refl u
  generalize (if reportOpen r then takeOpen i r.echo u else u) = v at hopen ⊢
  refine (hlocal.trans hopen).trans ?_
  split
  · exact inPosition i v _
  · exact refl v

/-- A report writes its stand's position alone (R106). -/
theorem report (r : StandReport) (j : Stand) : (takeReport i r s).actuators[j].reported =
    if j = i then some r.position.toInt else s.actuators[j].reported := by
  rw [takeReport_eq, flags i (reportedBase i r s) r j]
  by_cases hj : j = i
  · subst hj
    rw [reportedBase_at, if_pos rfl]
  · rw [if_neg hj, reportedBase, State.onActuator_actuators, upd_other _ _ _ _ hj]
end

theorem trip (k : TripSource) (d : Nat) (s : State) : SamePositions s (raiseTrip k d s) := by
  intro j
  rw [raiseTrip_actuators]
  split <;> rfl

end SamePositions

end Sys2Proof.Machine
end

section
/-! SUPPORT. The drive states, which only a report writes (R137). -/

namespace Sys2Proof.Machine

/-- A trip leaves the drive states (R131 to R133). -/
theorem raiseTrip_drives (k : TripSource) (d : Nat) (s : State) :
    (raiseTrip k d s).trips.drive = s.trips.drive ∧
      (raiseTrip k d s).trips.driveEntry = s.trips.driveEntry := by
  have hstart : ∀ u : State, (startConfirm u).trips.drive = u.trips.drive ∧
      (startConfirm u).trips.driveEntry = u.trips.driveEntry := fun u => by
    obtain ⟨hd, he, -⟩ := confirmTest_kept (u.onTrips fun t =>
      { t with confirm := .waiting, confirmT := some ⟨u.now, u.mill.stopConfirm⟩ })
    exact ⟨hd, he⟩
  have hwant : ∀ l (u : State), (wantStop l u).trips.drive = u.trips.drive ∧
      (wantStop l u).trips.driveEntry = u.trips.driveEntry := fun _ _ => ⟨rfl, rfl⟩
  unfold raiseTrip
  dsimp only
  split
  · exact ⟨rfl, rfl⟩
  · unfold latch latchActions
    dsimp only
    generalize hu : s.onTrips _ = u
    have hkept : u.trips.drive = s.trips.drive ∧ u.trips.driveEntry = s.trips.driveEntry := by
      rw [← hu]
      exact ⟨rfl, rfl⟩
    split
    · split
      · simpa [hstart, hwant] using hkept
      · simpa [hwant] using hkept
    · simpa [hwant] using hkept

theorem tensionReading_drives (z : Fin 5) (n : Nat) (s : State) :
    (tensionReading z n s).trips.drive = s.trips.drive ∧
      (tensionReading z n s).trips.driveEntry = s.trips.driveEntry := by
  unfold tensionReading
  dsimp only
  generalize (if (tensioned s z && decide (n < breakTension s z)) = true then satAdd 255 s.trips.low[z] 1 else 0) = count
  split
  · exact raiseTrip_drives _ _ _
  · exact ⟨rfl, rfl⟩

/-- A stand report writes its stand's drive state alone (R137, R171). -/
theorem protectStand_drives (i : Stand) (r : StandReport) (s : State) :
    (protectStand i r s).trips.drive = upd s.trips.drive i (fun _ => driveOf r.drive) ∧
      (protectStand i r s).trips.driveEntry = s.trips.driveEntry := by
  unfold protectStand
  dsimp only
  split
  · rename_i h
    obtain ⟨hd, he, -⟩ := confirmTest_kept (tensionReading ⟨standNumber i, h.2⟩ r.tension.toNat
      (s.onTrips fun t => { t with drive := upd t.drive i fun _ => driveOf r.drive }))
    obtain ⟨htd, hte⟩ := tensionReading_drives ⟨standNumber i, h.2⟩ r.tension.toNat
      (s.onTrips fun t => { t with drive := upd t.drive i fun _ => driveOf r.drive })
    exact ⟨hd.trans htd, he.trans hte⟩
  · obtain ⟨hd, he, -⟩ := confirmTest_kept
      (s.onTrips fun t => { t with drive := upd t.drive i fun _ => driveOf r.drive })
    exact ⟨hd, he⟩

/-- An entry report writes the entry drive state alone (R137, R172). -/
theorem protectEntry_drives (r : EntryReport) (s : State) :
    (protectEntry r s).trips.driveEntry = driveOf r.drive ∧
      (protectEntry r s).trips.drive = s.trips.drive := by
  obtain ⟨hd, he, -⟩ := confirmTest_kept (tensionReading 0 r.tension.toNat
    (s.onTrips fun t => { t with driveEntry := driveOf r.drive }))
  obtain ⟨htd, hte⟩ := tensionReading_drives 0 r.tension.toNat
    (s.onTrips fun t => { t with driveEntry := driveOf r.drive })
  exact ⟨he.trans hte, hd.trans htd⟩

end Sys2Proof.Machine
end

section
/-! SUPPORT. What an advance, a confirmation and a weld leave of the readings (R18, R20). -/

namespace Sys2Proof.Machine

/-- The odometers, the drive states and the reported positions are as they were, and a run goes on. -/
structure SameReadings (s t : State) : Prop where
  odo : t.track.odo = s.track.odo
  stopped : t.track.mode = .stopped ↔ s.track.mode = .stopped
  drive : t.trips.drive = s.trips.drive
  driveEntry : t.trips.driveEntry = s.trips.driveEntry
  positions : SamePositions s t

theorem sameReadings_refl (s : State) : SameReadings s s := ⟨rfl, Iff.rfl, rfl, rfl, .refl s⟩

theorem sameReadings_runs (s : State) : StripRuns (SameReadings s) where
  strip _ _ ho hm h := ⟨ho.trans h.odo, hm.trans h.stopped, h.drive, h.driveEntry, h.positions⟩
  store _ _ h := ⟨h.odo, h.stopped, h.drive, h.driveEntry, h.positions⟩
  terms _ _ _ h := ⟨h.odo, h.stopped, h.drive, h.driveEntry, h.positions⟩
  target i d u h := ⟨by simp [h.odo], by simp [h.stopped], by simp [h.drive], by simp [h.driveEntry],
    h.positions.trans (.demand i u d)⟩
  gauge _ _ _ h := ⟨h.odo, h.stopped, h.drive, h.driveEntry, h.positions⟩
  raised _ _ _ _ u h := ⟨by simp [h.odo], by simp [h.stopped], by simp [h.drive], by simp [h.driveEntry],
    h.positions.trans (.of_actuators (by simp))⟩
  trip k d u h := by
    obtain ⟨hd, he⟩ := raiseTrip_drives k d u
    exact ⟨by simp [h.odo], by simp [h.stopped], hd.trans h.drive, he.trans h.driveEntry,
      h.positions.trans (.trip k d u)⟩

/-- An advance grows its own odometer, saturating, and nothing while STOPPED (R18). -/
theorem advance_odo (z : Zone) (n : Nat) (s : State) : (advance z n s).track.odo =
    if s.track.mode = .stopped then s.track.odo
    else upd s.track.odo z fun _ => min (2 ^ 48 - 1) (s.track.odo[z] + n) := by
  unfold advance
  split
  · rfl
  · have hsteps := (sameReadings_runs _).steps z s.track.odo[z] _ (sameReadings_refl (s.onTrack fun t => { t with
      odo := upd t.odo z fun _ => satAdd odoMax s.track.odo[z] n }))
    have hall := (sameReadings_runs _).testsAfter z _ ((sameReadings_runs _).grown z
      (satAdd odoMax s.track.odo[z] n - s.track.odo[z]) _ hsteps)
    exact hall.odo

/-- An advance leaves the drive states and the reported positions. -/
theorem advance_readings (z : Zone) (n : Nat) (s : State) :
    (advance z n s).trips.drive = s.trips.drive ∧ (advance z n s).trips.driveEntry = s.trips.driveEntry ∧
      SamePositions s (advance z n s) := by
  unfold advance
  split
  · exact ⟨rfl, rfl, .refl s⟩
  · have hsteps := (sameReadings_runs _).steps z s.track.odo[z] _ (sameReadings_refl (s.onTrack fun t => { t with
      odo := upd t.odo z fun _ => satAdd odoMax s.track.odo[z] n }))
    have hall := (sameReadings_runs _).testsAfter z _ ((sameReadings_runs _).grown z
      (satAdd odoMax s.track.odo[z] n - s.track.odo[z]) _ hsteps)
    exact ⟨hall.drive, hall.driveEntry, hall.positions⟩

end Sys2Proof.Machine
end


section
/-! SUPPORT. A report's frame passes its checks and is delivered as the report it spells (R169 to R172, R211). -/

namespace Sys2Proof.Machine

theorem standReportOf_payload (r : StandReport) : standReportOf r.echo
    (be 4 r.increment.toNat ++ be 2 r.force.toNat ++ be 2 r.tension.toNat ++ be 4 r.position.toNat ++
      [r.flags, r.drive]) = r := by
  have word : ∀ v : BitVec 32, BitVec.ofNat 32 (v.toNat % 256 ^ 4) = v := fun v => ofNat_toNat_mod 32 _ v rfl
  have half : ∀ v : BitVec 16, BitVec.ofNat 16 (v.toNat % 256 ^ 2) = v := fun v => ofNat_toNat_mod 16 _ v rfl
  simp [standReportOf, u8, u16, u32, field_past_be, field_past_cons, field_here, field_here_cons, -Nat.reducePow,
    word, half]

theorem entryReportOf_payload (r : EntryReport) : entryReportOf
    (be 4 r.increment.toNat ++ be 2 r.tension.toNat ++ [r.flags, r.drive]) = r := by
  have word : ∀ v : BitVec 32, BitVec.ofNat 32 (v.toNat % 256 ^ 4) = v := fun v => ofNat_toNat_mod 32 _ v rfl
  have half : ∀ v : BitVec 16, BitVec.ofNat 16 (v.toNat % 256 ^ 2) = v := fun v => ofNat_toNat_mod 16 _ v rfl
  simp [entryReportOf, u8, u16, u32, field_past_be, field_past_cons, field_here, field_here_cons, -Nat.reducePow,
    word, half]

theorem gaugeSampleOf_payload (r : GaugeSample) : gaugeSampleOf ([r.status] ++ be 2 r.thickness.toNat) = r := by
  have half : ∀ v : BitVec 16, BitVec.ofNat 16 (v.toNat % 256 ^ 2) = v := fun v => ofNat_toNat_mod 16 _ v rfl
  simp [gaugeSampleOf, u8, u16, field_past_cons, field_here_cons, field_last, -Nat.reducePow, half]

section
variable (s : State) (a : Node) (h : Receiving s a)

theorem nodeOf_address (a : Node) : nodeOf (BitVec.ofNat 4 a.val) = some a := by
  have hlt := a.isLt
  have hval : (BitVec.ofNat 4 a.val).toNat = a.val := by
    rw [BitVec.toNat_ofNat]
    omega
  simp only [nodeOf, hval]
  exact dif_pos hlt

/-- A well-formed frame of a known sender is judged by its role (R169). -/
theorem judgeFrame_good (k c : Byte) (p : List Byte) : judgeFrame s (BitVec.ofNat 4 a.val) (goodFrame k c p) =
    match s.nodes[a].role with
    | .stand i => if k = 0x61 ∧ p.length = 14 then .standReport a i (standReportOf c p) else .reject
    | .entry => if k = 0x62 ∧ p.length = 8 then .entryReport a (entryReportOf p) else .reject
    | .gauge q => if k = 0x63 ∧ p.length = 3 then .gaugeSample a q (gaugeSampleOf p) else .reject
    | .none => .reject := by
  unfold judgeFrame
  rw [nodeOf_address, if_neg (by simp [goodFrame]), if_neg (by simp [goodFrame, nodeFrameBody])]
  rfl

include h

theorem receiveFrame_stand (i : Stand) (r : StandReport) (hr : s.nodes[a].role = .stand i) :
    receiveFrame (standReportFrame r) s = takeReport i r (protectStand i r (advance i.succ r.increment.toNat
      (confirmHead i r.force.toNat ((entered a s).onNode a fun n =>
        { n with remote := !r.flags.getLsbD 2, echo := r.echo })))) := by
  have hj : judgeFrame s (BitVec.ofNat 4 a.val) (standReportFrame r) = .standReport a i r := by
    rw [standReportFrame, judgeFrame_good, hr]
    refine (if_pos ⟨rfl, by simp⟩).trans ?_
    rw [standReportOf_payload]
  unfold receiveFrame
  rw [h.held, h.sender]
  simp only [hj]
  rfl

theorem receiveFrame_entry (r : EntryReport) (hr : s.nodes[a].role = .entry) :
    receiveFrame (entryReportFrame r) s = protectEntry r (let u := advance 0 r.increment.toNat (entered a s)
      if r.flags.getLsbD 0 then takeWeld u else u) := by
  have hj : judgeFrame s (BitVec.ofNat 4 a.val) (entryReportFrame r) = .entryReport a r := by
    rw [entryReportFrame, judgeFrame_good, hr]
    refine (if_pos ⟨rfl, by simp⟩).trans ?_
    rw [entryReportOf_payload]
  unfold receiveFrame
  rw [h.held, h.sender]
  simp only [hj]
  rfl

theorem receiveFrame_sample (p : Gauge) (r : GaugeSample) (hr : s.nodes[a].role = .gauge p) :
    receiveFrame (gaugeSampleFrame r) s = takeSample p r (entered a s) := by
  have hj : judgeFrame s (BitVec.ofNat 4 a.val) (gaugeSampleFrame r) = .gaugeSample a p r := by
    rw [gaugeSampleFrame, judgeFrame_good, hr]
    refine (if_pos ⟨rfl, by simp⟩).trans ?_
    rw [gaugeSampleOf_payload]
  unfold receiveFrame
  rw [h.held, h.sender]
  simp only [hj]
  rfl
end

end Sys2Proof.Machine
end

section
/-! SUPPORT. What an accepted frame leaves of the state behind its node's entry (R157). -/

namespace Sys2Proof.Machine

section
variable (a : Node) (s : State)

theorem entered_frame : (entered a s).power = s.power ∧ (entered a s).now = s.now ∧
    (entered a s).mill = s.mill ∧ (entered a s).stands = s.stands ∧ (entered a s).track = s.track ∧
    (entered a s).gauges = s.gauges ∧ (entered a s).store = s.store ∧ (entered a s).demands = s.demands ∧
    (entered a s).actuators = s.actuators ∧ (entered a s).trips = s.trips ∧
    (entered a s).link = (judged (some .accept) s).link := by
  unfold entered
  split <;> simp [heard, judged]

theorem entered_nodes : (entered a s).nodes = s.nodes.set a.val
    { s.nodes[a] with state := .present, lastFrame := s.now, failures := 0 } := by
  unfold entered
  split
  · rfl
  · simp only [raise_frame]
    rfl
end

/-! ### The gauge a sample is of -/

/-- Gauge `p` keeps its state, and every other gauge its record. -/
structure SameModes (p : Gauge) (s t : State) : Prop where
  others : ∀ q : Gauge, q ≠ p → t.gauges[q] = s.gauges[q]
  mode : t.gauges[p].mode = s.gauges[p].mode

namespace SameModes

section
variable (p : Gauge) (s : State)

theorem of_gauges {t : State} (h : t.gauges = s.gauges) : SameModes p s t :=
  ⟨fun q _ => by rw [h], by rw [h]⟩

theorem trans {t u : State} (h : SameModes p s t) (k : SameModes p t u) : SameModes p s u :=
  ⟨fun q hq => (k.others q hq).trans (h.others q hq), k.mode.trans h.mode⟩

theorem onGauge (f : GaugeRecord → GaugeRecord) (hf : ∀ r, (f r).mode = r.mode) :
    SameModes p s (s.onGauge p f) := by
  refine ⟨fun q hq => ?_, ?_⟩
  · rw [State.onGauge_gauges, upd_other _ _ _ _ hq]
  · rw [State.onGauge_gauges, upd_same, hf]

theorem tests : SameModes p s (gaugeTests p s) := by
  unfold gaugeTests
  dsimp only
  repeat' split
  · exact of_gauges p s rfl
  · exact onGauge p s _ fun _ => rfl
  · exact onGauge p s _ fun _ => rfl
  · exact of_gauges p s rfl

theorem discarded : SameModes p s (discardSample p s) := onGauge p s _ fun _ => rfl

theorem raised (c : EventCode) (sub : Subject) (n : Option Nat) (v : Int) : SameModes p s (raise c sub n v s) :=
  of_gauges p s (by simp)

theorem completed : SameModes p s (completeStd p s) := by
  unfold completeStd
  refine .trans p s ?_ (raised p _ _ _ _ _)
  exact onGauge p s _ fun _ => rfl
end

theorem attributedAfter (i : Stand) (v : Nat) (s : State) :
    SameModes (zoneAfter i) s (attributeAfter i v s) ∧ (attributeAfter i v s).track.odo = s.track.odo := by
  unfold attributeAfter
  dsimp only
  repeat' split
  · exact ⟨discarded _ s, rfl⟩
  · exact ⟨discarded _ s, rfl⟩
  · exact ⟨of_gauges _ s rfl, rfl⟩
  · exact ⟨discarded _ s, rfl⟩

theorem attributed (p : Gauge) (v : Nat) (s : State) : SameModes p s (attributeSample p v s) ∧
    (attributeSample p v s).track.odo = s.track.odo := by
  unfold attributeSample
  split
  · rename_i h0
    obtain rfl : p = 0 := Fin.ext h0
    unfold attributeEntry
    repeat' split
    · exact ⟨discarded 0 s, rfl⟩
    · exact ⟨of_gauges 0 s rfl, rfl⟩
    · exact ⟨discarded 0 s, rfl⟩
    · exact ⟨of_gauges 0 s rfl, rfl⟩
    · exact ⟨discarded 0 s, rfl⟩
  · rename_i j hj
    have hp : p = zoneAfter ⟨j, by omega⟩ := Fin.ext hj
    have hafter := attributedAfter ⟨j, by omega⟩ v s
    rw [← hp] at hafter
    exact hafter

end SameModes

theorem setGaugeMode_modes (p : Gauge) (m : GaugeMode) (s : State) :
    (setGaugeMode p m s).gauges[p].mode = m ∧ ∀ q : Gauge, q ≠ p → (setGaugeMode p m s).gauges[q] = s.gauges[q] := by
  have hbase : ∀ f : GaugeRecord → GaugeRecord, (∀ r, (f r).mode = m) → (s.onGauge p f).gauges[p].mode = m ∧
      ∀ q : Gauge, q ≠ p → (s.onGauge p f).gauges[q] = s.gauges[q] := fun f hf => by
    refine ⟨?_, fun q hq => ?_⟩
    · rw [State.onGauge_gauges, upd_same, hf]
    · rw [State.onGauge_gauges, upd_other _ _ _ _ hq]
  unfold setGaugeMode
  dsimp only
  generalize hu : s.onGauge p _ = u
  obtain ⟨hm, ho⟩ : u.gauges[p].mode = m ∧ ∀ q : Gauge, q ≠ p → u.gauges[q] = s.gauges[q] := by
    rw [← hu]
    exact hbase _ fun _ => rfl
  have hlater : ∀ t, SameModes p u t → t.gauges[p].mode = m ∧ ∀ q : Gauge, q ≠ p → t.gauges[q] = s.gauges[q] :=
    fun t h => ⟨h.mode.trans hm, fun q hq => (h.others q hq).trans (ho q hq)⟩
  refine hlater _ ?_
  repeat' split
  · exact .trans p _ (.raised p _ _ _ _ _) (.completed p _)
  · exact .completed p _
  · exact .raised p _ _ _ _ _
  · exact .of_gauges p _ rfl

/-- What a sample leaves of the gauges and of the odometers (R46, R47). -/
theorem takeSample_modes (p : Gauge) (r : GaugeSample) (s : State) :
    (takeSample p r s).gauges[p].mode = sampleMode r.status ∧
    (∀ q : Gauge, q ≠ p → (takeSample p r s).gauges[q] = s.gauges[q]) ∧
    (takeSample p r s).track.odo = s.track.odo := by
  obtain ⟨hm, ho⟩ := setGaugeMode_modes p (sampleMode r.status) s
  have hodo : (setGaugeMode p (sampleMode r.status) s).track.odo = s.track.odo := by simp
  unfold takeSample
  dsimp only
  generalize setGaugeMode p (sampleMode r.status) s = u at *
  have hlater : ∀ v, SameModes p u v ∧ v.track.odo = u.track.odo → (gaugeTests p v).gauges[p].mode = sampleMode r.status ∧
      (∀ q : Gauge, q ≠ p → (gaugeTests p v).gauges[q] = s.gauges[q]) ∧ (gaugeTests p v).track.odo = s.track.odo := by
    rintro v ⟨hv, hvodo⟩
    have hall := SameModes.trans p u hv (.tests p v)
    exact ⟨hall.mode.trans hm, fun q hq => (hall.others q hq).trans (ho q hq), by simp [hvodo, hodo]⟩
  split
  · exact hlater _ (SameModes.attributed p r.thickness.toNat u)
  · exact hlater _ ⟨.of_gauges p u rfl, rfl⟩

end Sys2Proof.Machine
end

section
/-! SUPPORT. What a report's way through the Tracking Unit leaves of the readings (R20, R171, R172). -/

namespace Sys2Proof.Machine

/-- A stand report advances its own odometer alone (R18, R20). -/
theorem trackedStand_readings (i : Stand) (force n : Nat) (s : State) :
    let t := advance i.succ n (confirmHead i force s)
    t.track.odo = (if s.track.mode = .stopped then s.track.odo
      else s.track.odo.set i.succ.val (min (2 ^ 48 - 1) (s.track.odo[i.succ] + n))) ∧
    t.trips.drive = s.trips.drive ∧ t.trips.driveEntry = s.trips.driveEntry ∧ SamePositions s t := by
  intro t
  have hc := (sameReadings_runs s).confirmHead i force s (sameReadings_refl s)
  obtain ⟨hd, he, hp⟩ := advance_readings i.succ n (confirmHead i force s)
  refine ⟨?_, hd.trans hc.drive, he.trans hc.driveEntry, hc.positions.trans hp⟩
  rw [advance_odo, hc.odo]
  exact if_congr hc.stopped rfl rfl

/-- An entry report advances zone 0's odometer alone (R18, R20). -/
theorem trackedEntry_readings (weld : Bool) (n : Nat) (s : State) :
    let t := if weld then takeWeld (advance 0 n s) else advance 0 n s
    t.track.odo = (if s.track.mode = .stopped then s.track.odo
      else s.track.odo.set 0 (min (2 ^ 48 - 1) (s.track.odo[(0 : Fin 6)] + n))) ∧
    t.trips.drive = s.trips.drive ∧ t.trips.driveEntry = s.trips.driveEntry ∧ SamePositions s t := by
  intro t
  obtain ⟨hd, he, hp⟩ := advance_readings 0 n s
  have hsame : SameReadings (advance 0 n s) t := by
    cases weld with
    | false => exact sameReadings_refl _
    | true => exact (sameReadings_runs _).weldTaken _ (sameReadings_refl _)
  exact ⟨hsame.odo.trans (advance_odo 0 n s), hsame.drive.trans hd, hsame.driveEntry.trans he,
    hp.trans hsame.positions⟩

end Sys2Proof.Machine
end

section
/-! SUPPORT. What the reports leave beside the readings. -/

namespace Sys2Proof.Machine

theorem trackedEntry_frame (weld : Bool) (n : Nat) (s : State) :
    let t := if weld then takeWeld (advance 0 n s) else advance 0 n s
    t.now = s.now ∧ t.mill = s.mill ∧ t.stands = s.stands ∧ t.nodes = s.nodes ∧ t.link = s.link := by
  cases weld <;> simp

theorem onTrips_positions (f : Trips → Trips) (s : State) : SamePositions s (s.onTrips f) := fun _ => rfl

theorem tensionReading_positions (z : Fin 5) (n : Nat) (s : State) : SamePositions s (tensionReading z n s) := by
  unfold tensionReading
  dsimp only
  generalize (if (tensioned s z && decide (n < breakTension s z)) = true then satAdd 255 s.trips.low[z] 1 else 0) = count
  split
  · refine .trans ?_ (.trip _ _ _)
    exact onTrips_positions _ s
  · exact onTrips_positions _ s

theorem confirmTest_positions (s : State) : SamePositions s (confirmTest s) :=
  .of_actuators (confirmTest_actuators s)

theorem protectStand_positions (i : Stand) (r : StandReport) (s : State) :
    SamePositions s (protectStand i r s) := by
  unfold protectStand
  dsimp only
  refine .trans ?_ (confirmTest_positions _)
  split
  · refine .trans ?_ (tensionReading_positions _ _ _)
    exact onTrips_positions _ s
  · exact onTrips_positions _ s

theorem protectEntry_positions (r : EntryReport) (s : State) : SamePositions s (protectEntry r s) := by
  unfold protectEntry
  refine .trans (.trans ?_ (tensionReading_positions _ _ _)) (confirmTest_positions _)
  exact onTrips_positions _ s

/-- The entry of the node a stand report came from (R157, R171). -/
theorem enteredStand_nodes (a : Node) (i : Stand) (r : StandReport) (s : State) (hr : s.nodes[a].role = .stand i) :
    ((entered a s).onNode a fun n => { n with remote := !r.flags.getLsbD 2, echo := r.echo }).nodes =
      s.nodes.set a.val { role := .stand i, state := .present, remote := !r.flags.getLsbD 2, lastFrame := s.now,
                          failures := 0, echo := r.echo } := by
  have hall : ((entered a s).onNode a fun n => { n with remote := !r.flags.getLsbD 2, echo := r.echo }).nodes =
      upd (upd s.nodes a fun n => { n with state := .present, lastFrame := s.now, failures := 0 }) a
        fun n => { n with remote := !r.flags.getLsbD 2, echo := r.echo } := by
    rw [State.onNode_nodes, entered_nodes]
    rfl
  rw [hall, upd_upd, upd]
  simp only [Function.comp_apply, hr]

end Sys2Proof.Machine
end

section
/-! The statement about the reports. -/

open Sys2Proof Sys2Proof.Machine

/-- Settles O33: each report's frame passes its checks, and the units keep what is not theirs. -/
theorem reportsReachTheirUnits : Obligations.ReportsReachTheirUnits := by
  unfold Obligations.ReportsReachTheirUnits
  intro s a h hnone hrec grown
  obtain ⟨-, hnow, hmill, hstands, htrack, hgauges, hstore, hdemands, hact, htrips, hlink⟩ := entered_frame a s
  have hnodes := entered_nodes a s
  have hidle : (judged (some .accept) s).link.inFlight = none := hnone
  refine ⟨fun i r hr => ?_, fun r hr => ?_, fun p r hr => ?_⟩
  · obtain ⟨hodo, hdrive, hentry, hpos⟩ := trackedStand_readings i r.force.toNat r.increment.toNat
      ((entered a s).onNode a fun n => { n with remote := !r.flags.getLsbD 2, echo := r.echo })
    obtain ⟨u, hu⟩ : ∃ u, u = advance i.succ r.increment.toNat (confirmHead i r.force.toNat ((entered a s).onNode a
      fun n => { n with remote := !r.flags.getLsbD 2, echo := r.echo })) := ⟨_, rfl⟩
    rw [← hu] at hodo hdrive hentry hpos
    obtain ⟨hpdrive, hpentry⟩ := protectStand_drives i r u
    have hl : (takeReport i r (protectStand i r u)).link = (judged (some .accept) s).link := by simp [hu, hlink]
    have ht := receiveFrame_stand s a hrec i r hr
    rw [← hu] at ht ⊢
    refine ⟨_, line_settled (.nodeFrame (standReportFrame r)) s _ h.runs ht (settled_of_none _ (by rw [hl]; exact hidle)),
      rfl, by rw [hl]; rfl, by rw [hl]; rfl, by rw [hl]; exact hrec.held, ?_, ?_, ?_, ?_, fun j hj => ⟨?_, ?_⟩, ?_, ?_, ?_, ?_⟩
    · simp [hodo, htrack, grown]
    · simp [hpdrive, driveOf]
    · simp [hpentry, hentry, htrips]
    · rw [SamePositions.report, if_pos rfl]
    · rw [SamePositions.report, if_neg hj, protectStand_positions i r u j, hpos j, State.onNode_actuators, hact]
    · simp [hpdrive, hdrive, htrips, upd_other _ _ _ _ hj]
    · rw [← enteredStand_nodes a i r s hr]
      simp [hu]
    · simp [hu, hmill]
    · simp [hu, hstands]
    · simp [hu, hnow]
  · obtain ⟨hodo, hdrive, hentry, hpos⟩ := trackedEntry_readings (r.flags.getLsbD 0) r.increment.toNat (entered a s)
    have ht := receiveFrame_entry s a hrec r hr
    obtain ⟨hunow, humill, hustands, hunodes, hulink⟩ :=
      trackedEntry_frame (r.flags.getLsbD 0) r.increment.toNat (entered a s)
    dsimp only at ht ⊢
    generalize hu : (if r.flags.getLsbD 0 then takeWeld (advance 0 r.increment.toNat (entered a s))
      else advance 0 r.increment.toNat (entered a s)) = u at *
    obtain ⟨hpentry, hpdrive⟩ := protectEntry_drives r u
    have hl : (protectEntry r u).link = (judged (some .accept) s).link := by simp [hulink, hlink]
    refine ⟨_, line_settled (.nodeFrame (entryReportFrame r)) s _ h.runs ht (settled_of_none _ (by rw [hl]; exact hidle)),
      rfl, by rw [hl]; rfl, by rw [hl]; rfl, by rw [hl]; exact hrec.held, ?_, ?_, ?_, fun j => ?_, ?_, ?_, ?_, ?_⟩
    · simp [hodo, htrack, grown]
    · simp [hpentry, driveOf]
    · simp [hpdrive, hdrive, htrips]
    · rw [protectEntry_positions r u j, hpos j, hact]
    · simp [hunodes, hnodes]
    · simp [humill, hmill]
    · simp [hustands, hstands]
    · simp [hunow, hnow]
  · obtain ⟨t, ht⟩ : ∃ t, t = takeSample p r (entered a s) := ⟨_, rfl⟩
    have hl : t.link = (judged (some .accept) s).link := by simp [ht, hlink]
    obtain ⟨hm, ho, hodo⟩ := takeSample_modes p r (entered a s)
    rw [← ht] at hm ho hodo
    refine ⟨t, line_settled (.nodeFrame (gaugeSampleFrame r)) s t h.runs
      ((receiveFrame_sample s a hrec p r hr).trans ht.symm) (settled_of_none _ (by rw [hl]; exact hidle)), ht,
      by rw [hl]; rfl, by rw [hl]; rfl, by rw [hl]; exact hrec.held, hm, fun q hq => (ho q hq).trans (by rw [hgauges]),
      ?_, by rw [hodo, htrack], ?_, ?_, ?_, ?_⟩
    · simp [ht, hnodes]
    · simp [ht, hstore]
    · simp [ht, hdemands]
    · simp [ht, hact]
    · simp [ht, htrips]

end


section
/-! SUPPORT. A change of the cells of one serial, in a queue whose serials run (R26). -/

namespace Sys2Proof.Machine

section
variable {q : List Cell} {n : Nat} (h : Consecutive q n)
include h

/-- In a run of serials two places of one serial are one. -/
theorem Consecutive.injective {j k : Nat} {x y : Cell} (hx : q[j]? = some x) (hy : q[k]? = some y)
    (he : x.serial = y.serial) : j = k := by
  have hj := (List.getElem?_eq_some_iff.mp hx).1
  have hk := (List.getElem?_eq_some_iff.mp hy).1
  have h1 := h j x hx
  have h2 := h k y hy
  omega

/-- The other cells of a run have other serials. -/
theorem Consecutive.others {older newer : List Cell} {c : Cell} (hq : q = older ++ c :: newer) :
    (∀ x ∈ older, x.serial ≠ c.serial) ∧ ∀ x ∈ newer, x.serial ≠ c.serial := by
  subst hq
  have hc : (older ++ c :: newer)[older.length]? = some c := by simp
  constructor
  · intro x hx he
    obtain ⟨j, hj⟩ := List.mem_iff_getElem?.mp hx
    have hlt := (List.getElem?_eq_some_iff.mp hj).1
    have := h.injective (by rw [List.getElem?_append_left hlt]; exact hj) hc he
    omega
  · intro x hx he
    obtain ⟨j, hj⟩ := List.mem_iff_getElem?.mp hx
    have hx' : (older ++ c :: newer)[older.length + (j + 1)]? = some x := by
      rw [List.getElem?_append_right (Nat.le_add_right _ _), Nat.add_sub_cancel_left]
      exact hj
    have := h.injective hx' hc he
    omega

theorem Consecutive.map_serial {older newer : List Cell} {c : Cell} (hq : q = older ++ c :: newer) (f : Cell → Cell) :
    q.map (fun x => if x.serial = c.serial then f x else x) = older ++ f c :: newer := by
  obtain ⟨ho, hn⟩ := h.others hq
  have hfix : ∀ l : List Cell, (∀ x ∈ l, x.serial ≠ c.serial) →
      l.map (fun x => if x.serial = c.serial then f x else x) = l := fun l hl =>
    (List.map_congr_left fun x hx => if_neg (hl x hx)).trans (List.map_id' l)
  rw [hq, List.map_append, List.map_cons, if_pos rfl, hfix older ho, hfix newer hn]
end

/-- A cell in the place of one of its serial leaves the run (R26). -/
theorem Consecutive.replace {older newer : List Cell} {c d : Cell} {n : Nat}
    (h : Consecutive (older ++ c :: newer) n) (hd : d.serial = c.serial) :
    Consecutive (older ++ d :: newer) n := by
  rw [← h.map_serial rfl fun _ => d]
  refine h.map _ fun x => ?_
  by_cases hx : x.serial = c.serial
  · rw [if_pos hx, hd, hx]
  · rw [if_neg hx]

theorem onCell_run {s : State} (h : Consecutive s.track.queue s.track.nextSerial) {older newer : List Cell} {c : Cell}
    (hq : s.track.queue = older ++ c :: newer) (f : Cell → Cell) :
    onCell c.serial f s = s.onTrack fun t => { t with queue := older ++ f c :: newer } := by
  have hmap := h.map_serial hq f
  unfold onCell
  simp only [State.onTrack, hmap]

/-- A change of the cell of a serial changes that cell alone (R26, R28). -/
theorem onCell_at {s : State} (h : RunSound s) {older newer : List Cell} {c : Cell}
    (hq : s.track.queue = older ++ c :: newer) (f : Cell → Cell) :
    onCell c.serial f s = s.onTrack fun t => { t with queue := older ++ f c :: newer } :=
  onCell_run h.serials hq f

theorem modify_entry (l : List StandEntry) (i : Nat) (n : StandEntry) (f : StandEntry → StandEntry)
    (h : l[i]? = some n) : l.modify i f = l.set i (f n) := by
  rw [List.modify_eq_set_getElem?, h]
  rfl

end Sys2Proof.Machine
end

section
/-! SUPPORT. The owner of a sample (R47 to R50). -/

namespace Sys2Proof.Machine

/-- A cell that holds stamp i at a distance of which something holds (R29). -/
theorem holdsStamp_distance (s : State) (i : Stand) (c : Cell) (P : Nat → Prop) [DecidablePred P] :
    (holdsStamp c (zoneAfter i).val && decide (P (distanceIn s c (zoneAfter i)))) = true ↔
      ∃ n : StandEntry, c.entries[i.val]? = some n ∧ P (s.track.odo[i.succ] - n.stamp) := by
  have hdist : distanceIn s c (zoneAfter i) = match c.entries[i.val]?.map (·.stamp) with
      | some e => s.track.odo[i.succ] - e
      | none => 0 := rfl
  have hholds : holdsStamp c (zoneAfter i).val = decide (i.val + 1 ≤ c.entries.length) := rfl
  rw [Bool.and_eq_true, decide_eq_true_iff, hholds, decide_eq_true_iff, hdist]
  constructor
  · rintro ⟨hlt, hg⟩
    have hn := List.getElem?_eq_getElem hlt
    rw [hn] at hg
    exact ⟨_, hn, hg⟩
  · rintro ⟨n, hn, hg⟩
    rw [hn]
    exact ⟨(List.getElem?_eq_some_iff.mp hn).1, hg⟩

/-- The cell holds stamp i and lies the gauge's distance or more past it (R49). -/
def pastGauge (s : State) (i : Stand) (c : Cell) : Prop :=
  ∃ n : StandEntry, c.entries[i.val]? = some n ∧ s.gauges[i.succ].g ≤ s.track.odo[i.succ] - n.stamp

theorem pastGauge_iff (s : State) (i : Stand) (c : Cell) : pastGauge s i c ↔
    (holdsStamp c (zoneAfter i).val && decide (s.gauges[zoneAfter i].g ≤ distanceIn s c (zoneAfter i))) = true :=
  (holdsStamp_distance s i c fun d => s.gauges[zoneAfter i].g ≤ d).symm

theorem newestPast_none (s : State) (i : Stand) (h : ∀ c ∈ s.track.queue, ¬ pastGauge s i c) :
    newestPast s (zoneAfter i) s.gauges[zoneAfter i].g = none := by
  refine List.find?_eq_none.mpr fun c hc => ?_
  rw [← pastGauge_iff]
  exact h c (List.mem_reverse.mp hc)

theorem newestPast_some (s : State) (i : Stand) (older newer : List Cell) (c : Cell)
    (hq : s.track.queue = older ++ c :: newer) (hc : pastGauge s i c) (hn : ∀ y ∈ newer, ¬ pastGauge s i y) :
    newestPast s (zoneAfter i) s.gauges[zoneAfter i].g = some c := by
  unfold newestPast
  rw [hq, List.reverse_append, List.reverse_cons, List.append_assoc, List.find?_append]
  have hnone : newer.reverse.find? (fun c => holdsStamp c (zoneAfter i).val &&
      decide (s.gauges[zoneAfter i].g ≤ distanceIn s c (zoneAfter i))) = none :=
    List.find?_eq_none.mpr fun y hy => by
      rw [← pastGauge_iff]
      exact hn y (List.mem_reverse.mp hy)
  rw [hnone, List.singleton_append, List.find?_cons, (pastGauge_iff s i c).mp hc]
  rfl

section
variable (i : Stand) (v : Nat) (s : State)

theorem attributeAfter_none (h : ∀ c ∈ s.track.queue, ¬ pastGauge s i c) :
    attributeAfter i v s = discardSample (zoneAfter i) s := by
  unfold attributeAfter
  dsimp only
  rw [newestPast_none s i h]

theorem attributeAfter_some (hrun : RunSound s) (older newer : List Cell) (c : Cell) (n : StandEntry)
    (hq : s.track.queue = older ++ c :: newer) (hc : pastGauge s i c) (hn : ∀ y ∈ newer, ¬ pastGauge s i y)
    (he : c.entries[i.val]? = some n) : attributeAfter i v s =
      if n.count < 65535 then s.onTrack fun t => { t with queue := older ++
        { c with entries := c.entries.set i.val { n with sum := n.sum + v, count := n.count + 1 } } :: newer }
      else discardSample (zoneAfter i) s := by
  unfold attributeAfter
  dsimp only
  rw [newestPast_some s i older newer c hq hc hn]
  simp only [he]
  rw [onEntry, onCell_at hrun hq, modify_entry c.entries i.val n _ he]

theorem attributeAfter_discards : (attributeAfter i v s).gauges = s.gauges ∨
    attributeAfter i v s = discardSample (zoneAfter i) s := by
  unfold attributeAfter
  dsimp only
  repeat' split
  · exact .inr rfl
  · exact .inr rfl
  · exact .inl rfl
  · exact .inr rfl

/-- A sample changes no gauge, or counts as discarded alone (R50). -/
theorem attributeSample_discards (p : Gauge) : (attributeSample p v s).gauges = s.gauges ∨
    attributeSample p v s = discardSample p s := by
  unfold attributeSample
  split
  · rename_i h0
    obtain rfl : p = 0 := Fin.ext h0
    unfold attributeEntry
    repeat' split
    · exact .inr rfl
    · exact .inl rfl
    · exact .inr rfl
    · exact .inl rfl
    · exact .inr rfl
  · rename_i j hj
    have hp : p = zoneAfter ⟨j, by omega⟩ := Fin.ext hj
    have hafter := attributeAfter_discards ⟨j, by omega⟩ v s
    rw [← hp] at hafter
    exact hafter

theorem attributeSample_phase (p : Gauge) : (attributeSample p v s).gauges[p].phase = s.gauges[p].phase := by
  obtain h | h := attributeSample_discards v s p
  · rw [h]
  · rw [h, discardSample, State.onGauge_gauges, upd_same]

/-- An ENTRY sample belongs to the forming cell, or to its pending weld (R48, R50). -/
theorem attributeEntry_forming (f : FormingCell) (hf : s.track.forming = some f) (hw : f.pendingWeld = none) :
    attributeEntry v s = if f.count < 65535
      then s.onTrack fun t => { t with forming := some { f with sum := f.sum + v, count := f.count + 1 } }
      else discardSample 0 s := by
  simp only [attributeEntry, hf, hw]

theorem attributeEntry_pending (f : FormingCell) (w : PendingWeld) (hf : s.track.forming = some f)
    (hw : f.pendingWeld = some w) : attributeEntry v s = if w.count < 65535
      then s.onTrack fun t => { t with forming := some { f with
        pendingWeld := some { w with sum := w.sum + v, count := w.count + 1 } } }
      else discardSample 0 s := by
  simp only [attributeEntry, hf, hw]

end

/-- With nothing wanted there is nothing to place or to withdraw (R61). -/
theorem gaugeTests_nothing (p : Gauge) (s : State) (h : s.gauges[p].phase = .none) : gaugeTests p s = s := by
  unfold gaugeTests
  dsimp only
  rw [h, if_neg (show ¬ (StdPhase.none = .waiting ∧ _) from fun e => absurd e.1 nofun),
    if_neg (show ¬ (StdPhase.none = .placed ∧ _) from fun e => absurd e.1 nofun), ite_self]

/-- MEASURING set again where nothing is wanted (R46, R63). -/
theorem setGaugeMode_measuring (p : Gauge) (s : State) (hm : s.gauges[p].mode = .measuring)
    (hphase : s.gauges[p].phase = .none) (hoff : s.gauges[p].holdOff = false) (hfl : s.gauges[p].inFlight = false) :
    setGaugeMode p .measuring s = s := by
  unfold setGaugeMode
  dsimp only
  rw [hm, hphase, if_neg (show ¬ (GaugeMode.measuring = .fault ∧ _) from fun e => absurd e.1 nofun),
    if_neg (show ¬ (_ ∧ GaugeMode.measuring = .standardizing) from fun e => absurd e.2 nofun)]
  refine (onGauge_congr s p _ id ?_).trans (onGauge_id s p)
  rw [id, hfl, hoff, show phaseAfter .none .measuring .measuring = .none from rfl]
  generalize s.gauges[p] = r at *
  obtain ⟨⟩ := r
  simp_all

/-- A MEASURING sample of a measuring gauge with nothing wanted only goes to its owner (R46, R47, R61). -/
theorem takeSample_measuring (p : Gauge) (v : BitVec 16) (s : State) (hm : s.gauges[p].mode = .measuring)
    (hphase : s.gauges[p].phase = .none) (hoff : s.gauges[p].holdOff = false) (hfl : s.gauges[p].inFlight = false) :
    takeSample p ⟨1, v⟩ s = if s.track.mode = .stopped then s else attributeSample p v.toNat s := by
  have hset : setGaugeMode p (sampleMode 1) s = s := setGaugeMode_measuring p s hm hphase hoff hfl
  have hmode : sampleMode 1 = .measuring := rfl
  unfold takeSample
  dsimp only
  rw [hset, hmode]
  by_cases hs : s.track.mode = .stopped
  · rw [if_pos hs, if_neg (fun e => e.2 hs)]
    exact gaugeTests_nothing p s hphase
  · rw [if_neg hs, if_pos ⟨rfl, hs⟩]
    exact gaugeTests_nothing p _ ((attributeSample_phase v.toNat s p).trans hphase)

end Sys2Proof.Machine
end

section
/-! The statement about a sample's owner. -/

open Sys2Proof Sys2Proof.Machine

/-- Settles O34: the gauge's own tests find nothing to do, and the owner is read off the queue. -/
theorem sampleGoesToItsCell : Obligations.SampleGoesToItsCell := by
  unfold Obligations.SampleGoesToItsCell
  intro s a p v h hnone hrec hr hpres hm hphase hoff hfl hrun discarded
  have hexec : ∀ t, t.link.inFlight = none → (if s.track.mode = .stopped then heard a s
      else attributeSample p v.toNat (heard a s)) = t → exec (.gaugeSample ⟨1, v⟩) s = .next t := by
    intro t ht he
    refine line_settled (.nodeFrame (gaugeSampleFrame ⟨1, v⟩)) s t h.runs ?_ (settled_of_none _ ht)
    refine (receiveFrame_sample s a hrec p ⟨1, v⟩ hr).trans ?_
    rw [entered, if_pos hpres, takeSample_measuring p v (heard a s) hm hphase hoff hfl]
    exact he
  refine ⟨fun hs => hexec _ hnone (if_pos hs), fun hs => ⟨?_, ?_⟩⟩
  · rintro rfl f hf
    refine ⟨fun hw => ⟨fun hc => hexec _ hnone ?_, fun hc => hexec _ hnone ?_⟩,
      fun w hw => ⟨fun hc => hexec _ hnone ?_, fun hc => hexec _ hnone ?_⟩⟩
    all_goals rw [if_neg hs]
    · exact (attributeEntry_forming v.toNat (heard a s) f hf hw).trans (if_pos hc)
    · exact (attributeEntry_forming v.toNat (heard a s) f hf hw).trans (if_neg (Nat.not_lt.mpr hc))
    · exact (attributeEntry_pending v.toNat (heard a s) f w hf hw).trans (if_pos hc)
    · exact (attributeEntry_pending v.toNat (heard a s) f w hf hw).trans (if_neg (Nat.not_lt.mpr hc))
  · rintro i rfl past
    refine ⟨fun hno => hexec _ hnone ?_, fun older newer c n hq hc hn he => ⟨fun hlt => hexec _ hnone ?_,
      fun hge => hexec _ hnone ?_⟩⟩
    · rw [if_neg hs]
      exact attributeAfter_none i v.toNat (heard a s) hno
    · rw [if_neg hs]
      exact (attributeAfter_some i v.toNat (heard a s) (runSound_congr hrun rfl rfl) older newer c n hq hc hn he).trans
        (if_pos hlt)
    · rw [if_neg hs]
      exact (attributeAfter_some i v.toNat (heard a s) (runSound_congr hrun rfl rfl) older newer c n hq hc hn he).trans
        (if_neg (Nat.not_lt.mpr hge))

end


section
/-! SUPPORT. A weld indication by its cases (R22 to R24, R78, R79). -/

namespace Sys2Proof.Machine

/-- The strip when a forming cell closes with a length and a new one opens (R22). -/
def closedTrack (f : FormingCell) (l0 : Nat) (new : FormingCell) (t : Track) : Track :=
  { t with
    queue := t.queue ++ [
      { serial := t.nextSerial, coil := f.coil, product := f.product, headEnd := f.headEnd, weld := f.weld,
        measured := if f.count = 0 then none else some ⟨roundHalfUp f.sum f.count, roundHalfUp f.sum f.count * l0⟩,
        extended := f.extended, e0 := f.stamp, l0 := l0, approach := 0, entries := [] }]
    nextSerial := t.nextSerial + 1
    forming := some new
    poolFull := false }

theorem closeForming_eq (f : FormingCell) (l0 : Nat) (new : FormingCell) (s : State) :
    closeForming f l0 new s = s.onTrack (closedTrack f l0 new) := by
  unfold closeForming closedTrack
  dsimp only
  by_cases h : f.count = 0
  · rw [if_pos h, if_neg (by omega)]
  · rw [if_neg h, if_pos (by omega)]

/-- An event raised depends on the host port and the time alone (R190). -/
theorem raise_host_congr (c : EventCode) (sub : Subject) (n : Option Nat) (v : Int) {s t : State}
    (hh : t.host = s.host) (hn : t.now = s.now) : (raise c sub n v t).host = (raise c sub n v s).host := by
  simp only [raise, State.onHost_host, hh, hn]

/-- The events of a weld taken (R78, R79, R84). -/
def coilNotice (kept : Product) (s : State) : State :=
  match s.store.coils with
  | c :: _ => raise .weldEntered (.zone 0) none c.id.toNat s
  | [] => raise .weldEntered (.zone 0) none 0 (raise .coilListEmpty (.zone 0) none kept.val s)

/-- What a weld taken does beside the strip (R78, R79, R61). -/
theorem takeCoil_taken (kept : Product) (f : Track → Track) (s : State) :
    let t := allGaugeTests (takeCoil kept (s.onTrack f))
    t.track = f s.track ∧ t.store = { s.store with coils := s.store.coils.drop 1 } ∧
    t.host = (coilNotice kept s).host ∧ t.trips = s.trips ∧ t.demands = s.demands ∧ t.actuators = s.actuators := by
  intro t
  have hcoils : (s.onTrack f).store.coils = s.store.coils := rfl
  cases hc : s.store.coils with
  | nil =>
    have ht : t = allGaugeTests (raise .weldEntered (.zone 0) none 0
        (raise .coilListEmpty (.zone 0) none kept.val (s.onTrack f))) := by
      simp only [t, takeCoil, hcoils, hc]
    have hnotice : coilNotice kept s = raise .weldEntered (.zone 0) none 0
        (raise .coilListEmpty (.zone 0) none kept.val s) := by
      simp only [coilNotice, hc]
    have hempty : s.store = { s.store with coils := [] } := by rw [← hc]
    rw [ht, hnotice]
    refine ⟨by simp, ?_, ?_, by simp, by simp, by simp⟩
    · simpa using hempty
    · simp only [allGaugeTests_frame]
      exact raise_host_congr _ _ _ _ (raise_host_congr _ _ _ _ rfl rfl) (by simp)
  | cons c rest =>
    have ht : t = allGaugeTests (raise .weldEntered (.zone 0) none c.id.toNat
        ((s.onTrack f).onStore fun t => { t with coils := rest })) := by
      simp only [t, takeCoil, hcoils, hc]
    have hnotice : coilNotice kept s = raise .weldEntered (.zone 0) none c.id.toNat s := by
      simp only [coilNotice, hc]
    rw [ht, hnotice]
    refine ⟨by simp, by simp, ?_, by simp, by simp, by simp⟩
    simp only [allGaugeTests_frame]
    exact raise_host_congr _ _ _ _ rfl rfl

section
variable (s : State) (f : FormingCell) (hm : s.track.mode ≠ .stopped) (hf : s.track.forming = some f)

theorem takeWeld_stopped (h : s.track.mode = .stopped) : takeWeld s = s := by
  simp only [takeWeld, h]

include hm hf

theorem takeWeld_ignored (w : PendingWeld) (hw : f.pendingWeld = some w) : takeWeld s =
    raise .weldIgnored (.zone 0) none (sat32 (s.track.odo[(0 : Fin 6)] - w.stamp)) s := by
  cases hmode : s.track.mode with
  | stopped => exact absurd hmode hm
  | threading => simp only [takeWeld, hmode, hf, hw]
  | running => simp only [takeWeld, hmode, hf, hw]

/-- The strip after a weld taken: the present cell becomes the weld cell, or closes, or the weld waits (R23). -/
def weldTrack (s : State) (f : FormingCell) (c : Coil) (t : Track) : Track :=
  if formingLength s f = 0 then { t with forming := some { f with weld := true, coil := c.id, product := c.product } }
  else if s.track.queue.length < 256 then
    closedTrack f (formingLength s f)
      { freshForming s.track.odo[(0 : Fin 6)] c.id c.product with weld := true } t
  else { t with forming := some { f with
    pendingWeld := some ⟨s.track.odo[(0 : Fin 6)], c.id, c.product, 0, 0⟩ } }

theorem takeWeld_taken (hw : f.pendingWeld = none) : takeWeld s =
    allGaugeTests (takeCoil f.product (s.onTrack (weldTrack s f (nextCoil s f.product)))) := by
  have hcases : takeWeld s = if formingLength s f = 0 then
        allGaugeTests (takeCoil f.product (s.onTrack fun t => { t with forming := some { f with
          weld := true, coil := (nextCoil s f.product).id, product := (nextCoil s f.product).product } }))
      else if recordFree s then
        allGaugeTests (takeCoil f.product (closeForming f (formingLength s f)
          { freshForming s.track.odo[(0 : Fin 6)] (nextCoil s f.product).id (nextCoil s f.product).product with
            weld := true } s))
      else allGaugeTests (takeCoil f.product (s.onTrack fun t => { t with forming := some { f with
        pendingWeld := some ⟨s.track.odo[(0 : Fin 6)], (nextCoil s f.product).id,
          (nextCoil s f.product).product, 0, 0⟩ } })) := by
    cases hmode : s.track.mode with
    | stopped => exact absurd hmode hm
    | threading => simp only [takeWeld, hmode, hf, hw]
    | running => simp only [takeWeld, hmode, hf, hw]
  rw [hcases, closeForming_eq]
  unfold weldTrack
  simp only [recordFree, decide_eq_true_iff, State.onTrack]
  split_ifs <;> rfl
end

end Sys2Proof.Machine
end

section
/-! The statement about a weld indication. -/

open Sys2Proof Sys2Proof.Machine

/-- Settles O35: the cases of a weld, and what each leaves beside the strip. -/
theorem weldTakesNextCoil : Obligations.WeldTakesNextCoil := by
  unfold Obligations.WeldTakesNextCoil
  intro s f odo coil noticed taken
  refine ⟨takeWeld_stopped s, fun hm hf => ⟨takeWeld_ignored s f hm hf, fun hw => ?_⟩⟩
  have htaken : taken (weldTrack s f coil s.track) := by
    have hall := takeCoil_taken f.product (weldTrack s f (nextCoil s f.product)) s
    rw [← takeWeld_taken s f hm hf hw] at hall
    exact hall
  unfold weldTrack at htaken
  refine ⟨fun h0 => ?_, fun h0 hfree => ?_, fun h0 hfull => ?_⟩
  · rwa [if_pos (show formingLength s f = 0 from h0)] at htaken
  · rwa [if_neg (show formingLength s f ≠ 0 from Nat.ne_of_gt h0), if_pos hfree] at htaken
  · rwa [if_neg (show formingLength s f ≠ 0 from Nat.ne_of_gt h0), if_neg (Nat.not_lt.mpr hfull)] at htaken

end


section
/-! SUPPORT. A standardisation deferred near a weld (R60). -/

namespace Sys2Proof.Machine

theorem deferred_entry (s : State) : deferred s 0 = true ↔ WeldNear s 0 := by
  have hne : ∀ i : Stand, (0 : Gauge) ≠ i.succ := fun i => (Fin.succ_ne_zero i).symm
  unfold deferred WeldNear
  cases hf : s.track.forming with
  | none => simp [hne, List.any_eq_true, -Fin.getElem_fin]
  | some f =>
    cases hw : f.pendingWeld <;> simp [hne, List.any_eq_true, hw, -Fin.getElem_fin] <;> exact Iff.rfl

theorem deferred_after (s : State) (i : Stand) : deferred s i.succ = true ↔ WeldNear s i.succ := by
  have hnear : ∀ c : Cell, (holdsStamp c (zoneAfter i).val && decide (distanceIn s c (zoneAfter i) <
      s.gauges[i.succ].g + s.gauges[i.succ].weldGuard)) = true ↔ ∃ n : StandEntry, c.entries[i.val]? = some n ∧
        s.track.odo[i.succ] - n.stamp < s.gauges[i.succ].g + s.gauges[i.succ].weldGuard := fun c =>
    holdsStamp_distance s i c fun d => d < s.gauges[i.succ].g + s.gauges[i.succ].weldGuard
  have hqueue : s.track.queue.any (fun c => c.weld && holdsStamp c (zoneAfter i).val &&
      decide (distanceIn s c (zoneAfter i) < s.gauges[i.succ].g + s.gauges[i.succ].weldGuard)) = true ↔
      ∃ c ∈ s.track.queue, c.weld = true ∧ ∃ n : StandEntry, c.entries[i.val]? = some n ∧
        s.track.odo[i.succ] - n.stamp < s.gauges[i.succ].g + s.gauges[i.succ].weldGuard := by
    simp only [List.any_eq_true, Bool.and_assoc, Bool.and_eq_true (_ : Bool) (_ && _), hnear]
  have hwaits : s.track.queue.any (fun c => c.weld && decide (c.entries.length = i.val)) = true ↔
      ∃ c ∈ s.track.queue, c.weld = true ∧ c.entries.length = i.val := by
    simp only [List.any_eq_true, Bool.and_eq_true, decide_eq_true_iff]
  have hforming : (decide (i.val = 0) && (match s.track.forming with
      | some f => f.weld || f.pendingWeld.isSome
      | none => false)) = true ↔
      i = 0 ∧ ∃ f, s.track.forming = some f ∧ (f.weld = true ∨ f.pendingWeld ≠ none) := by
    rw [Bool.and_eq_true, decide_eq_true_iff, Fin.ext_iff]
    cases s.track.forming <;> simp [Option.isSome_iff_ne_none]
  have hdef : deferred s i.succ = (s.track.queue.any (fun c => c.weld && holdsStamp c (zoneAfter i).val &&
      decide (distanceIn s c (zoneAfter i) < s.gauges[i.succ].g + s.gauges[i.succ].weldGuard)) ||
      s.track.queue.any (fun c => c.weld && decide (c.entries.length = i.val)) ||
      (decide (i.val = 0) && (match s.track.forming with
        | some f => f.weld || f.pendingWeld.isSome
        | none => false))) := rfl
  rw [hdef, Bool.or_eq_true, Bool.or_eq_true, hqueue, hwaits, hforming, or_assoc]
  constructor
  · exact fun h => .inr ⟨i, rfl, h⟩
  · rintro (⟨h0, -⟩ | ⟨k, hk, h⟩)
    · exact absurd h0 (Fin.succ_ne_zero i)
    · obtain rfl : i = k := Fin.succ_injective 5 hk
      exact h

theorem deferred_iff_weldNear (s : State) (p : Gauge) : deferred s p = true ↔ WeldNear s p := by
  obtain rfl | ⟨i, rfl⟩ := Fin.eq_zero_or_eq_succ p
  · exact deferred_entry s
  · exact deferred_after s i

end Sys2Proof.Machine
end

section
/-! SUPPORT. A gauge's state set, on its record alone (R46, R63). -/

namespace Sys2Proof.Machine

/-- The record after its state is set, before a completion (R46, R63). -/
def modeRecord (new : GaugeMode) (r : GaugeRecord) : GaugeRecord :=
  { r with
    mode := new
    phase := phaseAfter r.phase r.mode new
    inFlight := r.inFlight && decide (phaseAfter r.phase r.mode new = .placed)
    holdOff := r.holdOff && decide (new ≠ .measuring) }

section
variable (p : Gauge) (s : State)

theorem setGaugeMode_eq (new : GaugeMode) : setGaugeMode p new s =
    (let noticed := if new = .fault ∧ s.gauges[p].mode ≠ .fault
      then raise .gaugeFault (.gauge p) none (gaugeModeCode s.gauges[p].mode) (s.onGauge p (modeRecord new))
      else s.onGauge p (modeRecord new)
    if new = .measuring ∧ s.gauges[p].mode = .standardizing then completeStd p noticed else noticed) := by
  have hset : s.onGauge p (modeRecord new) = s.onGauge p fun r =>
      { r with mode := new, phase := phaseAfter s.gauges[p].phase s.gauges[p].mode new,
               inFlight := r.inFlight && decide (phaseAfter s.gauges[p].phase s.gauges[p].mode new = .placed),
               holdOff := r.holdOff && decide (new ≠ .measuring) } := onGauge_congr s p _ _ rfl
  rw [hset]
  rfl

theorem modeRecord_at (new : GaugeMode) : (s.onGauge p (modeRecord new)).gauges[p] = modeRecord new s.gauges[p] := by
  rw [State.onGauge_gauges, upd_same]

theorem setGaugeMode_standardizing : setGaugeMode p .standardizing s = s.onGauge p (modeRecord .standardizing) := by
  rw [setGaugeMode_eq]
  dsimp only
  rw [if_neg (fun e => absurd e.1 nofun), if_neg (fun e => absurd e.1 nofun)]

theorem setGaugeMode_again (h : s.gauges[p].mode = .fault) :
    setGaugeMode p .fault s = s.onGauge p (modeRecord .fault) := by
  rw [setGaugeMode_eq]
  dsimp only
  rw [if_neg (fun e => absurd e.1 nofun), if_neg (fun e => absurd h e.2)]

theorem setGaugeMode_fails (h : s.gauges[p].mode ≠ .fault) : setGaugeMode p .fault s =
    raise .gaugeFault (.gauge p) none (gaugeModeCode s.gauges[p].mode) (s.onGauge p (modeRecord .fault)) := by
  rw [setGaugeMode_eq]
  dsimp only
  rw [if_neg (fun e => absurd e.1 nofun), if_pos ⟨rfl, h⟩]

theorem setGaugeMode_completes (h : s.gauges[p].mode = .standardizing) :
    setGaugeMode p .measuring s = completeStd p (s.onGauge p (modeRecord .measuring)) := by
  rw [setGaugeMode_eq]
  dsimp only
  rw [if_pos ⟨rfl, h⟩, if_neg (fun e => absurd e.1 nofun)]

theorem setGaugeMode_resumes (h : s.gauges[p].mode ≠ .standardizing) :
    setGaugeMode p .measuring s = s.onGauge p (modeRecord .measuring) := by
  rw [setGaugeMode_eq]
  dsimp only
  rw [if_neg (fun e => h e.2), if_neg (fun e => absurd e.1 nofun)]
end

/-! ### The tests that follow (R61) -/

/-- The record a STANDARDIZING sample leaves (R63). -/
def runningRecord (r : GaugeRecord) : GaugeRecord :=
  { r with mode := .standardizing, phase := if r.phase = .none then .none else .running, inFlight := false }

theorem testedRecord_standardizing (near : Bool) (r : GaugeRecord) :
    testedRecord near (modeRecord .standardizing r) = runningRecord r := by
  unfold testedRecord modeRecord runningRecord phaseAfter
  cases hphase : r.phase <;> simp

/-- The record a FAULT sample leaves (R61, R63). -/
def failedRecord (r : GaugeRecord) : GaugeRecord :=
  { r with
    mode := .fault
    phase := match r.phase with
      | .none => .none
      | .waiting => .waiting
      | .placed => if r.inFlight then .placed else .waiting
      | .accepted => if r.mode = .fault then .accepted else .waiting
      | .running => if r.mode = .fault then .running else .waiting
    inFlight := r.inFlight && decide (r.phase = .placed) }

theorem testedRecord_fault (near : Bool) (r : GaugeRecord) :
    testedRecord near (modeRecord .fault r) = failedRecord r := by
  unfold testedRecord modeRecord failedRecord phaseAfter
  cases hphase : r.phase with
  | none | waiting => simp
  | placed => cases hf : r.inFlight <;> simp
  | accepted | running => by_cases hm : r.mode = .fault <;> simp [hm]

/-- The record that measures again (R46). -/
def resumedRecord (r : GaugeRecord) : GaugeRecord :=
  { r with mode := .measuring, holdOff := false, inFlight := r.inFlight && decide (r.phase = .placed) }

theorem modeRecord_measuring (r : GaugeRecord) : modeRecord .measuring r = resumedRecord r := by
  unfold modeRecord resumedRecord phaseAfter
  simp

/-- The record whose standardisation is complete (R64). -/
def doneRecord (r : GaugeRecord) : GaugeRecord :=
  { r with
    mode := .measuring
    length := 0
    phase := .none
    source := .none
    overdue := false
    holdOff := false
    inFlight := false }

end Sys2Proof.Machine
end

section
/-! SUPPORT. The length since standardisation (R56, R57). -/

namespace Sys2Proof.Machine

section
variable (p : Gauge) (s : State) (len : Nat)

/-- The record with its grown length, and its standardisation wanted where it is due (R56, R57). -/
def wantedRecord (r : GaugeRecord) : GaugeRecord :=
  if r.stdLength * 1000000 ≤ len ∧ r.phase = .none
  then { r with length := len, phase := .waiting, source := .length }
  else { r with length := len }

theorem onGauge_wanted :
    (if s.gauges[p].stdLength * 1000000 ≤ len ∧ s.gauges[p].phase = .none then
      (s.onGauge p fun r => { r with length := len }).onGauge p fun r => { r with phase := .waiting, source := .length }
      else s.onGauge p fun r => { r with length := len }) = s.onGauge p fun _ => wantedRecord len s.gauges[p] := by
  unfold wantedRecord
  split_ifs
  · rw [onGauge_onGauge]
    exact onGauge_congr s p _ _ rfl
  · exact onGauge_congr s p _ _ rfl

theorem onGauge_overdue (w : GaugeRecord) :
    ((s.onGauge p fun _ => w).onGauge p fun r => { r with overdue := true }) =
      s.onGauge p fun _ => { w with overdue := true } := by
  rw [onGauge_onGauge]
  rfl

theorem growLength_eq (d : Nat) (hi : s.gauges[p].installed = true)
    (hlen : satAdd (2 ^ 48 - 1) s.gauges[p].length d = len) (hgrows : s.gauges[p].length < len) :
    growLength p d s = if 2 * (s.gauges[p].stdLength * 1000000) ≤ len ∧
        (wantedRecord len s.gauges[p]).phase ≠ .none ∧ s.gauges[p].overdue = false
      then raise .gaugeOverdue (.gauge p) none (inMetres len)
        (s.onGauge p fun _ => { wantedRecord len s.gauges[p] with overdue := true })
      else s.onGauge p fun _ => wantedRecord len s.gauges[p] := by
  unfold growLength
  dsimp only [-Nat.reducePow, -Nat.reduceSub]
  rw [if_neg (not_not_intro hi), hlen, if_neg (Nat.not_le.mpr hgrows), onGauge_wanted, onGauge_overdue]
  refine if_congr (and_congr_right fun _ => and_congr ?_ (Bool.not_eq_true _).to_iff) rfl rfl
  rw [State.onGauge_gauges, upd_same]

theorem growLength_still (d : Nat) (hi : s.gauges[p].installed = true)
    (hlen : satAdd (2 ^ 48 - 1) s.gauges[p].length d = s.gauges[p].length) : growLength p d s = s := by
  have hsame : (s.onGauge p fun r => { r with length := s.gauges[p].length }) = s :=
    (onGauge_congr s p _ id rfl).trans (onGauge_id s p)
  unfold growLength
  dsimp only [-Nat.reducePow, -Nat.reduceSub]
  rw [if_neg (not_not_intro hi), hlen, hsame, if_pos (Nat.le_refl _)]
end

end Sys2Proof.Machine
end

section
/-! SUPPORT. A sample by its status (R46, R47, R63, R64). -/

namespace Sys2Proof.Machine

section
variable (p : Gauge) (h : BitVec 16) (s : State)

theorem takeSample_standardizing (hi : s.gauges[p].installed = true) :
    takeSample p ⟨2, h⟩ s = s.onGauge p runningRecord := by
  have hmode : sampleMode 2 = .standardizing := rfl
  unfold takeSample
  dsimp only
  rw [hmode, setGaugeMode_standardizing, if_neg (fun e => absurd e.1 nofun),
    gaugeTests_installed p _ (by rw [modeRecord_at]; exact hi), onGauge_onGauge]
  exact onGauge_congr s p _ _ (testedRecord_standardizing _ _)

section
variable (b : Byte) (h1 : b ≠ 1) (h2 : b ≠ 2)
include h1 h2

theorem takeSample_fault : takeSample p ⟨b, h⟩ s = gaugeTests p (setGaugeMode p .fault s) := by
  have hmode : sampleMode b = .fault := by
    rw [sampleMode, if_neg h1, if_neg h2]
  unfold takeSample
  dsimp only
  rw [hmode, if_neg (fun e => absurd e.1 nofun)]

theorem takeSample_faultAgain (hi : s.gauges[p].installed = true) (hm : s.gauges[p].mode = .fault) :
    takeSample p ⟨b, h⟩ s = s.onGauge p failedRecord := by
  rw [takeSample_fault p h s b h1 h2, setGaugeMode_again p s hm,
    gaugeTests_installed p _ (by rw [modeRecord_at]; exact hi), onGauge_onGauge]
  exact onGauge_congr s p _ _ (testedRecord_fault _ _)

theorem takeSample_fails (hi : s.gauges[p].installed = true) (hm : s.gauges[p].mode ≠ .fault)
    (hroom : s.host.events.length < 48) : takeSample p ⟨b, h⟩ s =
      (s.onGauge p failedRecord).onHost fun k => { k with events := k.events ++
        [⟨.gaugeFault, .gauge p, none, BitVec.ofNat 32 (gaugeModeCode s.gauges[p].mode), s.now⟩] } := by
  have hat := modeRecord_at p s .fault
  rw [takeSample_fault p h s b h1 h2, setGaugeMode_fails p s hm, raise_room _ _ _ _ _ (by exact hroom),
    gaugeTests_installed p _ (by rw [State.onHost_gauges, hat]; exact hi), BitVec.ofInt_natCast]
  have hrec : (s.onGauge p (modeRecord .fault)).onGauge p (testedRecord (deferred ((s.onGauge p (modeRecord .fault)).onHost
      fun k => { k with events := k.events ++ [⟨.gaugeFault, .gauge p, none,
        BitVec.ofNat 32 (gaugeModeCode s.gauges[p].mode), s.now⟩] }) p)) = s.onGauge p failedRecord := by
    rw [onGauge_onGauge]
    exact onGauge_congr s p _ _ (testedRecord_fault _ _)
  rw [← hrec]
  rfl
end

/-- A completed standardisation (R64). -/
def standardized : State :=
  (s.onGauge p doneRecord).onHost fun k => { k with events := k.events ++
    [⟨.gaugeStandardized, .gauge p, none, BitVec.ofNat 32 (inMetres s.gauges[p].length), s.now⟩] }

theorem setGaugeMode_standardized (hm : s.gauges[p].mode = .standardizing) (hroom : s.host.events.length < 48) :
    setGaugeMode p .measuring s = standardized p s := by
  have hlen : (s.onGauge p (modeRecord .measuring)).gauges[p].length = s.gauges[p].length := by rw [modeRecord_at]; rfl
  rw [setGaugeMode_completes p s hm, completeStd, onGauge_onGauge, hlen, raise_room _ _ _ _ _ (by exact hroom),
    BitVec.ofInt_natCast]
  refine (congrArg (fun u : State => u.onHost fun k => { k with events := k.events ++ [⟨.gaugeStandardized, .gauge p,
    none, BitVec.ofNat 32 (inMetres s.gauges[p].length), s.now⟩] }) (onGauge_congr s p _ doneRecord ?_) :)
  rfl

theorem takeSample_completes (hm : s.gauges[p].mode = .standardizing) (hroom : s.host.events.length < 48) :
    takeSample p ⟨1, h⟩ s = if s.track.mode = .stopped then standardized p s
      else attributeSample p h.toNat (standardized p s) := by
  have hmode : sampleMode 1 = .measuring := rfl
  have hphase : (standardized p s).gauges[p].phase = .none := by
    rw [standardized, State.onHost_gauges, State.onGauge_gauges, upd_same]
    rfl
  have htrack : (standardized p s).track = s.track := rfl
  unfold takeSample
  dsimp only
  rw [hmode, setGaugeMode_standardized p s hm hroom, htrack]
  by_cases hs : s.track.mode = .stopped
  · rw [if_pos hs, if_neg (fun e => e.2 hs)]
    exact gaugeTests_nothing p _ hphase
  · rw [if_neg hs, if_pos ⟨rfl, hs⟩]
    exact gaugeTests_nothing p _ ((attributeSample_phase h.toNat _ p).trans hphase)

theorem takeSample_resumes (hm : s.gauges[p].mode ≠ .standardizing) (hs : s.track.mode = .stopped) :
    takeSample p ⟨1, h⟩ s = gaugeTests p (s.onGauge p resumedRecord) := by
  have hmode : sampleMode 1 = .measuring := rfl
  have hrec : s.onGauge p (modeRecord .measuring) = s.onGauge p resumedRecord :=
    onGauge_congr s p _ _ (modeRecord_measuring _)
  unfold takeSample
  dsimp only
  rw [hmode, setGaugeMode_resumes p s hm, hrec, if_neg (fun e => e.2 hs)]
end

end Sys2Proof.Machine
end

section
/-! The statement about standardisation. -/

open Sys2Proof Sys2Proof.Machine

/-- Settles O39: the growth, the two tests and a sample each by their cases, on the gauge's record. -/
theorem gaugeStandardisation : Obligations.GaugeStandardisation := by
  unfold Obligations.GaugeStandardisation
  intro p s r
  refine ⟨fun hi => ⟨if_pos (by rw [show s.gauges[p].installed = false from hi]; exact nofun), fun d => if_pos
    (by rw [show s.gauges[p].installed = false from hi]; exact nofun)⟩, fun hi => ⟨fun d hlt => ?_, ?_, fun b h => ?_⟩⟩
  · intro len due wanted late
    have hlen : satAdd (2 ^ 48 - 1) s.gauges[p].length d = len := rfl
    have hle : r.length ≤ len := by
      change r.length ≤ min (2 ^ 48 - 1) (r.length + d)
      omega
    have hgrows : len ≠ r.length → _ := fun hne =>
      growLength_eq p s len d hi hlen (Nat.lt_of_le_of_ne hle (Ne.symm hne))
    have hwanted : wantedRecord len s.gauges[p] = wanted := rfl
    rw [hwanted] at hgrows
    clear_value wanted
    exact ⟨fun he => growLength_still p s d hi (hlen.trans he), fun hne hno => (hgrows hne).trans (if_neg hno),
      fun hne hl => (hgrows hne).trans (if_pos hl)⟩
  · intro placing withdrawing
    have hplacing : placing ↔ r.phase = .waiting ∧ r.holdOff = false ∧ r.mode = .measuring ∧
        (r.source = .host ∨ deferred s p = false) := by
      simp only [placing, ← deferred_iff_weldNear, Bool.not_eq_true]
    have hwithdrawing : withdrawing ↔ r.phase = .placed ∧ r.inFlight = false ∧
        (r.mode ≠ .measuring ∨ (r.source = .length ∧ deferred s p = true)) := by
      simp only [withdrawing, ← deferred_iff_weldNear]
    rw [hplacing, hwithdrawing, gaugeTests_installed p s hi]
    refine ⟨fun hp => onGauge_congr s p _ _ (if_pos hp), fun hd => onGauge_congr s p _ _ ?_, fun hp hd => ?_⟩
    · exact (if_neg fun hp => absurd (hp.1.symm.trans hd.1) nofun).trans (if_pos hd)
    · have hkept : testedRecord (deferred s p) r = r := (if_neg hp).trans (if_neg hd)
      exact (onGauge_congr s p _ id hkept).trans (onGauge_id s p)
  · intro noted
    refine ⟨?_, fun h1 h2 => ⟨?_, ?_⟩, ?_, ?_⟩
    · rintro rfl
      exact takeSample_standardizing p h s hi
    · exact takeSample_faultAgain p h s b h1 h2 hi
    · intro hm hroom
      exact takeSample_fails p h s b h1 h2 hi hm hroom
    · rintro rfl hm hroom done
      have hall := takeSample_completes p h s hm hroom
      exact ⟨fun hs => hall.trans (if_pos hs), fun hs => hall.trans (if_neg hs)⟩
    · rintro rfl hm hs
      exact takeSample_resumes p h s hm hs

end


section
/-! SUPPORT. The events a part of a step adds, within the room of the queue (R190). -/

namespace Sys2Proof.Machine

/-- At most `k` events join the queue, whose room they do not exceed. -/
def Adds (k : Nat) (s t : State) : Prop :=
  s.host.events.length + k ≤ 48 → ∃ l : List Event, l.length ≤ k ∧ t.host.events = s.host.events ++ l

namespace Adds

theorem of_host {s t : State} (h : t.host = s.host) : Adds 0 s t := fun _ => ⟨[], Nat.le_refl 0, by simp [h]⟩

theorem trans {j k : Nat} {s t u : State} (h : Adds j s t) (g : Adds k t u) : Adds (j + k) s u := by
  intro hroom
  obtain ⟨l, hl, ht⟩ := h (by omega)
  obtain ⟨m, hm, hu⟩ := g (by rw [ht, List.length_append]; omega)
  exact ⟨l ++ m, by rw [List.length_append]; omega, by rw [hu, ht, List.append_assoc]⟩

theorem mono {j k : Nat} {s t : State} (h : Adds j s t) (hjk : j ≤ k) : Adds k s t := by
  intro hroom
  obtain ⟨l, hl, ht⟩ := h (by omega)
  exact ⟨l, by omega, ht⟩

theorem raised (c : EventCode) (sub : Subject) (n : Option Nat) (v : Int) (s : State) :
    Adds 1 s (raise c sub n v s) := by
  intro hroom
  rw [raise_room c sub n v s (by omega)]
  refine ⟨_, ?_, rfl⟩
  exact Nat.le_refl 1

theorem composed (i : Stand) (s : State) : Adds 1 s (composeDemand i s) := by
  intro hroom
  rw [composeDemand_host i s (by omega)]
  refine ⟨_, ?_, rfl⟩
  cases demandOf s i with
  | none => exact Nat.zero_le 1
  | some d =>
    rw [Option.elim_some, limitEvents]
    split_ifs
    · exact Nat.le_refl 1
    · exact Nat.zero_le 1

theorem mem {k : Nat} {s t : State} (h : Adds k s t) (hroom : s.host.events.length + k ≤ 48) {e : Event}
    (he : e ∈ s.host.events) : e ∈ t.host.events := by
  obtain ⟨l, -, ht⟩ := h hroom
  rw [ht]
  exact List.mem_append_left l he

end Adds

end Sys2Proof.Machine
end

section
/-! SUPPORT. A stand's share of a bite before the older neighbour is looked at (R30, R31, R82, R93, R98). -/

namespace Sys2Proof.Machine

/-- The entry a bite adds (R30). -/
def bareEntry (stamp : Nat) : StandEntry := ⟨stamp, 0, 0, 0, none, none, false⟩

section
variable (i : Stand) (y : Cell) (s : State)

/-- The bite's entry added, and weld approach signalled where it has not been (R30, R31). -/
def biteEntered : State :=
  let s0 := onCell y.serial (fun c => { c with entries := c.entries ++ [bareEntry s.track.odo[i.succ]] }) s
  if y.weld ∧ y.approach < standNumber i then signalApproach i y s0 else s0

/-- The bite handed to the Product Store and the Gap Demand Unit (R31). -/
def biteFed : State := biteDemand i y (biteProduct i y (biteEntered i y s))

/-- What the bite's entry leaves but the strip and the freeze. -/
theorem biteEntered_frame : (biteEntered i y s).stands = s.stands ∧ (biteEntered i y s).store = s.store ∧
    (biteEntered i y s).gauges = s.gauges ∧ (biteEntered i y s).actuators = s.actuators ∧
    (biteEntered i y s).trips = s.trips ∧ (biteEntered i y s).host = s.host ∧
    (biteEntered i y s).now = s.now ∧ (biteEntered i y s).mill = s.mill := by
  unfold biteEntered
  dsimp only
  split <;> exact ⟨rfl, rfl, rfl, rfl, rfl, rfl, rfl, rfl⟩

theorem biteEntered_demands : (biteEntered i y s).demands = upd s.demands i fun d => { d with
    freeze := if y.weld = true ∧ y.approach < i.val + 1 then some y.serial else d.freeze } := by
  unfold biteEntered
  dsimp only
  by_cases h : y.weld = true ∧ y.approach < i.val + 1
  · rw [if_pos (show y.weld = true ∧ y.approach < standNumber i from h)]
    simp only [if_pos h]
    rfl
  · rw [if_neg (show ¬ (y.weld = true ∧ y.approach < standNumber i) from h)]
    simp only [if_neg h]
    exact (table_ext fun j => by rw [upd_at]; split <;> rfl).symm

/-- The cell as it stands behind its bite (R30, R38). -/
def bittenCell (ff : Int) : Cell :=
  { y with
    approach := if y.weld = true ∧ y.approach < i.val + 1 then i.val + 1 else y.approach
    entries := y.entries ++ [⟨s.track.odo[i.succ], ff, 0, 0, none, none, false⟩] }

section
variable {older newer : List Cell} (h : RunSound s) (hq : s.track.queue = older ++ y :: newer)
include h hq

theorem biteEntered_track : (biteEntered i y s).track =
    { s.track with queue := older ++ bittenCell i y s 0 :: newer } := by
  have hnear : (onCell y.serial (fun c => { c with entries := c.entries ++ [bareEntry s.track.odo[i.succ]] }) s).track =
      { s.track with queue := older ++ { y with entries := y.entries ++ [bareEntry s.track.odo[i.succ]] } :: newer } := by
    rw [onCell_at h hq]
    rfl
  unfold biteEntered
  dsimp only
  generalize onCell y.serial (fun c => { c with entries := c.entries ++ [bareEntry s.track.odo[i.succ]] }) s = u at hnear
  by_cases hs : y.weld = true ∧ y.approach < i.val + 1
  · rw [if_pos (show y.weld = true ∧ y.approach < standNumber i from hs), signalApproach, freezeMonitor]
    have hrun : Consecutive u.track.queue u.track.nextSerial := by
      rw [hnear]
      have hs := h.serials
      rw [hq] at hs
      exact Consecutive.replace hs rfl
    have hcell := onCell_run (c := { y with entries := y.entries ++ [bareEntry s.track.odo[i.succ]] }) hrun
      (by rw [hnear]) fun c => { c with approach := standNumber i }
    rw [State.onDemand_track, hcell, State.onTrack_track, hnear, bittenCell, if_pos hs]
    rfl
  · rw [if_neg (show ¬ (y.weld = true ∧ y.approach < standNumber i) from hs), hnear, bittenCell, if_neg hs]
    rfl
end

theorem feedforward_congr {s t : State} (i : Stand) (y : Cell) (hs : t.stands = s.stands) (hg : t.gauges = s.gauges)
    (ht : t.store.table = s.store.table) : feedforward t i y = feedforward s i y := by
  have hin : biteInput t i y = biteInput s i y := by
    unfold biteInput
    rw [hg, ht]
  unfold feedforward
  rw [hin, hs, ht]

theorem biteProduct_table (i : Stand) (y : Cell) (s : State) :
    (biteProduct i y s).store = { s.store with active := upd s.store.active i fun _ => some y.product } := by
  by_cases h : s.store.active[i] = some y.product
  · have hsame : upd s.store.active i (fun _ => some y.product) = s.store.active := table_ext fun j => by
      rw [upd_at]
      split
      · rename_i hj
        rw [hj, h]
      · rfl
    rw [hsame, biteProduct, if_pos h]
  · exact (biteProduct_switched s i y h).1

end

end Sys2Proof.Machine
end


section
/-! SUPPORT. What the Product Store and the Gap Demand Unit make of a bite (R82, R91 to R93, R98, R99). -/

namespace Sys2Proof.Machine

theorem thawed_thawed (y : Cell) (f : Option Nat) : thawed y (thawed y f) = thawed y f := by
  cases f with
  | none => rfl
  | some n =>
    rw [thawed_some]
    by_cases h : y.weld = true ∧ n ≤ y.serial
    · rw [if_pos h]
      rfl
    · rw [if_neg h, thawed_some, if_neg h]

/-- The trim that a bite carries over to its product (R99). -/
def carriedTrim (i : Stand) (y : Cell) (s : State) : Int :=
  if s.store.active[i] = some y.product ∨ s.store.table[y.product].carryTrim = true then s.demands[i].trim else 0

section
variable (i : Stand) (y : Cell) (s : State)

/-- What the Product Store's share keeps: only the stand's trim and freeze, its demand and its target change. -/
theorem biteProduct_keeps : (biteProduct i y s).track = s.track ∧ (biteProduct i y s).gauges = s.gauges ∧
    (biteProduct i y s).trips = s.trips ∧ (biteProduct i y s).stands = s.stands ∧
    (biteProduct i y s).mill = s.mill ∧ (biteProduct i y s).now = s.now ∧
    ∀ j : Stand, j ≠ i → (biteProduct i y s).demands[j] = s.demands[j] ∧
      (biteProduct i y s).actuators[j] = s.actuators[j] := by
  refine ⟨by simp, by simp, by simp, by simp, by simp, by simp, fun j hj => ?_⟩
  by_cases h : s.store.active[i] = some y.product
  · rw [biteProduct, if_pos h]
    exact ⟨rfl, rfl⟩
  · obtain ⟨-, -, -, hothers, -⟩ := biteProduct_switched s i y h
    exact hothers j hj

/-- The terms that the Product Store's share leaves (R98, R99). -/
theorem biteProduct_terms : (biteProduct i y s).demands[i].ff = s.demands[i].ff ∧
    (biteProduct i y s).demands[i].offset = s.demands[i].offset ∧
    (biteProduct i y s).demands[i].trim = carriedTrim i y s ∧
    thawed y (biteProduct i y s).demands[i].freeze = thawed y s.demands[i].freeze := by
  by_cases h : s.store.active[i] = some y.product
  · have hsame : biteProduct i y s = s := if_pos h
    rw [hsame, carriedTrim, if_pos (.inl h)]
    exact ⟨rfl, rfl, rfl, rfl⟩
  · obtain ⟨-, ⟨lim, hat⟩, -⟩ := biteProduct_switched s i y h
    generalize biteProduct i y s = t at *
    have htrim : t.demands[i].trim = if s.store.table[y.product].carryTrim = true then s.demands[i].trim else 0 :=
      (congrArg DemandState.trim hat :)
    have hfreeze : t.demands[i].freeze = thawed y s.demands[i].freeze := (congrArg DemandState.freeze hat :)
    refine ⟨(congrArg DemandState.ff hat :), (congrArg DemandState.offset hat :), ?_, ?_⟩
    · rw [htrim, carriedTrim]
      exact if_congr (or_iff_right h).symm rfl rfl
    · rw [hfreeze, thawed_thawed]

theorem biteProduct_adds : Adds 2 s (biteProduct i y s) := by
  by_cases h : s.store.active[i] = some y.product
  · have hsame : biteProduct i y s = s := if_pos h
    rw [hsame]
    exact (Adds.of_host rfl).mono (Nat.zero_le 2)
  · rw [biteProduct_switches i s y h]
    exact (Adds.composed i ((activated i s y).onDemand i _)).trans (Adds.raised _ _ _ _ _)

/-- The Gap Demand Unit's share, as one recomposition (R91 to R93, R98). -/
theorem biteDemand_eq : biteDemand i y s = recompose i (fun d => { d with
      freeze := thawed y d.freeze, ff := feedforward s i y })
    (onEntry y.serial i (fun e => { e with ff := feedforward s i y }) s) := by
  have hff : feedforward (endFreeze i y s) i y = feedforward s i y := rfl
  rw [recompose, ← onDemand_onDemand _ i (fun d => { d with freeze := thawed y d.freeze })
    fun d => { d with ff := feedforward s i y }, biteDemand, hff]
  rfl
end

section
variable (i : Stand) (y : Cell) (s : State)

/-- The freeze that a bite leaves (R97, R98). -/
def frozenAfter : Option Nat :=
  if y.weld = true ∧ y.approach < i.val + 1 then none else thawed y s.demands[i].freeze

theorem biteEntered_freeze : thawed y (biteEntered i y s).demands[i].freeze = frozenAfter i y s := by
  rw [biteEntered_demands, upd_same, frozenAfter]
  by_cases h : y.weld = true ∧ y.approach < i.val + 1
  · simp only [if_pos h]
    rw [thawed_some, if_pos ⟨h.1, Nat.le_refl _⟩]
  · simp only [if_neg h]

theorem biteEntered_carried : carriedTrim i y (biteEntered i y s) = carriedTrim i y s := by
  obtain ⟨-, hstore, -⟩ := biteEntered_frame i y s
  have htrim : (biteEntered i y s).demands[i].trim = s.demands[i].trim := by
    rw [biteEntered_demands, upd_same]
  unfold carriedTrim
  rw [hstore, htrim]

theorem biteFed_eq : biteFed i y s = recompose i (fun d => { d with
      freeze := thawed y d.freeze, ff := feedforward s i y })
    (onEntry y.serial i (fun e => { e with ff := feedforward s i y }) (biteProduct i y (biteEntered i y s))) := by
  obtain ⟨hstands, hstore, hgauges, -⟩ := biteEntered_frame i y s
  have hff : feedforward (biteProduct i y (biteEntered i y s)) i y = feedforward s i y := by
    refine feedforward_congr i y ?_ ?_ ?_
    · simp [hstands]
    · simp [hgauges]
    · rw [biteProduct_table, hstore]
  rw [biteFed, biteDemand_eq, hff]

theorem biteFed_keeps : (biteFed i y s).stands = s.stands ∧ (biteFed i y s).gauges = s.gauges ∧
    (biteFed i y s).trips = s.trips ∧ (biteFed i y s).mill = s.mill ∧ (biteFed i y s).now = s.now ∧
    ∀ j : Stand, j ≠ i → (biteFed i y s).demands[j] = s.demands[j] ∧
      (biteFed i y s).actuators[j] = s.actuators[j] := by
  obtain ⟨hstands, hstore, hgauges, hact, htrips, hhost, hnow, hmill⟩ := biteEntered_frame i y s
  refine ⟨by simp [biteFed, hstands], by simp [biteFed, hgauges], by simp [biteFed, htrips], by simp [biteFed, hmill],
    by simp [biteFed, hnow], fun j hj => ?_⟩
  rw [biteFed_eq]
  obtain ⟨hd, ha⟩ := recompose_others i (fun d => { d with freeze := thawed y d.freeze, ff := feedforward s i y })
    (onEntry y.serial i (fun e => { e with ff := feedforward s i y }) (biteProduct i y (biteEntered i y s))) j hj
  obtain ⟨-, -, -, -, -, -, hothers⟩ := biteProduct_keeps i y (biteEntered i y s)
  obtain ⟨hpd, hpa⟩ := hothers j hj
  exact ⟨hd.trans (hpd.trans (by rw [biteEntered_demands, upd_other _ _ _ _ hj])),
    ha.trans (hpa.trans (by rw [hact]))⟩

theorem biteFed_store : (biteFed i y s).store =
    { s.store with active := upd s.store.active i fun _ => some y.product } := by
  obtain ⟨-, hstore, -⟩ := biteEntered_frame i y s
  rw [biteFed_eq, (recompose_demandOnly i _ _).store, ← hstore, ← biteProduct_table]
  rfl

theorem biteFed_demand : (biteFed i y s).demands[i].ff = feedforward s i y ∧
    (biteFed i y s).demands[i].offset = s.demands[i].offset ∧
    (biteFed i y s).demands[i].trim = carriedTrim i y s ∧
    (biteFed i y s).demands[i].freeze = frozenAfter i y s ∧
    (biteFed i y s).demands[i].demand = demandOf (biteFed i y s) i := by
  obtain ⟨-, hoffset, htrim, hfreeze⟩ := biteProduct_terms i y (biteEntered i y s)
  obtain ⟨lim, hat⟩ := recompose_at i (fun d => { d with freeze := thawed y d.freeze, ff := feedforward s i y })
    (onEntry y.serial i (fun e => { e with ff := feedforward s i y }) (biteProduct i y (biteEntered i y s)))
  rw [← biteFed_eq] at hat
  generalize biteFed i y s = t at *
  refine ⟨(congrArg DemandState.ff hat :), ?_, ?_, ?_, (congrArg DemandState.demand hat :)⟩
  · refine (congrArg DemandState.offset hat :).trans (hoffset.trans ?_)
    rw [biteEntered_demands, upd_same]
  · exact (congrArg DemandState.trim hat :).trans (htrim.trans (biteEntered_carried i y s))
  · exact (congrArg DemandState.freeze hat :).trans (hfreeze.trans (biteEntered_freeze i y s))

theorem biteFed_adds : Adds 3 s (biteFed i y s) := by
  obtain ⟨-, -, -, -, -, hhost, -⟩ := biteEntered_frame i y s
  have hlast : Adds 1 (biteProduct i y (biteEntered i y s)) (biteFed i y s) := by
    rw [biteFed_eq]
    exact Adds.composed i ((onEntry y.serial i (fun e => { e with ff := feedforward s i y })
      (biteProduct i y (biteEntered i y s))).onDemand i _)
  exact (Adds.of_host hhost).trans ((biteProduct_adds i y _).trans hlast)

theorem biteFed_track {older newer : List Cell} (h : RunSound s) (hq : s.track.queue = older ++ y :: newer)
    (hlen : y.entries.length = i.val) : (biteFed i y s).track =
      { s.track with queue := older ++ bittenCell i y s (feedforward s i y) :: newer } := by
  have htrack : (biteProduct i y (biteEntered i y s)).track =
      { s.track with queue := older ++ bittenCell i y s 0 :: newer } := by
    rw [(biteProduct_keeps i y _).1, biteEntered_track i y s h hq]
  have hrun : Consecutive (biteProduct i y (biteEntered i y s)).track.queue
      (biteProduct i y (biteEntered i y s)).track.nextSerial := by
    rw [htrack]
    have hs := h.serials
    rw [hq] at hs
    exact Consecutive.replace hs rfl
  have hcell := onCell_run (c := bittenCell i y s 0) hrun (by rw [htrack]) fun c =>
    { c with entries := c.entries.modify i.val fun e => { e with ff := feedforward s i y } }
  have hentry : (bittenCell i y s 0).entries.modify i.val (fun e => { e with ff := feedforward s i y }) =
      (bittenCell i y s (feedforward s i y)).entries := by
    have hlast : (bittenCell i y s 0).entries[i.val]? = some ⟨s.track.odo[i.succ], 0, 0, 0, none, none, false⟩ := by
      simp only [bittenCell, ← hlen]
      exact List.getElem?_concat_length
    rw [modify_entry _ _ _ _ hlast]
    simp only [bittenCell, ← hlen]
    exact List.set_append_right _ _ (Nat.le_refl _) |>.trans (by simp)
  rw [biteFed_eq, (recompose_demandOnly i _ _).track, onEntry]
  have hser : y.serial = (bittenCell i y s 0).serial := rfl
  rw [hser, hcell, State.onTrack_track, htrack]
  simp only [hentry]
  rfl
end

end Sys2Proof.Machine
end


section
/-! SUPPORT. The older neighbour of a cell, and its mass-flow thickness at a bite (R54, R55, R94 to R96). -/

namespace Sys2Proof.Machine

theorem olderIn_none (l : List Cell) (n : Nat) (h : ∀ x ∈ l.tail, x.serial ≠ n) : olderIn l n = none := by
  induction l with
  | nil => rfl
  | cons x l ih =>
    cases l with
    | nil => rfl
    | cons y rest =>
      have hy : y.serial ≠ n := h y List.mem_cons_self
      rw [olderIn, if_neg hy]
      exact ih fun z hz => h z (List.mem_cons_of_mem y hz)

/-- In a run the cell before the one of a serial is its older neighbour (R26). -/
theorem olderIn_run (older newer : List Cell) (c : Cell) (ho : ∀ x ∈ older, x.serial ≠ c.serial)
    (hn : ∀ x ∈ newer, x.serial ≠ c.serial) : olderIn (older ++ c :: newer) c.serial = older.getLast? := by
  induction older with
  | nil => exact olderIn_none _ _ hn
  | cons x es ih =>
    cases es with
    | nil => exact if_pos rfl
    | cons w es =>
      have hw : w.serial ≠ c.serial := ho w (List.mem_cons_of_mem x List.mem_cons_self)
      have hrest := ih fun z hz => ho z (List.mem_cons_of_mem x hz)
      exact (if_neg hw).trans (hrest.trans List.getLast?_cons_cons.symm)

theorem onEntry_onEntry (n : Nat) (i : Stand) (f g : StandEntry → StandEntry) (s : State) :
    onEntry n i g (onEntry n i f s) = onEntry n i (g ∘ f) s := by
  have hmap : ∀ q : List Cell,
      (q.map fun c => if c.serial = n then { c with entries := c.entries.modify i.val f } else c).map
        (fun c => if c.serial = n then { c with entries := c.entries.modify i.val g } else c) =
      q.map fun c => if c.serial = n then { c with entries := c.entries.modify i.val (g ∘ f) } else c := by
    intro q
    rw [List.map_map]
    refine List.map_congr_left fun c _ => ?_
    by_cases hc : c.serial = n
    · simp only [Function.comp_apply, if_pos hc, List.modify_modify_eq]
    · simp only [Function.comp_apply, if_neg hc]
  exact congrArg (fun q => { s with track := { s.track with queue := q } }) (hmap s.track.queue)

section
variable (i : Stand) (x : Cell) (stamp : Nat) (m : MassFlow) (n : StandEntry) (s : State)

/-- The monitor takes a mass-flow thickness of the cell (R94, R96). -/
def monitorsMass : Prop :=
  s.gauges[i.succ].installed = false ∧ s.stands[i].massFlow = true ∧ m.saturated = false ∧
    s.stands[i].configured = true ∧ s.demands[i].freeze = none ∧ s.store.active[i] = some x.product

/-- The terms of a stand after a monitor update (R95). -/
def monitorTerms (h : Nat) (d : DemandState) : DemandState :=
  { d with trim := clampSym s.stands[i].monLimit (d.trim -
      scaleQ12 (((h : Int) - s.store.table[x.product].hExit[i]) * s.store.table[x.product].kMon[i])) }

theorem formMassFlow_noEntry (h : x.entries[i.val]? = none) : formMassFlow i x stamp s = s := by
  simp only [formMassFlow, h]

variable (hn : x.entries[i.val]? = some n)
include hn

theorem formMassFlow_absent (h : massFlowOf x (stamp - n.stamp) = none) : formMassFlow i x stamp s = s := by
  simp only [formMassFlow, hn, h]

variable (hm : massFlowOf x (stamp - n.stamp) = some m)
include hm

theorem formMassFlow_eq : formMassFlow i x stamp s =
    takeMassFlow i x m (onEntry x.serial i (fun e => { e with hf := some m }) s) := by
  simp only [formMassFlow, hn, hm]

theorem formMassFlow_monitored (h : monitorsMass i x m s) : formMassFlow i x stamp s =
    recompose i (monitorTerms i x s m.value)
      (onEntry x.serial i (fun e => { e with hf := some m, monUsed := true }) s) := by
  obtain ⟨hi, hf, hs, hc, hfr, ha⟩ := h
  have htakes : takeMassFlow i x m (onEntry x.serial i (fun e => { e with hf := some m }) s) =
      monitorUpdate i x m.value (onEntry x.serial i (fun e => { e with hf := some m }) s) :=
    if_pos ⟨by rw [show (onEntry x.serial i (fun e => { e with hf := some m }) s).gauges[zoneAfter i].installed =
      false from hi]; exact nofun, hf, by rw [hs]; exact nofun⟩
  rw [formMassFlow_eq i x stamp m n s hn hm, htakes,
    monitorUpdate_taken i (onEntry x.serial i (fun e => { e with hf := some m }) s) x m.value hc hfr ha,
    onEntry_onEntry]
  rfl

theorem formMassFlow_written (h : ¬ monitorsMass i x m s) : formMassFlow i x stamp s =
    onEntry x.serial i (fun e => { e with hf := some m }) s := by
  rw [formMassFlow_eq i x stamp m n s hn hm]
  by_cases ht : s.gauges[i.succ].installed = false ∧ s.stands[i].massFlow = true ∧ m.saturated = false
  · refine (if_pos ⟨by rw [show (onEntry x.serial i (fun e => { e with hf := some m }) s).gauges[zoneAfter i].installed =
      false from ht.1]; exact nofun, ht.2.1, by rw [ht.2.2]; exact nofun⟩).trans (if_neg ?_)
    rintro ⟨hc, hf, ha⟩
    exact h ⟨ht.1, ht.2.1, ht.2.2, hc, hf, ha⟩
  · refine if_neg ?_
    rintro ⟨hi, hf, hs⟩
    exact ht ⟨Bool.eq_false_iff.mpr hi, hf, Bool.eq_false_iff.mpr hs⟩
end

end Sys2Proof.Machine
end

section
/-! SUPPORT. The share of the older neighbour in a bite (R31, R54). -/

namespace Sys2Proof.Machine

/-- What the older neighbour's share leaves as it was. -/
structure OnlyMass (i : Stand) (s t : State) : Prop where
  stands : t.stands = s.stands
  gauges : t.gauges = s.gauges
  trips : t.trips = s.trips
  mill : t.mill = s.mill
  now : t.now = s.now
  store : t.store = s.store
  others : ∀ j : Stand, j ≠ i → t.demands[j] = s.demands[j] ∧ t.actuators[j] = s.actuators[j]
  ff : t.demands[i].ff = s.demands[i].ff
  offset : t.demands[i].offset = s.demands[i].offset
  freeze : t.demands[i].freeze = s.demands[i].freeze
  demand : s.demands[i].demand = demandOf s i → t.demands[i].demand = demandOf t i
  adds : Adds 1 s t

theorem onlyMass_refl (i : Stand) (s : State) : OnlyMass i s s :=
  ⟨rfl, rfl, rfl, rfl, rfl, rfl, fun _ _ => ⟨rfl, rfl⟩, rfl, rfl, rfl, id, (Adds.of_host rfl).mono (Nat.zero_le 1)⟩

theorem onlyMass_entry (i : Stand) (n : Nat) (f : StandEntry → StandEntry) (s : State) :
    OnlyMass i s (onEntry n i f s) :=
  ⟨rfl, rfl, rfl, rfl, rfl, rfl, fun _ _ => ⟨rfl, rfl⟩, rfl, rfl, rfl, id, (Adds.of_host rfl).mono (Nat.zero_le 1)⟩

theorem onlyMass_monitor (i : Stand) (x : Cell) (v n : Nat) (f : StandEntry → StandEntry) (s : State) :
    OnlyMass i s (recompose i (monitorTerms i x s v) (onEntry n i f s)) := by
  obtain ⟨lim, hat⟩ := recompose_at i (monitorTerms i x s v) (onEntry n i f s)
  have hkept := recompose_demandOnly i (monitorTerms i x s v) (onEntry n i f s)
  refine ⟨hkept.stands, by simp [recompose], hkept.trips, by simp [recompose], by simp [recompose], hkept.store,
    recompose_others i _ _, ?_, ?_, ?_, fun _ => ?_, Adds.composed i ((onEntry n i f s).onDemand i _)⟩
  · exact (congrArg DemandState.ff hat :)
  · exact (congrArg DemandState.offset hat :)
  · exact (congrArg DemandState.freeze hat :)
  · exact (congrArg DemandState.demand hat :)

end Sys2Proof.Machine
end


section
/-! SUPPORT. A bite before THREADING_DONE (R31). -/

namespace Sys2Proof.Machine

section
variable (i : Stand) (y : Cell) (s : State)

/-- The state of a bite after the older neighbour's share (R31). -/
def biteHanded : State :=
  match olderIn (biteFed i y s).track.queue y.serial with
  | some x => formMassFlow i x s.track.odo[i.succ] (biteFed i y s)
  | none => biteFed i y s

theorem bite_threads : bite i y s = threadingDone i y (biteHanded i y s) := rfl

/-- The monitor takes the older neighbour's mass-flow thickness at the bite (R94, R96). -/
def monitorsOlder (x : Cell) (m : MassFlow) : Prop :=
  s.gauges[i.succ].installed = false ∧ s.stands[i].massFlow = true ∧ m.saturated = false ∧
    s.stands[i].configured = true ∧ frozenAfter i y s = none ∧ x.product = y.product

/-- The trim after a monitor update with the older neighbour's mass-flow thickness (R95). -/
def monitoredTrim (m : MassFlow) : Int :=
  clampSym s.stands[i].monLimit (carriedTrim i y s -
    scaleQ12 (((m.value : Int) - s.store.table[y.product].hExit[i]) * s.store.table[y.product].kMon[i]))

/-- What a bite leaves of the older neighbour `x`, and of the trim (R54, R95). -/
def MassShare (x x' : Cell) (trim : Int) : Prop :=
  (x.entries[i.val]? = none → x' = x ∧ trim = carriedTrim i y s) ∧
  ∀ n : StandEntry, x.entries[i.val]? = some n →
    (massFlowOf x (s.track.odo[i.succ] - n.stamp) = none → x' = x ∧ trim = carriedTrim i y s) ∧
    ∀ m : MassFlow, massFlowOf x (s.track.odo[i.succ] - n.stamp) = some m →
      (monitorsOlder i y s x m → x' = { x with entries := x.entries.set i.val { n with hf := some m, monUsed := true } } ∧
        trim = monitoredTrim i y s m) ∧
      (¬ monitorsOlder i y s x m → x' = { x with entries := x.entries.set i.val { n with hf := some m } } ∧
        trim = carriedTrim i y s)

theorem massShare_some (x x' : Cell) (trim : Int) (n : StandEntry) (m : MassFlow) (hn : x.entries[i.val]? = some n)
    (hm : massFlowOf x (s.track.odo[i.succ] - n.stamp) = some m)
    (hyes : monitorsOlder i y s x m →
      x' = { x with entries := x.entries.set i.val { n with hf := some m, monUsed := true } } ∧
        trim = monitoredTrim i y s m)
    (hno : ¬ monitorsOlder i y s x m → x' = { x with entries := x.entries.set i.val { n with hf := some m } } ∧
      trim = carriedTrim i y s) : MassShare i y s x x' trim := by
  refine ⟨fun e => absurd (e.symm.trans hn) nofun, fun k hk => ?_⟩
  obtain rfl : k = n := Option.some_inj.mp (hk.symm.trans hn)
  refine ⟨fun e => absurd (e.symm.trans hm) nofun, fun l hl => ?_⟩
  obtain rfl : l = m := Option.some_inj.mp (hl.symm.trans hm)
  exact ⟨hyes, hno⟩

theorem monitorsMass_iff (x : Cell) (m : MassFlow) :
    monitorsMass i x m (biteFed i y s) ↔ monitorsOlder i y s x m := by
  obtain ⟨hstands, hgauges, -⟩ := biteFed_keeps i y s
  obtain ⟨-, -, -, hfreeze, -⟩ := biteFed_demand i y s
  have hactive : (biteFed i y s).store.active[i] = some y.product := by
    rw [biteFed_store]
    exact upd_same _ _ _
  unfold monitorsMass monitorsOlder
  rw [hgauges, hstands, hfreeze, hactive, Option.some_inj, eq_comm (a := y.product)]

theorem formMassFlow_onlyMass (x : Cell) (stamp : Nat) : OnlyMass i s (formMassFlow i x stamp s) := by
  cases hn : x.entries[i.val]? with
  | none =>
    rw [formMassFlow_noEntry i x stamp s hn]
    exact onlyMass_refl i s
  | some n =>
    cases hm : massFlowOf x (stamp - n.stamp) with
    | none =>
      rw [formMassFlow_absent i x stamp n s hn hm]
      exact onlyMass_refl i s
    | some m =>
      by_cases h : monitorsMass i x m s
      · rw [formMassFlow_monitored i x stamp m n s hn hm h]
        exact onlyMass_monitor i x _ _ _ s
      · rw [formMassFlow_written i x stamp m n s hn hm h]
        exact onlyMass_entry i _ _ s

theorem biteHanded_onlyMass : OnlyMass i (biteFed i y s) (biteHanded i y s) := by
  unfold biteHanded
  split
  · exact formMassFlow_onlyMass i _ _ _
  · exact onlyMass_refl i _

section
variable {older newer : List Cell} (h : RunSound s) (hq : s.track.queue = older ++ y :: newer)
include h hq

theorem biteFed_consecutive : Consecutive (older ++ bittenCell i y s (feedforward s i y) :: newer) s.track.nextSerial := by
  have hs := h.serials
  rw [hq] at hs
  exact Consecutive.replace hs rfl

variable (hlen : y.entries.length = i.val)
include hlen

theorem olderIn_biteFed : olderIn (biteFed i y s).track.queue y.serial = older.getLast? := by
  obtain ⟨ho, hn⟩ := (biteFed_consecutive i y s h hq).others rfl
  rw [biteFed_track i y s h hq hlen]
  exact olderIn_run older newer (bittenCell i y s (feedforward s i y)) ho hn

theorem biteHanded_first (ho : older = []) : biteHanded i y s = biteFed i y s := by
  have hnone := olderIn_biteFed i y s h hq hlen
  rw [ho] at hnone
  simp only [biteHanded, hnone, List.getLast?_nil]

theorem biteHanded_later (es : List Cell) (x : Cell) (ho : older = es ++ [x]) :
    biteHanded i y s = formMassFlow i x s.track.odo[i.succ] (biteFed i y s) := by
  have hsome := olderIn_biteFed i y s h hq hlen
  rw [ho, List.getLast?_concat] at hsome
  simp only [biteHanded, hsome]

/-- A change of the older neighbour's entry at the stand (R28). -/
theorem onEntry_older (es : List Cell) (x : Cell) (ho : older = es ++ [x]) (n : StandEntry)
    (hn : x.entries[i.val]? = some n) (f : StandEntry → StandEntry) :
    (onEntry x.serial i f (biteFed i y s)).track = { s.track with
      queue := (es ++ [{ x with entries := x.entries.set i.val (f n) }]) ++
        bittenCell i y s (feedforward s i y) :: newer } := by
  have htrack := biteFed_track i y s h hq hlen
  have hrun := biteFed_consecutive i y s h hq
  have hsplit : older ++ bittenCell i y s (feedforward s i y) :: newer =
      es ++ x :: bittenCell i y s (feedforward s i y) :: newer := by
    rw [ho, List.append_assoc, List.singleton_append]
  have hcell := onCell_run (s := biteFed i y s) (older := es) (c := x) (by rw [htrack]; exact hrun)
    (by rw [htrack, hsplit]) fun c => { c with entries := c.entries.modify i.val f }
  rw [onEntry, hcell, State.onTrack_track, htrack, modify_entry _ _ n _ hn]
  simp only [List.append_assoc, List.singleton_append]

theorem biteHanded_share (es : List Cell) (x : Cell) (ho : older = es ++ [x]) : ∃ x' : Cell,
    (biteHanded i y s).track =
      { s.track with queue := (es ++ [x']) ++ bittenCell i y s (feedforward s i y) :: newer } ∧
    MassShare i y s x x' (biteHanded i y s).demands[i].trim := by
  have hhand := biteHanded_later i y s h hq hlen es x ho
  have htrack := biteFed_track i y s h hq hlen
  rw [ho] at htrack
  obtain ⟨-, -, htrim, -⟩ := biteFed_demand i y s
  cases hn : x.entries[i.val]? with
  | none =>
    rw [hhand, formMassFlow_noEntry i x _ _ hn]
    refine ⟨x, htrack, fun _ => ⟨rfl, htrim⟩, fun n hn' => ?_⟩
    exact absurd (hn.symm.trans hn') nofun
  | some n =>
    cases hm : massFlowOf x (s.track.odo[i.succ] - n.stamp) with
    | none =>
      rw [hhand, formMassFlow_absent i x _ n _ hn hm]
      refine ⟨x, htrack, fun _ => ⟨rfl, htrim⟩, fun k hk => ?_⟩
      obtain rfl : k = n := Option.some_inj.mp (hk.symm.trans hn)
      exact ⟨fun _ => ⟨rfl, htrim⟩, fun m hm' => absurd (hm.symm.trans hm') nofun⟩
    | some m =>
      by_cases hmon : monitorsOlder i y s x m
      · have hstate := formMassFlow_monitored i x _ m n (biteFed i y s) hn hm ((monitorsMass_iff i y s x m).mpr hmon)
        refine ⟨{ x with entries := x.entries.set i.val { n with hf := some m, monUsed := true } }, ?_,
          massShare_some i y s x _ _ n m hn hm (fun _ => ⟨rfl, ?_⟩) (fun hno => absurd hmon hno)⟩
        · rw [hhand, hstate, (recompose_demandOnly i _ _).track]
          exact onEntry_older i y s h hq hlen es x ho n hn _
        · obtain ⟨lim, hat⟩ := recompose_at i (monitorTerms i x (biteFed i y s) m.value)
            (onEntry x.serial i (fun e => { e with hf := some m, monUsed := true }) (biteFed i y s))
          obtain ⟨hstands, -⟩ := biteFed_keeps i y s
          obtain ⟨-, -, -, -, -, hproduct⟩ := hmon
          rw [hhand, hstate]
          refine (congrArg DemandState.trim hat :).trans ?_
          change clampSym (biteFed i y s).stands[i].monLimit ((biteFed i y s).demands[i].trim -
            scaleQ12 (((m.value : Int) - (biteFed i y s).store.table[x.product].hExit[i]) *
              (biteFed i y s).store.table[x.product].kMon[i])) = monitoredTrim i y s m
          simp only [hstands, htrim, biteFed_store, hproduct]
          rfl
      · have hstate := formMassFlow_written i x _ m n (biteFed i y s) hn hm
          (fun e => hmon ((monitorsMass_iff i y s x m).mp e))
        refine ⟨{ x with entries := x.entries.set i.val { n with hf := some m } }, ?_,
          massShare_some i y s x _ _ n m hn hm (fun e => absurd e hmon) (fun _ => ⟨rfl, ?_⟩)⟩
        · rw [hhand, hstate]
          exact onEntry_older i y s h hq hlen es x ho n hn _
        · rw [hhand, hstate]
          exact htrim
end
end

end Sys2Proof.Machine
end


section
/-! SUPPORT. A whole bite (R30, R31, R34). -/

namespace Sys2Proof.Machine

section
variable (i : Stand) (y : Cell) (s : State)

/-- The head-end cell bites the last stand of the mill while THREADING (R34). -/
def threads : Prop := s.track.mode = .threading ∧ y.headEnd = true ∧ i.val + 1 = s.mill.n

theorem threadingDone_not (h : ¬ threads i y s) : threadingDone i y s = s := if_neg h

theorem threadingDone_done (h : threads i y s) : threadingDone i y s =
    raise .threadingDone (.stand i) (some y.serial) s.track.queue.length
      (s.onTrack fun t => { t with mode := .running }) := if_pos h

theorem threadingDone_keeps : (threadingDone i y s).stands = s.stands ∧ (threadingDone i y s).store = s.store ∧
    (threadingDone i y s).demands = s.demands ∧ (threadingDone i y s).actuators = s.actuators ∧
    (threadingDone i y s).gauges = s.gauges ∧ (threadingDone i y s).trips = s.trips := by
  unfold threadingDone
  split <;> simp

theorem threadingDone_track (m : TrackMode) (hrun : threads i y s → m = .running)
    (hstay : ¬ threads i y s → m = s.track.mode) :
    (threadingDone i y s).track = { s.track with mode := m } := by
  by_cases h : threads i y s
  · rw [threadingDone_done i y s h, hrun h]
    simp
  · rw [threadingDone_not i y s h, hstay h]

theorem threadingDone_adds : Adds 1 s (threadingDone i y s) := by
  by_cases h : threads i y s
  · rw [threadingDone_done i y s h]
    exact (Adds.of_host rfl).trans (Adds.raised _ _ _ _ _)
  · rw [threadingDone_not i y s h]
    exact (Adds.of_host rfl).mono (Nat.zero_le 1)
end

section
variable (i : Stand) (y : Cell) (s : State)

/-- What a bite keeps (R30, R31). -/
theorem bite_keeps : (bite i y s).gauges = s.gauges ∧ (bite i y s).trips = s.trips ∧
    (bite i y s).stands = s.stands ∧
    ∀ j : Stand, j ≠ i → (bite i y s).demands[j] = s.demands[j] ∧ (bite i y s).actuators[j] = s.actuators[j] := by
  refine ⟨by simp, by simp, by simp, fun j hj => ?_⟩
  obtain ⟨-, -, hd, ha, -⟩ := threadingDone_keeps i y (biteHanded i y s)
  obtain ⟨-, -, -, -, -, hfed⟩ := biteFed_keeps i y s
  obtain ⟨hfd, hfa⟩ := hfed j hj
  obtain ⟨hmd, hma⟩ := (biteHanded_onlyMass i y s).others j hj
  rw [bite_threads, hd, ha]
  exact ⟨hmd.trans hfd, hma.trans hfa⟩

theorem bite_store : (bite i y s).store = { s.store with active := s.store.active.set i.val (some y.product) } := by
  obtain ⟨-, hstore, -⟩ := threadingDone_keeps i y (biteHanded i y s)
  rw [bite_threads, hstore, (biteHanded_onlyMass i y s).store, biteFed_store]
  rfl

/-- The terms and the demand a bite leaves, beside the trim (R89, R93, R98). -/
theorem bite_demand : (bite i y s).demands[i].ff = feedforward s i y ∧
    (bite i y s).demands[i].offset = s.demands[i].offset ∧
    (bite i y s).demands[i].freeze = frozenAfter i y s ∧
    (bite i y s).demands[i].demand = demandOf (bite i y s) i := by
  obtain ⟨hstands, hstore, hd, -⟩ := threadingDone_keeps i y (biteHanded i y s)
  have hmass := biteHanded_onlyMass i y s
  obtain ⟨hff, hoffset, -, hfreeze, hdemand⟩ := biteFed_demand i y s
  rw [bite_threads, hd]
  refine ⟨hmass.ff.trans hff, hmass.offset.trans hoffset, hmass.freeze.trans hfreeze, ?_⟩
  rw [hmass.demand hdemand]
  exact (demandOf_congr _ _ i hstands hstore (by rw [hd]) (by rw [hd]) (by rw [hd])).symm

theorem biteHanded_adds : Adds 4 s (biteHanded i y s) := (biteFed_adds i y s).trans (biteHanded_onlyMass i y s).adds

/-- WELD_AT_STAND is raised at the bite of a cell of another product (R82). -/
theorem bite_weldAtStand (hroom : s.host.events.length ≤ 43) (h : s.store.active[i] ≠ some y.product) :
    (⟨.weldAtStand, .stand i, some y.serial, BitVec.ofNat 32 y.product.val, s.now⟩ : Event) ∈ (bite i y s).host.events := by
  obtain ⟨-, hstore, -, -, -, hhost, hnow, -⟩ := biteEntered_frame i y s
  obtain ⟨-, -, hlast, -⟩ := biteProduct_switched (biteEntered i y s) i y (by rw [hstore]; exact h)
  have hraised := List.mem_of_getLast? (hlast (by rw [hhost]; omega))
  rw [hnow] at hraised
  have hproduct := biteProduct_adds i y (biteEntered i y s)
  have hfed : Adds 1 (biteProduct i y (biteEntered i y s)) (biteFed i y s) := by
    rw [biteFed_eq]
    exact Adds.composed i ((onEntry y.serial i (fun e => { e with ff := feedforward s i y })
      (biteProduct i y (biteEntered i y s))).onDemand i _)
  obtain ⟨l, hl, hevents⟩ := hproduct (by rw [hhost]; omega)
  refine ((hfed.trans (biteHanded_onlyMass i y s).adds).trans (threadingDone_adds i y _)).mem ?_ hraised
  rw [hevents, List.length_append, hhost]
  omega
end

section
variable (i : Stand) (y : Cell) (s : State) {older newer : List Cell} (h : RunSound s)
  (hq : s.track.queue = older ++ y :: newer) (hlen : y.entries.length = i.val)
include h hq hlen

/-- The strip after a bite (R30, R31, R54). -/
theorem bite_strip : ∃ head : List Cell, head.length = older.length ∧
    (biteHanded i y s).track =
      { s.track with queue := head ++ bittenCell i y s (feedforward s i y) :: newer } ∧
    ∀ (es : List Cell) (x : Cell), older = es ++ [x] → ∃ x' : Cell, head = es ++ [x'] ∧
      MassShare i y s x x' (biteHanded i y s).demands[i].trim := by
  obtain rfl | ⟨es, x, rfl⟩ := List.eq_nil_or_concat' older
  · refine ⟨[], rfl, ?_, fun es x he => absurd he (by simp)⟩
    rw [biteHanded_first i y s h hq hlen rfl, biteFed_track i y s h hq hlen]
  · obtain ⟨x', htrack, hshare⟩ := biteHanded_share i y s h hq hlen es x (by simp)
    refine ⟨es ++ [x'], by simp, htrack, fun fs z he => ?_⟩
    obtain ⟨hes, hx⟩ := List.append_inj' he rfl
    obtain ⟨rfl, rfl⟩ : es = fs ∧ x = z := ⟨hes, by simpa using hx⟩
    exact ⟨x', rfl, hshare⟩

theorem bite_queue_length : (biteHanded i y s).track.queue.length = s.track.queue.length := by
  obtain ⟨head, hl, htrack, -⟩ := bite_strip i y s h hq hlen
  rw [htrack, hq]
  simp [hl]

theorem threads_biteHanded : threads i y (biteHanded i y s) ↔ threads i y s := by
  obtain ⟨head, -, htrack, -⟩ := bite_strip i y s h hq hlen
  have hmill : (biteHanded i y s).mill = s.mill := by
    rw [(biteHanded_onlyMass i y s).mill, (biteFed_keeps i y s).2.2.2.1]
  unfold threads
  rw [htrack, hmill]

/-- THREADING_DONE, with the number of cells, where the head end bites stand N (R34, R43). -/
theorem bite_threadingDone (hroom : s.host.events.length ≤ 43) (ht : threads i y s) :
    (bite i y s).host.events.getLast? = some
      ⟨.threadingDone, .stand i, some y.serial, BitVec.ofNat 32 s.track.queue.length, s.now⟩ := by
  obtain ⟨l, hl, hevents⟩ := biteHanded_adds i y s (by omega)
  obtain ⟨-, -, -, -, hnow, -⟩ := biteFed_keeps i y s
  rw [bite_threads, threadingDone_done i y _ ((threads_biteHanded i y s h hq hlen).mpr ht),
    bite_queue_length i y s h hq hlen, raise_room, BitVec.ofInt_natCast]
  · rw [State.onTrack_now, (biteHanded_onlyMass i y s).now, hnow]
    exact List.getLast?_concat
  · rw [State.onTrack_host, hevents, List.length_append]
    omega
end

section
variable (i : Stand) (s : State)

/-- The oldest cell that waits at the stand (R30). -/
def firstWaiting (y : Cell) : Prop := ∃ older newer : List Cell,
  s.track.queue = older ++ y :: newer ∧ y.entries.length = i.val ∧ ∀ c ∈ older, c.entries.length ≠ i.val

theorem find_waiting (y : Cell) : s.track.queue.find? (fun c => waitsAt c (zoneBefore i)) = some y ↔
    firstWaiting i s y := by
  have hwaits : ∀ c : Cell, waitsAt c (zoneBefore i) = decide (c.entries.length = i.val) := fun _ => rfl
  simp only [hwaits, List.find?_eq_some_iff_append, firstWaiting]
  constructor
  · rintro ⟨hy, older, newer, hq, ho⟩
    exact ⟨older, newer, hq, by simpa using hy, fun c hc => by simpa using ho c hc⟩
  · rintro ⟨older, newer, hq, hy, ho⟩
    exact ⟨by simpa using hy, older, newer, hq, fun c hc => by simpa using ho c hc⟩

/-- The cell does not bite at its distance yet, or waits for its confirmation (R30). -/
def staysBefore (y : Cell) : Prop := (y.headEnd = true ∧ s.track.mode = .threading) ∨
  ∃ e, stampOf y i.val = some e ∧ s.track.odo[zoneBefore i] - e < s.mill.dist[zoneBefore i]

/-- A cell that waits at a stand holds the stamp of the zone before it (R29). -/
theorem stampOf_waiting (y : Cell) (h : y.entries.length = i.val) : ∃ e, stampOf y i.val = some e := by
  rw [← h]
  cases hn : y.entries.length with
  | zero => exact ⟨y.e0, rfl⟩
  | succ j =>
    have hj : j < y.entries.length := by omega
    exact ⟨y.entries[j].stamp, by simp [stampOf, List.getElem?_eq_getElem hj]⟩

theorem staysBefore_iff (y : Cell) (h : y.entries.length = i.val) : staysBefore i s y ↔
    (y.headEnd = true ∧ s.track.mode = .threading) ∨
      ¬ s.mill.dist[zoneBefore i] ≤ distanceIn s y (zoneBefore i) := by
  obtain ⟨e, he⟩ := stampOf_waiting i y h
  have hdist : distanceIn s y (zoneBefore i) = s.track.odo[zoneBefore i] - e := by
    have hz : stampOf y (zoneBefore i).val = some e := he
    simp only [distanceIn, hz]
  rw [hdist, Nat.not_le, staysBefore, he]
  simp only [Option.some_inj, exists_eq_left']

theorem biteLoop_idle (fuel : Nat) (h : ∀ y, firstWaiting i s y → staysBefore i s y) : biteLoop i fuel s = s := by
  cases fuel with
  | zero => rfl
  | succ fuel =>
    rw [biteLoop]
    cases hf : s.track.queue.find? (fun c => waitsAt c (zoneBefore i)) with
    | none => rfl
    | some y =>
      have hy := (find_waiting i s y).mp hf
      obtain ⟨older, newer, hq, hlen, ho⟩ := id hy
      have hstay := (staysBefore_iff i s y hlen).mp (h y hy)
      dsimp only
      by_cases hhead : y.headEnd = true ∧ s.track.mode = .threading
      · rw [if_pos hhead]
      · rw [if_neg hhead, if_neg (hstay.resolve_left hhead)]

theorem biteLoop_bites (fuel : Nat) (y : Cell) (hy : firstWaiting i s y) (hgo : ¬ staysBefore i s y) :
    biteLoop i (fuel + 1) s = biteLoop i fuel (bite i y s) := by
  have hf := (find_waiting i s y).mpr hy
  obtain ⟨older, newer, hq, hlen, ho⟩ := hy
  rw [staysBefore_iff i s y hlen, not_or, not_not] at hgo
  rw [biteLoop, hf]
  exact (if_neg hgo.1).trans (if_pos hgo.2)

/-- The number of cells that wait at the stand. -/
def waiting : Nat := s.track.queue.countP fun c => decide (c.entries.length = i.val)

theorem firstWaiting_pos (y : Cell) (hy : firstWaiting i s y) : 0 < waiting i s := by
  obtain ⟨older, newer, hq, hlen, -⟩ := hy
  rw [waiting, List.countP_pos_iff]
  exact ⟨y, by rw [hq]; simp, by simpa using hlen⟩
end

end Sys2Proof.Machine
end

section
/-! SUPPORT. The bites of a step end (R30). -/

namespace Sys2Proof.Machine

section
variable (i : Stand) (s : State)

/-- The older neighbour's share changes the number of no cell's bites. -/
theorem massShare_length (y x x' : Cell) (trim : Int) (h : MassShare i y s x x' trim) :
    x'.entries.length = x.entries.length := by
  obtain ⟨hnone, hsome⟩ := h
  cases hn : x.entries[i.val]? with
  | none => rw [(hnone hn).1]
  | some n =>
    obtain ⟨habsent, hmass⟩ := hsome n hn
    cases hm : massFlowOf x (s.track.odo[i.succ] - n.stamp) with
    | none => rw [(habsent hm).1]
    | some m =>
      obtain ⟨hyes, hno⟩ := hmass m hm
      by_cases hmon : monitorsOlder i y s x m
      · rw [(hyes hmon).1]
        exact List.length_set
      · rw [(hno hmon).1]
        exact List.length_set

section
variable (y : Cell) {older newer : List Cell} (h : RunSound s) (hq : s.track.queue = older ++ y :: newer)
  (hlen : y.entries.length = i.val)
include h hq hlen

/-- A bite adds one entry to its cell, and none to another (R30). -/
theorem bite_lengths : (bite i y s).track.queue.map (·.entries.length) =
    older.map (·.entries.length) ++ (i.val + 1) :: newer.map (·.entries.length) := by
  obtain ⟨head, hl, htrack, hshare⟩ := bite_strip i y s h hq hlen
  have hqueue : (bite i y s).track.queue = (biteHanded i y s).track.queue := by
    rw [bite_threads, threadingDone]
    split <;> simp
  have hhead : head.map (·.entries.length) = older.map (·.entries.length) := by
    obtain rfl | ⟨es, x, rfl⟩ := List.eq_nil_or_concat' older
    · rw [List.length_eq_zero_iff.mp hl]
    · obtain ⟨x', rfl, hx⟩ := hshare es x rfl
      simp [massShare_length i s y x x' _ hx]
  rw [hqueue, htrack]
  simp [hhead, bittenCell, hlen]

theorem bite_waiting : waiting i (bite i y s) + 1 = waiting i s := by
  have hcount : ∀ u : State, waiting i u = (u.track.queue.map (·.entries.length)).countP (fun n => decide (n = i.val)) :=
    fun u => by
      rw [waiting, List.countP_map]
      rfl
  rw [hcount, hcount, bite_lengths i s y h hq hlen, hq]
  simp [List.countP_append, hlen]
  omega
end

theorem runSound_bite (y : Cell) (h : RunSound s) (hy : y ∈ s.track.queue) : RunSound (bite i y s) := by
  have htracking : Tracking s := fun hm => by
    obtain ⟨-, hempty, -⟩ := h.stopped hm
    rw [hempty] at hy
    cases hy
  exact (runSound_stripKeep.live_bite i y s ⟨y, hy, rfl⟩ ⟨h, htracking⟩).1

theorem biteLoop_ends (fuel : Nat) (h : RunSound s) (hfuel : waiting i s ≤ fuel) (y : Cell)
    (hy : firstWaiting i (biteLoop i fuel s) y) : staysBefore i (biteLoop i fuel s) y := by
  induction fuel generalizing s with
  | zero =>
    have := firstWaiting_pos i s y hy
    omega
  | succ fuel ih =>
    by_cases hall : ∀ y, firstWaiting i s y → staysBefore i s y
    · rw [biteLoop_idle i s _ hall] at hy ⊢
      exact hall y hy
    · simp only [not_forall] at hall
      obtain ⟨x, hx, hgo⟩ := hall
      rw [biteLoop_bites i s fuel x hx hgo] at hy ⊢
      obtain ⟨older, newer, hq, hlen, -⟩ := hx
      have hless := bite_waiting i s x h hq hlen
      exact ih _ (runSound_bite i s x h (by rw [hq]; simp)) (by omega) hy
end

end Sys2Proof.Machine
end


section
/-! SUPPORT. The head end's confirmation and its cobble (R33, R35). -/

namespace Sys2Proof.Machine

section
variable (i : Stand) (s : State)

theorem headEndCell_some (older newer : List Cell) (y : Cell) (hq : s.track.queue = older ++ y :: newer)
    (hy : y.headEnd = true) (ho : ∀ c ∈ older, c.headEnd = false) : headEndCell s = some y := by
  rw [headEndCell, List.find?_eq_some_iff_append]
  exact ⟨hy, older, newer, hq, fun c hc => by rw [ho c hc]; rfl⟩

theorem headEndCell_none (h : ∀ c ∈ s.track.queue, c.headEnd = false) : headEndCell s = none := by
  rw [headEndCell, List.find?_eq_none]
  exact fun c hc => by rw [h c hc]; exact nofun

section
variable (force : Nat) (y : Cell) (hy : headEndCell s = some y)
include hy

theorem confirmHead_eq : confirmHead i force s =
    if (s.track.mode = .threading ∧ s.stands[i].biteForce ≤ force) ∧ waitsAt y (zoneBefore i) = true ∧
        s.mill.dist[zoneBefore i] - s.mill.biteAllowance ≤ distanceIn s y (zoneBefore i) ∧ s.track.cobble ≠ some i
    then bite i y s else s := by
  unfold confirmHead
  rw [hy]
  by_cases h : s.track.mode = .threading ∧ s.stands[i].biteForce ≤ force
  · rw [if_pos h]
    exact if_congr (by rw [and_iff_right h]) rfl rfl
  · rw [if_neg h, if_neg fun e => h e.1]

theorem cobbleCheck_eq : cobbleCheck i s =
    if s.track.mode = .threading ∧ waitsAt y (zoneBefore i) = true ∧ s.track.cobble = none ∧
        s.mill.dist[zoneBefore i] + s.mill.biteAllowance < distanceIn s y (zoneBefore i)
    then raiseTrip (.cobble i) y.serial (s.onTrack fun t => { t with cobble := some i }) else s := by
  unfold cobbleCheck
  rw [hy]
end

theorem confirmHead_none (force : Nat) (hy : headEndCell s = none) : confirmHead i force s = s := by
  unfold confirmHead
  rw [hy]
  exact ite_self s

theorem cobbleCheck_none (hy : headEndCell s = none) : cobbleCheck i s = s := by
  unfold cobbleCheck
  rw [hy]

theorem waitsAt_iff (y : Cell) : waitsAt y (zoneBefore i) = true ↔ y.entries.length = i.val := decide_eq_true_iff

theorem distanceIn_stamp (y : Cell) (e : Nat) (he : stampOf y i.val = some e) :
    distanceIn s y (zoneBefore i) = s.track.odo[zoneBefore i] - e := by
  have hz : stampOf y (zoneBefore i).val = some e := he
  simp only [distanceIn, hz]
end

/-- The freeze after a bite, read off the freeze before it (R97, R98). -/
theorem frozenAfter_eq (i : Stand) (y : Cell) (s : State) : frozenAfter i y s =
    if y.weld = true ∧ y.approach < i.val + 1 then none else match s.demands[i].freeze with
      | none => none
      | some n => if y.weld = true ∧ n ≤ y.serial then none else some n := by
  unfold frozenAfter
  refine if_congr Iff.rfl rfl ?_
  cases s.demands[i].freeze with
  | none => rfl
  | some n => exact thawed_some y n

end Sys2Proof.Machine
end

section
/-! The statement about bites. -/

open Sys2Proof Sys2Proof.Machine

/-- Settles O37: the closed form of a bite, the loop's end, and the window of the head end. -/
theorem biteIsHandedOn : Obligations.BiteIsHandedOn := by
  unfold Obligations.BiteIsHandedOn
  refine ⟨fun i s older newer y h hq hlen => ?_, fun i s h => ?_, fun i s force older newer y e hq hy ho => ?_,
    fun i s force => ⟨rfl, fun hno => ⟨confirmHead_none i s force (headEndCell_none s hno),
      cobbleCheck_none i s (headEndCell_none s hno)⟩⟩⟩
  · intro t stamp signalled frozen carried monitors
    have hfrozen : frozenAfter i y s = frozen := frozenAfter_eq i y s
    obtain ⟨head, hl, htrack, hshare⟩ := bite_strip i y s h hq hlen
    obtain ⟨hgauges, htrips, hstands, hothers⟩ := bite_keeps i y s
    obtain ⟨hff, hoffset, hfreeze, hdemand⟩ := bite_demand i y s
    have hhanded : t.demands = (biteHanded i y s).demands := (threadingDone_keeps i y _).2.2.1
    have hmode := threadingDone_track i y (biteHanded i y s)
      (if s.track.mode = .threading ∧ y.headEnd = true ∧ i.val + 1 = s.mill.n then .running else s.track.mode)
      (fun ht => if_pos ((threads_biteHanded i y s h hq hlen).mp ht))
      (fun ht => (if_neg fun e => ht ((threads_biteHanded i y s h hq hlen).mpr e)).trans (by rw [htrack]))
    rw [← bite_threads, htrack] at hmode
    have htt : t.track = _ := hmode
    refine ⟨fun hnil => ?_, ⟨head, hl, by rw [htt]; rfl, fun es x he => ?_⟩, bite_store i y s, hff, hoffset,
      hfreeze.trans hfrozen, ?_, ?_, hothers, by rw [htt], by rw [htt], by rw [htt], by rw [htt], hgauges, htrips⟩
    · rw [hhanded, biteHanded_first i y s h hq hlen hnil]
      exact (biteFed_demand i y s).2.2.1
    · obtain ⟨x', hx', hnone, hsome⟩ := hshare es x he
      rw [hhanded]
      have hmon : ∀ m, monitorsOlder i y s x m ↔ monitors x m := fun m => by
        rw [monitorsOlder, hfrozen]
      refine ⟨x', hx', hnone, fun n hn => ⟨(hsome n hn).1, fun m hm => ?_⟩⟩
      obtain ⟨hyes, hno⟩ := (hsome n hn).2 m hm
      rw [← hmon]
      exact ⟨hyes, hno⟩
    · have hactive : (bite i y s).store.active[i] = some y.product := by
        rw [bite_store]
        exact upd_same s.store.active i fun _ => some y.product
      refine hdemand.trans ?_
      rw [demandOf, hactive, hstands]
      simp only [demandSum, bite_store]
      rfl
    · intro threaded
      exact ⟨by rw [htt], fun hroom => ⟨bite_weldAtStand i y s hroom, bite_threadingDone i y s h hq hlen hroom⟩⟩
  · intro z t first stays
    refine ⟨fun y hy => ?_, fun hall => biteLoop_idle i s _ hall, fun y hy hgo k => biteLoop_bites i s k y hy hgo⟩
    exact biteLoop_ends i s _ h List.countP_le_length y hy
  · intro z inWindow beyond he
    have hhead := headEndCell_some s older newer y hq hy ho
    have hconfirm := confirmHead_eq i s force y hhead
    have hcobble := cobbleCheck_eq i s y hhead
    simp only [waitsAt_iff, distanceIn_stamp i s y e he] at hconfirm hcobble
    have hwindow : inWindow ↔ (s.track.mode = .threading ∧ s.stands[i].biteForce ≤ force) ∧
        y.entries.length = i.val ∧ s.mill.dist[zoneBefore i] - s.mill.biteAllowance ≤ s.track.odo[zoneBefore i] - e ∧
        s.track.cobble ≠ some i := by
      simp only [inWindow, and_assoc]
      rw [Nat.sub_le_iff_le_add]
    refine ⟨fun hin => hconfirm.trans (if_pos (hwindow.mp hin)), fun hout => hconfirm.trans (if_neg fun hc => hout
      (hwindow.mpr hc)), fun hb => hcobble.trans (if_pos hb), fun hb => hcobble.trans (if_neg hb)⟩

end


section
/-! SUPPORT. The closure of the forming cell and the freed record (R21, R22, R25). -/

namespace Sys2Proof.Machine

section
variable (s : State) (f : FormingCell) (hf : s.track.forming = some f)
include hf

theorem closeStep_short (h : formingLength s f < s.mill.ql) : closeStep s = s := by
  simp only [closeStep, hf, if_pos h]

theorem closeStep_closes (h : s.mill.ql ≤ formingLength s f) (hfree : s.track.queue.length < 256) :
    closeStep s = s.onTrack (closedTrack f (formingLength s f)
      (freshForming s.track.odo[(0 : Fin 6)] f.coil f.product)) := by
  have hrec : recordFree s = true := decide_eq_true hfree
  simp only [closeStep, hf, if_neg (Nat.not_lt.mpr h), if_pos hrec, closeHere, closeForming_eq]

theorem closeStep_full (h : s.mill.ql ≤ formingLength s f) (hfull : 256 ≤ s.track.queue.length) :
    closeStep s = if s.track.poolFull = true then s.onTrack fun t => { t with forming := some { f with extended := true } }
      else raise .trackingPoolFull (.zone 0) none (sat32 (formingLength s f))
        ((s.onTrack fun t => { t with forming := some { f with extended := true } }).onTrack fun t =>
          { t with poolFull := true }) := by
  have hrec : ¬ recordFree s = true := by
    rw [recordFree, decide_eq_true_iff]
    omega
  simp only [closeStep, hf, if_neg (Nat.not_lt.mpr h), if_neg hrec]

/-- The second half of a forming cell that splits at its pending weld (R25). -/
def secondHalf (w : PendingWeld) : FormingCell :=
  { stamp := w.stamp, coil := w.coil, product := w.product, headEnd := false, weld := true, extended := false,
    sum := w.sum, count := w.count, pendingWeld := none }

theorem offerRecord_splits (w : PendingWeld) (hw : f.pendingWeld = some w) : offerRecord s =
    approachStep 0 (biteStep 0 (s.onTrack (closedTrack f (w.stamp - f.stamp) (secondHalf w)))) := by
  simp only [offerRecord, hf, hw, closeForming_eq]
  rfl

theorem offerRecord_closes (hw : f.pendingWeld = none) (h : s.mill.ql ≤ formingLength s f) : offerRecord s =
    approachStep 0 (biteStep 0 (s.onTrack (closedTrack f (formingLength s f)
      (freshForming s.track.odo[(0 : Fin 6)] f.coil f.product)))) := by
  simp only [offerRecord, hf, hw, if_pos h, closeHere, closeForming_eq]
  rfl

theorem offerRecord_stays (hw : f.pendingWeld = none) (h : formingLength s f < s.mill.ql) : offerRecord s = s := by
  simp only [offerRecord, hf, hw, if_neg (Nat.not_le.mpr h)]
end

end Sys2Proof.Machine
end

section
/-! SUPPORT. The order of an advance (R19). -/

namespace Sys2Proof.Machine

section
variable (z : Zone) (s : State)

/-- A stand of the mill at the end of the zone bites and is approached (R30, R38). -/
theorem bitesAt_within (j : Stand) (hj : j.val = z.val) (hn : j.val < s.mill.n) : bitesAt z s = biteStep j s := by
  have hend : standAtEnd z = some j := by
    rw [standAtEnd, dif_pos (by omega)]
    exact congrArg some (Fin.ext hj.symm)
  have hin : withinN s j = true := by
    rw [withinN, decide_eq_true_iff]
    exact hn
  simp only [bitesAt, hend, hin, if_true]

theorem approachAt_within (j : Stand) (hj : j.val = z.val) (hn : j.val < s.mill.n) :
    approachAt z s = approachStep j s := by
  have hend : standAtEnd z = some j := by
    rw [standAtEnd, dif_pos (by omega)]
    exact congrArg some (Fin.ext hj.symm)
  have hin : withinN s j = true := by
    rw [withinN, decide_eq_true_iff]
    exact hn
  simp only [approachAt, hend, hin, if_true]

/-- A stand at the end of a zone is the one of its number. -/
theorem standAtEnd_val (j : Stand) (h : standAtEnd z = some j) : j.val = z.val := by
  rw [standAtEnd] at h
  obtain ⟨h5, hj⟩ := Option.dite_none_right_eq_some.mp h
  exact congrArg Fin.val (Option.some_inj.mp hj).symm

/-- Zone N and those behind it have no stand of the mill at their end (R30). -/
theorem bitesAt_beyond (hn : s.mill.n ≤ z.val) : bitesAt z s = s := by
  unfold bitesAt
  split
  · rename_i j hj
    have hval := standAtEnd_val z j hj
    refine if_neg fun hin => ?_
    rw [withinN_iff] at hin
    omega
  · rfl

theorem approachAt_beyond (hn : s.mill.n ≤ z.val) : approachAt z s = s := by
  unfold approachAt
  split
  · rename_i j hj
    have hval := standAtEnd_val z j hj
    refine if_neg fun hin => ?_
    rw [withinN_iff] at hin
    omega
  · rfl

theorem passagesAt_after (i : Stand) (before : Nat) (hn : i.val < s.mill.n) : passagesAt i.succ before s =
    if s.gauges[i.succ].installed then passageStep i before s else s := by
  have hin : withinN s i = true := (withinN_iff s i).mpr hn
  have heq : passagesAt i.succ before s =
      if withinN s i ∧ s.gauges[i.succ].installed then passageStep i before s else s := rfl
  rw [heq]
  exact if_congr (and_iff_right hin) rfl rfl
end

section
variable (before : Nat) (s : State)

theorem steps_entry (hn : 1 ≤ s.mill.n) :
    advanceSteps 0 before s = approachStep 0 (biteStep 0 (closeStep s)) := by
  have hpass : ∀ u : State, passagesAt 0 before u = u := fun _ => rfl
  have hclose : closeAt 0 s = closeStep s := if_pos rfl
  have hn1 : (0 : Stand).val < (closeStep s).mill.n := by
    rw [show (closeStep s).mill = s.mill by simp]
    exact hn
  have hn2 : (0 : Stand).val < (biteStep 0 (closeStep s)).mill.n := by
    rw [show (biteStep 0 (closeStep s)).mill = s.mill by simp]
    exact hn
  rw [advanceSteps_eq, hclose, bitesAt_within 0 _ 0 rfl hn1, hpass, approachAt_within 0 _ 0 rfl hn2]
  refine if_neg fun hz => ?_
  have hmill : (approachStep 0 (biteStep 0 (closeStep s))).mill = s.mill := by simp
  rw [hmill] at hz
  have h0 : (0 : Zone).val = 0 := rfl
  omega

variable (i : Stand)

/-- The gauge behind a stand is passed, where it is installed (R36). -/
def passedGauge : State := if s.gauges[i.succ].installed then passageStep i before s else s

theorem passedGauge_mill : (passedGauge before s i).mill = s.mill := by
  unfold passedGauge
  split <;> simp

theorem steps_between (j : Stand) (hj : j.val = i.succ.val) (hn : i.succ.val < s.mill.n) :
    advanceSteps i.succ before s = approachStep j (passedGauge before (biteStep j s) i) := by
  have hval : i.succ.val = i.val + 1 := rfl
  have hmill := passedGauge_mill before (biteStep j s) i
  have hbite : (biteStep j s).mill = s.mill := by simp
  have hpassed : passagesAt i.succ before (biteStep j s) = passedGauge before (biteStep j s) i :=
    passagesAt_after (biteStep j s) i before (by rw [hbite]; omega)
  have hclose : closeAt i.succ s = s := if_neg nofun
  rw [advanceSteps_eq, hclose, bitesAt_within i.succ s j hj (by omega), hpassed,
    approachAt_within i.succ _ j hj (by rw [hmill, hbite]; omega)]
  refine if_neg fun hz => ?_
  have hlast : (approachStep j (passedGauge before (biteStep j s) i)).mill = s.mill := by simp [hmill]
  rw [hlast] at hz
  omega

theorem steps_last (hn : i.succ.val = s.mill.n) : advanceSteps i.succ before s =
    retireLoop i.succ (passedGauge before s i).track.queue.length (passedGauge before s i) := by
  have hval : i.succ.val = i.val + 1 := rfl
  have hmill := passedGauge_mill before s i
  have hclose : closeAt i.succ s = s := if_neg nofun
  have hpassed : passagesAt i.succ before s = passedGauge before s i :=
    passagesAt_after s i before (by omega)
  rw [advanceSteps_eq, hclose, bitesAt_beyond i.succ s (by omega), hpassed,
    approachAt_beyond i.succ _ (by rw [hmill]; omega)]
  exact if_pos (by rw [hmill]; exact hn)
end

end Sys2Proof.Machine
end

section
/-! SUPPORT. The retirements of a step end (R39). -/

namespace Sys2Proof.Machine

/-- Which cells of a queue have bitten two stands or more. -/
def deepMarks (q : List Cell) : List Bool := q.map fun c => decide (2 ≤ c.entries.length)

/-- The cells behind the oldest that have bitten two stands or more: those that a retirement may still make the
oldest. -/
def deepBehind (q : List Cell) : Nat := ((deepMarks q).drop 1).count true

/-- The second-oldest cell lies the retirement length or more into zone z (R39). -/
def farIn (z : Zone) (s : State) (y : Cell) : Prop :=
  ∃ n, y.entries[z.val - 1]? = some n ∧ s.mill.retire ≤ s.track.odo[z] - n.stamp

theorem farIn_iff (z : Zone) (hz : 1 ≤ z.val) (s : State) (y : Cell) : farIn z s y ↔
    holdsStamp y z.val = true ∧ s.mill.retire ≤ distanceIn s y z := by
  obtain ⟨k, rfl⟩ : ∃ k : Stand, z = k.succ := by
    refine Fin.eq_succ_of_ne_zero fun h => ?_
    rw [h] at hz
    exact absurd hz (by decide)
  have h := holdsStamp_distance s k y fun d => s.mill.retire ≤ d
  rw [Bool.and_eq_true, decide_eq_true_iff] at h
  exact h.symm

theorem farIn_deep (z : Zone) (hz : 2 ≤ z.val) (s : State) (y : Cell) (h : farIn z s y) : 2 ≤ y.entries.length := by
  obtain ⟨n, hn, -⟩ := h
  have := (List.getElem?_eq_some_iff.mp hn).1
  omega

section
variable (z : Zone) (s : State) (x y : Cell) (rest : List Cell) (hq : s.track.queue = x :: y :: rest)
include hq

theorem retireLoop_retires (hz : 1 ≤ z.val) (k : Nat) (h : farIn z s y) : retireLoop z (k + 1) s =
    retireLoop z k (offerRecord (s.onTrack fun u => { u with queue := y :: rest })) := by
  rw [retireLoop, hq]
  exact if_pos ((farIn_iff z hz s y).mp h)

theorem retireLoop_near (hz : 1 ≤ z.val) (k : Nat) (h : ¬ farIn z s y) : retireLoop z k s = s := by
  cases k with
  | zero => rfl
  | succ k =>
    rw [retireLoop, hq]
    exact if_neg fun e => h ((farIn_iff z hz s y).mpr e)
end

theorem retireLoop_short (z : Zone) (k : Nat) (s : State) (h : s.track.queue.length < 2) : retireLoop z k s = s := by
  cases k with
  | zero => rfl
  | succ k =>
    rw [retireLoop]
    split
    · rename_i x y rest hq
      rw [hq] at h
      simp at h
    · rfl

/-- Without a far second-oldest cell nothing is retired (R39). -/
theorem retireLoop_idle (z : Zone) (hz : 1 ≤ z.val) (k : Nat) (s : State)
    (h : ∀ x y rest, s.track.queue = x :: y :: rest → ¬ farIn z s y) : retireLoop z k s = s := by
  match hq : s.track.queue with
  | [] => exact retireLoop_short z k s (by rw [hq]; decide)
  | [_] => exact retireLoop_short z k s (by rw [hq]; simp)
  | x :: y :: rest => exact retireLoop_near z s x y rest hq hz k (h x y rest hq)

end Sys2Proof.Machine
end

section
/-! SUPPORT. A freed record adds no cell that is deep in the mill (R25, R39). -/

namespace Sys2Proof.Machine

theorem deepMarks_lengths (q : List Cell) :
    deepMarks q = (q.map (·.entries.length)).map fun n => decide (2 ≤ n) := by
  rw [List.map_map]
  rfl

theorem deepMarks_bite (y : Cell) (s : State) (h : RunSound s) (hy : firstWaiting 0 s y) :
    deepMarks (bite 0 y s).track.queue = deepMarks s.track.queue := by
  obtain ⟨older, newer, hq, hlen, -⟩ := hy
  have h0 : y.entries.length = 0 := hlen
  rw [deepMarks_lengths, deepMarks_lengths, bite_lengths 0 s y h hq hlen, hq]
  simp [h0]

theorem biteLoop_deep (fuel : Nat) (s : State) (h : RunSound s) :
    deepMarks (biteLoop 0 fuel s).track.queue = deepMarks s.track.queue := by
  induction fuel generalizing s with
  | zero => rfl
  | succ fuel ih =>
    by_cases hall : ∀ y, firstWaiting 0 s y → staysBefore 0 s y
    · rw [biteLoop_idle 0 s _ hall]
    · simp only [not_forall] at hall
      obtain ⟨y, hy, hgo⟩ := hall
      obtain ⟨older, newer, hq, -⟩ := id hy
      rw [biteLoop_bites 0 s fuel y hy hgo, ih _ (runSound_bite 0 s y h (by rw [hq]; simp)),
        deepMarks_bite y s h hy]

theorem biteStep_deep (s : State) (h : RunSound s) :
    deepMarks (biteStep 0 s).track.queue = deepMarks s.track.queue := by
  have hcobble : ∀ u : State, (cobbleCheck 0 u).track.queue = u.track.queue := fun u => by
    unfold cobbleCheck
    repeat' split
    all_goals simp
  rw [biteStep, hcobble, biteLoop_deep _ s h]

theorem approachStep_deep (i : Stand) (s : State) :
    deepMarks (approachStep i s).track.queue = deepMarks s.track.queue := by
  refine foldl_keeps (fun u y => signalApproach i y u) (fun u => deepMarks u.track.queue) _ (fun u y _ => ?_) s
  change deepMarks (u.track.queue.map fun c => if c.serial = y.serial then { c with approach := standNumber i } else c) = _
  rw [deepMarks, deepMarks, List.map_map]
  refine List.map_congr_left fun c _ => ?_
  simp only [Function.comp_apply]
  split <;> rfl

/-- A freed record is taken by a cell that has bitten no stand but the first, or by none. -/
theorem offerRecord_deep (s : State) (h : RunSound s) (hm : Tracking s) (hfree : s.track.queue.length < 256) :
    deepMarks (offerRecord s).track.queue = deepMarks s.track.queue ∨
    deepMarks (offerRecord s).track.queue = deepMarks s.track.queue ++ [false] := by
  have hafter : ∀ u : State, RunSound u → deepMarks u.track.queue = deepMarks s.track.queue ++ [false] →
      deepMarks (afterClosure u).track.queue = deepMarks s.track.queue ++ [false] := fun u hu hd => by
    rw [afterClosure, approachStep_deep, biteStep_deep u hu, hd]
  have hclosed : ∀ f l0 new, s.track.forming = some f → new.pendingWeld = none → Offered s f new.product →
      deepMarks (afterClosure (closeForming f l0 new s)).track.queue = deepMarks s.track.queue ++ [false] :=
    fun f l0 new hf hw hp => hafter _ (runSound_stripKeep.live_close f l0 new s hf hfree hw hp ⟨h, hm⟩).1
      (List.map_append ..)
  unfold offerRecord
  split
  · exact .inl rfl
  · rename_i f hf
    split
    · rename_i w hw
      exact .inr (hclosed f _ _ hf rfl (.inr (.inl ⟨w, hw, rfl⟩)))
    · split
      · exact .inr (hclosed f _ _ hf rfl (.inl rfl))
      · exact .inl rfl

theorem runSound_offerRecord (s : State) (h : RunSound s) (hm : Tracking s) (hfree : s.track.queue.length < 256) :
    RunSound (offerRecord s) := (runSound_stripKeep.live_offerRecord s hfree ⟨h, hm⟩).1

section
variable (z : Zone) (hz : 2 ≤ z.val) (s : State) (h : RunSound s)
include hz h

/-- A retirement leaves one cell less that a further one may make the oldest. -/
theorem offerRecord_deepBehind (x y : Cell) (rest : List Cell) (hq : s.track.queue = x :: y :: rest)
    (hfar : farIn z s y) :
    RunSound (offerRecord (s.onTrack fun u => { u with queue := y :: rest })) ∧
    deepBehind (offerRecord (s.onTrack fun u => { u with queue := y :: rest })).track.queue + 1 =
      deepBehind s.track.queue := by
  have hm : Tracking s := fun hm => by
    obtain ⟨-, hempty, -⟩ := h.stopped hm
    rw [hempty] at hq
    cases hq
  have hrun : RunSound (s.onTrack fun u => { u with queue := y :: rest }) := runSound_stripKeep.retire x y rest s hq h
  have hcells := h.cells
  have hfree : (s.onTrack fun u => { u with queue := y :: rest }).track.queue.length < 256 := by
    rw [hq] at hcells
    simpa using hcells
  refine ⟨runSound_offerRecord _ hrun hm hfree, ?_⟩
  have hdeep : decide (2 ≤ y.entries.length) = true := decide_eq_true (farIn_deep z hz s y hfar)
  have hbefore : deepBehind s.track.queue = (deepMarks rest).count true + 1 := by
    simp [deepBehind, hq, deepMarks, hdeep]
  have htail : deepMarks (s.onTrack fun u => { u with queue := y :: rest }).track.queue = true :: deepMarks rest := by
    simp [deepMarks, hdeep]
  rw [hbefore]
  obtain he | he := offerRecord_deep _ hrun hm hfree
  · rw [deepBehind, he, htail]
    rfl
  · rw [deepBehind, he, htail]
    simp

theorem retireLoop_ends (fuel : Nat) (hfuel : deepBehind s.track.queue ≤ fuel) (x y : Cell) (rest : List Cell)
    (hq : (retireLoop z fuel s).track.queue = x :: y :: rest) : ¬ farIn z (retireLoop z fuel s) y := by
  have hz1 : 1 ≤ z.val := by omega
  induction fuel generalizing s with
  | zero =>
    intro hfar
    have hq' : s.track.queue = x :: y :: rest := hq
    have := (offerRecord_deepBehind z hz s h x y rest hq' hfar).2
    omega
  | succ fuel ih =>
    by_cases hall : ∀ x y rest, s.track.queue = x :: y :: rest → ¬ farIn z s y
    · rw [retireLoop_idle z hz1 _ s hall] at hq ⊢
      exact hall x y rest hq
    · simp only [not_forall, not_not] at hall
      obtain ⟨x0, y0, rest0, hq0, hfar⟩ := hall
      obtain ⟨hrun, hless⟩ := offerRecord_deepBehind z hz s h x0 y0 rest0 hq0 hfar
      rw [retireLoop_retires z s x0 y0 rest0 hq0 hz1 fuel hfar] at hq ⊢
      exact ih _ hrun (by omega) hq
end

theorem deepBehind_le (q : List Cell) : deepBehind q ≤ q.length := by
  have h1 := List.count_le_length (a := true) (l := (deepMarks q).drop 1)
  have h2 : ((deepMarks q).drop 1).length ≤ q.length := by
    simp [deepMarks]
  exact Nat.le_trans h1 h2

end Sys2Proof.Machine
end

section
/-! The statement about closures and retirements. -/

open Sys2Proof Sys2Proof.Machine

/-- Settles O36: the order of an advance, the closure by its cases, and the retirement's end. -/
theorem advanceClosesAndRetires : Obligations.AdvanceClosesAndRetires := by
  unfold Obligations.AdvanceClosesAndRetires
  refine ⟨fun z d s hm => if_pos hm, fun z d s hm hn => ?_, fun s f hf => ?_, fun z s hz => ?_⟩
  · intro after u finished passed
    have hadvance : advance z d s = finished (advanceSteps z s.track.odo[z] u) := if_neg hm
    refine ⟨fun h0 => ?_, fun i j hi hj hlt => ?_, fun i hi hlast => ?_⟩
    · obtain rfl : z = 0 := Fin.ext h0
      exact hadvance.trans (congrArg finished (steps_entry _ u hn))
    · subst hi
      exact hadvance.trans (congrArg finished (steps_between _ u i j hj hlt))
    · subst hi
      exact hadvance.trans (congrArg finished (steps_last _ u i hlast))
  · intro odo closed next extended
    exact ⟨closeStep_short s f hf, closeStep_closes s f hf,
      fun hl hfull hp => (closeStep_full s f hf hl hfull).trans (if_pos hp),
      fun hl hfull hp => (closeStep_full s f hf hl hfull).trans (if_neg (by rw [hp]; exact nofun)),
      offerRecord_splits s f hf, offerRecord_closes s f hf, offerRecord_stays s f hf⟩
  · intro far t
    exact ⟨fun h x y rest hq => retireLoop_ends z hz s h _ (deepBehind_le _) x y rest hq,
      fun hall => retireLoop_idle z (by omega) _ s hall,
      fun x y rest hq hfar k => retireLoop_retires z s x y rest hq (by omega) k hfar⟩

end


section
/-! SUPPORT. A gauge passage finalises one cell (R36, R52, R94 to R96). -/

namespace Sys2Proof.Machine

section
variable (i : Stand) (s : State)

/-- The monitor takes a measured exit thickness of the cell (R95, R96). -/
abbrev monitorTakes (c : Cell) : Prop :=
  s.stands[i].configured = true ∧ s.demands[i].freeze = none ∧ s.store.active[i] = some c.product

/-- An entry finalised with the mean of its samples (R52). -/
def finalEntry (used : Bool) (n : StandEntry) : StandEntry :=
  { n with hm := some (roundHalfUp n.sum n.count), monUsed := used || n.monUsed }

/-- A cell as a passage of its newer neighbour leaves it (R52, R95). -/
def finalCell (c : Cell) : Cell :=
  match c.entries[i.val]? with
  | none => c
  | some n => if n.count = 0 then c
    else { c with entries := c.entries.set i.val (finalEntry (decide (monitorTakes i s c)) n) }

theorem finalCell_serial (c : Cell) : (finalCell i s c).serial = c.serial := by
  unfold finalCell
  repeat' split
  all_goals rfl

theorem finalCell_some (c : Cell) (n : StandEntry) (hn : c.entries[i.val]? = some n) (hc : n.count ≠ 0) :
    finalCell i s c =
      { c with entries := c.entries.set i.val (finalEntry (decide (monitorTakes i s c)) n) } := by
  simp only [finalCell, hn, if_neg hc]

/-- What the passages of a gauge keep. -/
structure PassKeeps (s t : State) : Prop where
  stands : t.stands = s.stands
  gauges : t.gauges = s.gauges
  trips : t.trips = s.trips
  store : t.store = s.store
  others : ∀ j : Stand, j ≠ i → t.demands[j] = s.demands[j] ∧ t.actuators[j] = s.actuators[j]
  ff : t.demands[i].ff = s.demands[i].ff
  freeze : t.demands[i].freeze = s.demands[i].freeze

theorem OnlyMass.passKeeps {s t : State} (h : OnlyMass i s t) : PassKeeps i s t :=
  ⟨h.stands, h.gauges, h.trips, h.store, h.others, h.ff, h.freeze⟩

theorem PassKeeps.trans {s t u : State} (h : PassKeeps i s t) (k : PassKeeps i t u) : PassKeeps i s u :=
  ⟨k.stands.trans h.stands, k.gauges.trans h.gauges, k.trips.trans h.trips, k.store.trans h.store,
    fun j hj => ⟨(k.others j hj).1.trans (h.others j hj).1, (k.others j hj).2.trans (h.others j hj).2⟩,
    k.ff.trans h.ff, k.freeze.trans h.freeze⟩

theorem PassKeeps.finalCell_eq {s t : State} (h : PassKeeps i s t) : finalCell i t = finalCell i s := by
  funext c
  unfold finalCell monitorTakes
  rw [h.stands, h.freeze, h.store]

section
variable (x : Cell)

theorem finalise_noEntry (h : x.entries[i.val]? = none) : finalise i x s = s := by
  simp only [finalise, h]

variable (n : StandEntry) (hn : x.entries[i.val]? = some n)
include hn

theorem finalise_empty (h : n.count = 0) : finalise i x s = s := by
  simp only [finalise, hn]
  exact if_neg (by omega)

variable (hg : s.gauges[i.succ].installed = true) (hc : n.count ≠ 0)
include hg hc

theorem finalise_measured : finalise i x s = monitorUpdate i x (roundHalfUp n.sum n.count)
    (onEntry x.serial i (fun e => { e with hm := some (roundHalfUp n.sum n.count) }) s) := by
  simp only [finalise, hn]
  exact (if_pos (by omega)).trans (if_pos hg)

theorem finalise_taken (h : monitorTakes i s x) : finalise i x s =
    recompose i (monitorTerms i x s (roundHalfUp n.sum n.count))
      (onEntry x.serial i (fun e => { e with hm := some (roundHalfUp n.sum n.count), monUsed := true }) s) := by
  obtain ⟨hcf, hf, ha⟩ := h
  rw [finalise_measured i s x n hn hg hc, monitorUpdate_taken i
    (onEntry x.serial i (fun e => { e with hm := some (roundHalfUp n.sum n.count) }) s) x _ hcf hf ha, onEntry_onEntry]
  rfl

theorem finalise_passed (h : ¬ monitorTakes i s x) : finalise i x s =
    onEntry x.serial i (fun e => { e with hm := some (roundHalfUp n.sum n.count) }) s := by
  rw [finalise_measured i s x n hn hg hc]
  refine if_neg ?_
  rintro ⟨hcf, hf, ha⟩
  exact h ⟨hcf, hf, ha⟩
end

/-- A passage changes one cell, and the stand's trim and demand (R52, R95). -/
theorem finalise_eq (hg : s.gauges[i.succ].installed = true) {older newer : List Cell} (x : Cell)
    (hrun : Consecutive s.track.queue s.track.nextSerial) (hq : s.track.queue = older ++ x :: newer) :
    PassKeeps i s (finalise i x s) ∧
      (finalise i x s).track = { s.track with queue := older ++ finalCell i s x :: newer } := by
  have hstays : finalise i x s = s → finalCell i s x = x → PassKeeps i s (finalise i x s) ∧
      (finalise i x s).track = { s.track with queue := older ++ finalCell i s x :: newer } := fun he hx => by
    rw [he, hx, ← hq]
    exact ⟨(onlyMass_refl i s).passKeeps, rfl⟩
  cases hn : x.entries[i.val]? with
  | none => exact hstays (finalise_noEntry i s x hn) (by simp only [finalCell, hn])
  | some n =>
    by_cases hc : n.count = 0
    · exact hstays (finalise_empty i s x n hn hc) (by simp only [finalCell, hn, if_pos hc])
    · have hentry : ∀ f : StandEntry → StandEntry, (onEntry x.serial i f s).track =
          { s.track with queue := older ++ { x with entries := x.entries.set i.val (f n) } :: newer } := fun f => by
        rw [onEntry, onCell_run hrun hq, modify_entry _ _ n _ hn]
        rfl
      by_cases hm : monitorTakes i s x
      · rw [finalise_taken i s x n hn hg hc hm]
        refine ⟨(onlyMass_monitor i x _ _ _ s).passKeeps, ?_⟩
        rw [(recompose_demandOnly i _ _).track, hentry, finalCell_some i s x n hn hc, decide_eq_true hm]
        rfl
      · rw [finalise_passed i s x n hn hg hc hm]
        refine ⟨(onlyMass_entry i _ _ s).passKeeps, ?_⟩
        rw [hentry, finalCell_some i s x n hn hc, decide_eq_false hm]
        rfl
end

end Sys2Proof.Machine
end

section
/-! SUPPORT. The passages of an advance, cell by cell (R36). -/

namespace Sys2Proof.Machine

/-- Neighbours in a run have neighbouring serials (R26). -/
theorem Consecutive.neighbours {older newer : List Cell} {x y : Cell} {n : Nat}
    (h : Consecutive (older ++ x :: y :: newer) n) : x.serial + 1 = y.serial := by
  have hx := h older.length x (by simp)
  have hy := h (older.length + 1) y (by simp)
  simp only [List.length_append, List.length_cons] at hx hy
  omega

section
variable (i : Stand) (s : State)

/-- The older neighbour of a cell that crossed the gauge is finalised (R36). -/
def passOne (s : State) (y : Cell) : State :=
  match olderIn s.track.queue y.serial with
  | some x => finalise i x s
  | none => s

/-- The cells before those of some serials, as their passages leave them (R52). -/
def passedCells (ys : List Cell) (q : List Cell) : List Cell :=
  q.map fun c => if c.serial + 1 ∈ ys.map (·.serial) then finalCell i s c else c

theorem passOne_eq (hg : s.gauges[i.succ].installed = true) (hrun : Consecutive s.track.queue s.track.nextSerial)
    (y : Cell) (hy : ∃ c ∈ s.track.queue, c.serial = y.serial) : PassKeeps i s (passOne i s y) ∧
      (passOne i s y).track = { s.track with queue := passedCells i s [y] s.track.queue } := by
  obtain ⟨c, hc, hser⟩ := hy
  obtain ⟨older, newer, hq⟩ := List.append_of_mem hc
  obtain ⟨ho, hn⟩ := hrun.others hq
  have holder : olderIn s.track.queue y.serial = older.getLast? := by
    rw [hq, ← hser]
    exact olderIn_run older newer c ho hn
  have hother : ∀ l : List Cell, (∀ z ∈ l, z.serial + 1 ≠ y.serial) → passedCells i s [y] l = l := fun l hl =>
    (List.map_congr_left fun z hz => if_neg (by simpa using hl z hz)).trans (List.map_id' l)
  obtain hnil | ⟨es, x, he⟩ := List.eq_nil_or_concat' older
  · have hstays : passOne i s y = s := by
      simp only [passOne, holder, hnil, List.getLast?_nil]
    have hall : passedCells i s [y] s.track.queue = s.track.queue := hother _ fun z hz hzy => by
      obtain ⟨j, hj⟩ := List.mem_iff_getElem?.mp hz
      have hzero := hrun 0 c (by rw [hq, hnil]; rfl)
      have hlater := hrun j z hj
      omega
    rw [hstays, hall]
    exact ⟨(onlyMass_refl i s).passKeeps, rfl⟩
  · have hfinal : passOne i s y = finalise i x s := by
      simp only [passOne, holder, he, List.getLast?_concat]
    have hsplit : s.track.queue = es ++ x :: c :: newer := by
      rw [hq, he, List.append_assoc, List.singleton_append]
    obtain ⟨hkeeps, htrack⟩ := finalise_eq i s hg x hrun hsplit
    rw [hfinal, htrack]
    refine ⟨hkeeps, ?_⟩
    have hmap := hrun.map_serial hsplit (finalCell i s)
    rw [← hmap]
    have hx : x.serial + 1 = y.serial := by
      rw [hsplit] at hrun
      rw [hrun.neighbours, hser]
    simp only [passedCells, List.map_cons, List.map_nil, List.mem_singleton, ← hx, Nat.add_right_cancel_iff]

theorem passedCells_serials (ys q : List Cell) : (passedCells i s ys q).map (·.serial) = q.map (·.serial) := by
  rw [passedCells, List.map_map]
  refine List.map_congr_left fun c _ => ?_
  simp only [Function.comp_apply]
  split
  · exact finalCell_serial i s c
  · rfl

/-- The passages of several cells, none twice (R36). -/
theorem passAll_eq (hg : s.gauges[i.succ].installed = true) (hrun : Consecutive s.track.queue s.track.nextSerial)
    (ys : List Cell) (hy : ∀ y ∈ ys, ∃ c ∈ s.track.queue, c.serial = y.serial) (hn : (ys.map (·.serial)).Nodup) :
    PassKeeps i s (ys.foldl (passOne i) s) ∧
      (ys.foldl (passOne i) s).track = { s.track with queue := passedCells i s ys s.track.queue } := by
  induction ys generalizing s with
  | nil =>
    refine ⟨(onlyMass_refl i s).passKeeps, ?_⟩
    have hall : passedCells i s [] s.track.queue = s.track.queue :=
      (List.map_congr_left fun z _ => if_neg List.not_mem_nil).trans (List.map_id' _)
    rw [hall]
    rfl
  | cons y ys ih =>
    obtain ⟨hkeeps, htrack⟩ := passOne_eq i s hg hrun y (hy y List.mem_cons_self)
    have hqueue : (passOne i s y).track.queue = passedCells i s [y] s.track.queue := by rw [htrack]
    have hnext : (passOne i s y).track.nextSerial = s.track.nextSerial := by rw [htrack]
    rw [List.map_cons, List.nodup_cons] at hn
    have hrun' : Consecutive (passOne i s y).track.queue (passOne i s y).track.nextSerial := by
      rw [hqueue, hnext, passedCells]
      refine hrun.map _ fun c => ?_
      split
      · exact finalCell_serial i s c
      · rfl
    have hy' : ∀ z ∈ ys, ∃ c ∈ (passOne i s y).track.queue, c.serial = z.serial := fun z hz => by
      obtain ⟨c, hc, hser⟩ := hy z (List.mem_cons_of_mem y hz)
      have hmem : z.serial ∈ (passedCells i s [y] s.track.queue).map (·.serial) := by
        rw [passedCells_serials, ← hser]
        exact List.mem_map_of_mem hc
      rw [hqueue]
      exact List.mem_map.mp hmem
    obtain ⟨hkeeps', htrack'⟩ := ih (passOne i s y) (by rw [hkeeps.gauges]; exact hg) hrun' hy' hn.2
    rw [List.foldl_cons]
    refine ⟨hkeeps.trans i hkeeps', ?_⟩
    have hcells : passedCells i (passOne i s y) ys (passedCells i s [y] s.track.queue) =
        passedCells i s (y :: ys) s.track.queue := by
      rw [passedCells, passedCells, passedCells, List.map_map, hkeeps.finalCell_eq]
      refine List.map_congr_left fun c _ => ?_
      simp only [Function.comp_apply, List.map_cons, List.map_nil, List.mem_cons, List.not_mem_nil, or_false]
      by_cases hc : c.serial + 1 = y.serial
      · rw [if_pos hc, finalCell_serial, if_neg (by rw [hc]; exact hn.1), if_pos (.inl hc)]
      · rw [if_neg hc]
        exact if_congr (or_iff_right hc).symm rfl rfl
    rw [htrack', hqueue, hcells, htrack]
end

section
variable (i : Stand) (before : Nat) (s : State)

/-- The cell crosses the gauge in the advance (R36). -/
def crossedGauge (c : Cell) : Prop := ∃ n, c.entries[i.val]? = some n ∧ before - n.stamp < s.gauges[i.succ].g ∧
  s.gauges[i.succ].g ≤ s.track.odo[i.succ] - n.stamp

/-- The test of a passage (R36). -/
def crossesGauge (y : Cell) : Bool :=
  match stampOf y (standNumber i) with
  | some e => decide (before - e < s.gauges[zoneAfter i].g) && decide (s.gauges[zoneAfter i].g ≤ s.track.odo[zoneAfter i] - e)
  | none => false

theorem crossesGauge_iff (c : Cell) : crossesGauge i before s c = true ↔ crossedGauge i before s c := by
  have hstamp : stampOf c (standNumber i) = c.entries[i.val]?.map (·.stamp) := rfl
  rw [crossesGauge, hstamp, crossedGauge]
  cases c.entries[i.val]? with
  | none => simp
  | some n =>
    rw [Option.map_some]
    simp only [Bool.and_eq_true, decide_eq_true_iff, Option.some_inj, exists_eq_left']
    exact Iff.rfl

/-- The cells that cross the gauge, oldest first (R36). -/
def crossing : List Cell := s.track.queue.filter (crossesGauge i before s)

theorem passageStep_eq : passageStep i before s = (crossing i before s).foldl (passOne i) s := rfl

theorem mem_crossing (c : Cell) : c ∈ crossing i before s ↔ c ∈ s.track.queue ∧ crossedGauge i before s c := by
  rw [crossing, List.mem_filter, crossesGauge_iff]

theorem serials_nodup {q : List Cell} {n : Nat} (h : Consecutive q n) : (q.map (·.serial)).Nodup := by
  rw [List.nodup_iff_getElem?_ne_getElem?]
  intro j k hjk hk he
  rw [List.length_map] at hk
  rw [List.getElem?_map, List.getElem?_map, List.getElem?_eq_getElem hk,
    List.getElem?_eq_getElem (Nat.lt_trans hjk hk)] at he
  have := h.injective (List.getElem?_eq_getElem (Nat.lt_trans hjk hk)) (List.getElem?_eq_getElem hk) (Option.some_inj.mp he)
  omega

/-- The passages of an advance, as a whole (R36). -/
theorem passageStep_passes (hg : s.gauges[i.succ].installed = true) (h : RunSound s) :
    PassKeeps i s (passageStep i before s) ∧ (passageStep i before s).track =
      { s.track with queue := passedCells i s (crossing i before s) s.track.queue } := by
  rw [passageStep_eq]
  refine passAll_eq i s hg h.serials _ (fun y hy => ⟨y, ((mem_crossing i before s y).mp hy).1, rfl⟩) ?_
  exact (serials_nodup h.serials).sublist (List.filter_sublist.map _)

/-- The newer neighbour of a cell crosses the gauge, place by place (R36). -/
theorem follows_iff (h : RunSound s) (k : Nat) (c : Cell) (hc : s.track.queue[k]? = some c) :
    c.serial + 1 ∈ (crossing i before s).map (·.serial) ↔
      ∃ y, s.track.queue[k + 1]? = some y ∧ crossedGauge i before s y := by
  rw [List.mem_map]
  constructor
  · rintro ⟨y, hy, hser⟩
    obtain ⟨hmem, hcross⟩ := (mem_crossing i before s y).mp hy
    obtain ⟨j, hj⟩ := List.mem_iff_getElem?.mp hmem
    have h1 := h.serials k c hc
    have h2 := h.serials j y hj
    have hlt := (List.getElem?_eq_some_iff.mp hj).1
    have hlk := (List.getElem?_eq_some_iff.mp hc).1
    obtain rfl : j = k + 1 := by omega
    exact ⟨y, hj, hcross⟩
  · rintro ⟨y, hy, hcross⟩
    refine ⟨y, (mem_crossing i before s y).mpr ⟨List.mem_of_getElem? hy, hcross⟩, ?_⟩
    have h1 := h.serials k c hc
    have h2 := h.serials (k + 1) y hy
    have hlt := (List.getElem?_eq_some_iff.mp hy).1
    omega

/-- Where no cell behind another crossed, nothing is finalised (R36). -/
theorem passageStep_idle (h : RunSound s)
    (hno : ∀ k, ¬ ∃ y, s.track.queue[k + 1]? = some y ∧ crossedGauge i before s y) : passageStep i before s = s := by
  have hone : ∀ y ∈ crossing i before s, passOne i s y = s := fun y hy => by
    obtain ⟨hmem, hcross⟩ := (mem_crossing i before s y).mp hy
    obtain ⟨j, hj⟩ := List.mem_iff_getElem?.mp hmem
    cases j with
    | succ k => exact absurd ⟨y, hj, hcross⟩ (hno k)
    | zero =>
      obtain ⟨rest, hq⟩ : ∃ rest, s.track.queue = [] ++ y :: rest := by
        cases hq : s.track.queue with
        | nil => rw [hq] at hj; cases hj
        | cons c rest =>
          rw [hq] at hj
          cases hj
          exact ⟨rest, rfl⟩
      obtain ⟨ho, hn⟩ := Consecutive.others h.serials hq
      have holder : olderIn s.track.queue y.serial = none := by
        rw [hq]
        exact olderIn_run [] rest y ho hn
      simp only [passOne, holder]
  rw [passageStep_eq]
  generalize crossing i before s = ys at hone ⊢
  induction ys with
  | nil => rfl
  | cons y ys ih =>
    rw [List.foldl_cons, hone y List.mem_cons_self]
    exact ih fun z hz => hone z (List.mem_cons_of_mem y hz)

/-- A single cell that crossed finalises its older neighbour alone (R36). -/
theorem passageStep_single (h : RunSound s) (older newer : List Cell) (x y : Cell)
    (hq : s.track.queue = older ++ x :: y :: newer) (hy : crossedGauge i before s y)
    (hno : ∀ c ∈ older ++ x :: newer, ¬ crossedGauge i before s c) : passageStep i before s = finalise i x s := by
  have hnone : ∀ l : List Cell, (∀ c ∈ l, ¬ crossedGauge i before s c) → l.filter (crossesGauge i before s) = [] :=
    fun l hl => List.filter_eq_nil_iff.mpr fun c hc => by
      rw [crossesGauge_iff]
      exact hl c hc
  have hcrossing : crossing i before s = [y] := by
    have hsplit : s.track.queue = (older ++ [x]) ++ y :: newer := by
      rw [hq, List.append_assoc, List.singleton_append]
    rw [crossing, hsplit, List.filter_append, List.filter_cons_of_pos ((crossesGauge_iff i before s y).mpr hy),
      hnone newer fun c hc => hno c (by simp [hc]), hnone (older ++ [x]) fun c hc => hno c ?_]
    · rfl
    · rw [List.mem_append, List.mem_singleton] at hc
      obtain hc | rfl := hc <;> simp [*]
  have hsplit : s.track.queue = (older ++ [x]) ++ y :: newer := by
    rw [hq, List.append_assoc, List.singleton_append]
  obtain ⟨ho, hn⟩ := Consecutive.others h.serials hsplit
  have holder : olderIn s.track.queue y.serial = some x := by
    rw [hsplit, olderIn_run _ _ _ ho hn, List.getLast?_concat]
  rw [passageStep_eq, hcrossing, List.foldl_cons, List.foldl_nil]
  simp only [passOne, holder]
end

/-- The demand of a composition in full (R89). -/
theorem composeDemand_demands_eq (i : Stand) (s : State) : (composeDemand i s).demands =
    upd s.demands i fun r =>
      { r with demand := demandOf s i, limited := (demandOf s i).elim false (limitedOf i s) } := by
  refine table_ext fun j => ?_
  by_cases hj : j = i
  · subst hj
    rw [composeDemand_at, upd_same]
  · obtain ⟨lim, hd⟩ := composeDemand_demands i s
    rw [hd, upd_other _ _ _ _ hj, upd_other _ _ _ _ hj]

theorem recompose_demands_entry (i : Stand) (f : DemandState → DemandState) (n : Nat) (g : StandEntry → StandEntry)
    (s : State) : (recompose i f (onEntry n i g s)).demands = (recompose i f s).demands := by
  rw [recompose, recompose, composeDemand_demands_eq, composeDemand_demands_eq]
  rfl

/-- The monitor takes the mean of the samples, or passes it over (R95, R96). -/
theorem finalise_demands (i : Stand) (s : State) (x : Cell) (n : StandEntry) (hn : x.entries[i.val]? = some n)
    (hg : s.gauges[i.succ].installed = true) (hc : n.count ≠ 0) :
    (finalise i x s).demands = (monitorUpdate i x (roundHalfUp n.sum n.count) s).demands := by
  by_cases hm : monitorTakes i s x
  · obtain ⟨hcf, hf, ha⟩ := id hm
    rw [finalise_taken i s x n hn hg hc hm, monitorUpdate_taken i s x _ hcf hf ha, recompose_demands_entry,
      recompose_demands_entry]
    rfl
  · rw [finalise_passed i s x n hn hg hc hm]
    have hpass : monitorUpdate i x (roundHalfUp n.sum n.count) s = s := if_neg hm
    rw [hpass]
    rfl

end Sys2Proof.Machine
end

section
/-! SUPPORT. Weld approach (R38, R97). -/

namespace Sys2Proof.Machine

section
variable (i : Stand) (s : State)

/-- Weld approach is due for the cell (R38). -/
def nearStand (c : Cell) : Prop := c.weld = true ∧ c.entries.length = i.val ∧ c.approach < i.val + 1 ∧
  ∃ e, stampOf c i.val = some e ∧
    s.mill.dist[zoneBefore i] - (s.track.odo[zoneBefore i] - e) ≤ s.stands[i].lead

/-- The test of step 4 (R38). -/
def approaches (y : Cell) : Bool := y.weld && waitsAt y (zoneBefore i) && decide (y.approach < standNumber i) &&
  decide (s.mill.dist[zoneBefore i] - distanceIn s y (zoneBefore i) ≤ s.stands[i].lead)

theorem approaches_iff (c : Cell) : approaches i s c = true ↔ nearStand i s c := by
  rw [approaches, Bool.and_eq_true, Bool.and_eq_true, Bool.and_eq_true, waitsAt_iff, decide_eq_true_iff,
    decide_eq_true_iff, nearStand, and_assoc, and_assoc]
  refine and_congr_right fun _ => and_congr_right fun hlen => and_congr_right fun _ => ?_
  obtain ⟨e, he⟩ := stampOf_waiting i c hlen
  rw [distanceIn_stamp i s c e he, he]
  simp only [Option.some_inj, exists_eq_left']

theorem approachStep_eq : approachStep i s =
    (s.track.queue.filter (approaches i s)).foldl (fun u y => signalApproach i y u) s := rfl

/-- The cells of some serials with the approach to the stand signalled (R38). -/
def signalledCells (ys q : List Cell) : List Cell :=
  q.map fun c => if c.serial ∈ ys.map (·.serial) then { c with approach := standNumber i } else c

/-- Several approaches signalled: each cell is marked, and the last freezes the monitor (R38, R97). -/
theorem signalAll_eq (ys : List Cell) (y : Cell) : (ys ++ [y]).foldl (fun u y => signalApproach i y u) s =
    { s with
      track := { s.track with queue := signalledCells i (ys ++ [y]) s.track.queue }
      demands := s.demands.set i.val { s.demands[i] with freeze := some y.serial } } := by
  have hone : ∀ (u : State) (z : Cell), signalApproach i z u =
      { u with
        track := { u.track with queue := signalledCells i [z] u.track.queue }
        demands := u.demands.set i.val { u.demands[i] with freeze := some z.serial } } := fun u z => by
    have hcells : signalledCells i [z] u.track.queue = u.track.queue.map fun c =>
        if c.serial = z.serial then { c with approach := standNumber i } else c := by
      simp only [signalledCells, List.map_cons, List.map_nil, List.mem_singleton]
    rw [hcells]
    rfl
  induction ys generalizing s with
  | nil => exact hone s y
  | cons z ys ih =>
    rw [List.cons_append, List.foldl_cons, ih, hone s z]
    have hcells : signalledCells i (ys ++ [y]) (signalledCells i [z] s.track.queue) =
        signalledCells i (z :: (ys ++ [y])) s.track.queue := by
      rw [signalledCells, signalledCells, signalledCells, List.map_map]
      refine List.map_congr_left fun c _ => ?_
      simp only [Function.comp_apply, List.map_cons, List.map_nil, List.mem_cons, List.not_mem_nil, or_false]
      by_cases hc : c.serial = z.serial
      · have hright : (c.serial = z.serial ∨ c.serial ∈ (ys ++ [y]).map (·.serial)) := .inl hc
        rw [if_pos hc, if_pos hright]
        exact ite_self _
      · rw [if_neg hc]
        exact if_congr (or_iff_right hc).symm rfl rfl
    simp only [hcells, Vector.set_set, Fin.getElem_fin, Vector.getElem_set_self]

/-- The cells after the weld approaches of an advance (R38). -/
theorem approachStep_cells : (approachStep i s).track.queue =
    signalledCells i (s.track.queue.filter (approaches i s)) s.track.queue := by
  rw [approachStep_eq]
  obtain hnil | ⟨ys, y, hys⟩ := List.eq_nil_or_concat' (s.track.queue.filter (approaches i s))
  · rw [hnil]
    exact ((List.map_congr_left fun z _ => if_neg List.not_mem_nil).trans (List.map_id' _)).symm
  · rw [hys, signalAll_eq]

section
variable (h : RunSound s)
include h

/-- The serials of the cells that are near name those cells alone (R26). -/
theorem approached_iff (k : Nat) (c : Cell) (hc : s.track.queue[k]? = some c) :
    c.serial ∈ (s.track.queue.filter (approaches i s)).map (·.serial) ↔ nearStand i s c := by
  rw [List.mem_map]
  constructor
  · rintro ⟨y, hy, hser⟩
    obtain ⟨hmem, hnear⟩ := List.mem_filter.mp hy
    obtain ⟨j, hj⟩ := List.mem_iff_getElem?.mp hmem
    obtain rfl := Consecutive.injective h.serials hj hc hser
    obtain rfl := Option.some_inj.mp (hj.symm.trans hc)
    exact (approaches_iff i s y).mp hnear
  · intro hnear
    exact ⟨c, List.mem_filter.mpr ⟨List.mem_of_getElem? hc, (approaches_iff i s c).mpr hnear⟩, rfl⟩

/-- The approach of a cell after an advance (R38). -/
theorem approachStep_cell (k : Nat) (c : Cell) (hc : s.track.queue[k]? = some c) :
    (nearStand i s c → (approachStep i s).track.queue[k]? = some { c with approach := i.val + 1 }) ∧
      (¬ nearStand i s c → (approachStep i s).track.queue[k]? = some c) := by
  have hcells : (approachStep i s).track.queue[k]? = some
      (if c.serial ∈ (s.track.queue.filter (approaches i s)).map (·.serial)
        then { c with approach := standNumber i } else c) := by
    rw [approachStep_cells i s, signalledCells, List.getElem?_map, hc, Option.map_some]
  rw [hcells]
  refine ⟨fun hnear => ?_, fun hfar => ?_⟩
  · rw [if_pos ((approached_iff i s h k c hc).mpr hnear)]
    rfl
  · rw [if_neg fun hmem => hfar ((approached_iff i s h k c hc).mp hmem)]
end

theorem approachStep_far (h : ∀ c ∈ s.track.queue, ¬ nearStand i s c) : approachStep i s = s := by
  rw [approachStep_eq, List.filter_eq_nil_iff.mpr fun c hc => (approaches_iff i s c).not.mpr (h c hc)]
  rfl

/-- The newest cell whose approach is due freezes the monitor (R97). -/
theorem approachStep_newest (older newer : List Cell) (y : Cell) (hq : s.track.queue = older ++ y :: newer)
    (hy : nearStand i s y) (hn : ∀ c ∈ newer, ¬ nearStand i s c) : approachStep i s =
      { s with
        track := { s.track with queue := (approachStep i s).track.queue }
        demands := s.demands.set i.val { s.demands[i] with freeze := some y.serial } } := by
  have hys : s.track.queue.filter (approaches i s) = older.filter (approaches i s) ++ [y] := by
    rw [hq, List.filter_append, List.filter_cons_of_pos ((approaches_iff i s y).mpr hy),
      List.filter_eq_nil_iff.mpr fun c hc => (approaches_iff i s c).not.mpr (hn c hc)]
  rw [approachStep_eq, hys, signalAll_eq]
end

end Sys2Proof.Machine
end

section
/-! The statement about passages and weld approach. -/

open Sys2Proof Sys2Proof.Machine

/-- Settles O38: the passages as one map over the cells before those that crossed, and the approaches as
one map over the cells that are near. -/
theorem passageAndApproach : Obligations.PassageAndApproach := by
  refine ⟨fun i before s h hg => ?_, fun i s h => ?_⟩
  · obtain ⟨hkeeps, htrack⟩ := passageStep_passes i before s hg h
    refine ⟨?_, ?_, passageStep_idle i before s h, ?_, hkeeps.others, hkeeps.ff, hkeeps.freeze, ?_, ?_, hkeeps.store,
      hkeeps.gauges, hkeeps.trips⟩
    · rw [htrack]
      exact List.length_map _
    · intro k c d hc hd
      have hcell : d = if c.serial + 1 ∈ (crossing i before s).map (·.serial) then finalCell i s c else c := by
        rw [htrack, passedCells, List.getElem?_map, hc, Option.map_some] at hd
        exact (Option.some_inj.mp hd).symm
      have hfollows := follows_iff i before s h k c hc
      have hstays : finalCell i s c = c → d = c := fun hf => by
        rw [hcell, hf, ite_self]
      refine ⟨fun hno => hcell.trans (if_neg fun hmem => hno (hfollows.mp hmem)), fun hnone => hstays ?_,
        fun n hyes hn => ?_⟩
      · simp only [finalCell, hnone]
      · have hfinal : d = finalCell i s c := hcell.trans (if_pos (hfollows.mpr hyes))
        refine ⟨fun hc0 => hstays ?_, fun hc1 hused => ?_, fun hc1 hused => ?_⟩
        · simp only [finalCell, hn, if_pos hc0]
        · rw [hfinal, finalCell_some i s c n hn (by omega), decide_eq_true hused]
          rfl
        · rw [hfinal, finalCell_some i s c n hn (by omega), decide_eq_false hused]
          rfl
    · intro older newer x y n hq hy hno hn hc
      exact (congrArg State.demands (passageStep_single i before s h older newer x y hq hy hno)).trans
        (finalise_demands i s x n hn hg (by omega))
    · rw [htrack]
    · rw [htrack]
  · refine ⟨?_, approachStep_cell i s h, approachStep_far i s, approachStep_newest i s⟩
    rw [approachStep_cells i s]
    exact List.length_map _
end


section
/-! SUPPORT. The silence tests that follow a Configure Mill, while tracking is STOPPED (R16, R158, R160). -/

namespace Sys2Proof.Machine

/-- A gauge's record after its node became LOST, installed or not (R46, R61). -/
def lostRecord (r : GaugeRecord) : GaugeRecord := if r.installed = true then gaugeGone r else gaugeAbsent r

theorem lostRecord_fixed (r : GaugeRecord) : (lostRecord r).installed = r.installed ∧
    (lostRecord r).addr = r.addr ∧ (lostRecord r).g = r.g ∧ (lostRecord r).stdLength = r.stdLength ∧
    (lostRecord r).weldGuard = r.weldGuard ∧ (lostRecord r).length = r.length := by
  unfold lostRecord
  split <;> exact ⟨rfl, rfl, rfl, rfl, rfl, rfl⟩

theorem gaugeLost_record (p : Gauge) (s : State) : gaugeLost p s = s.onGauge p lostRecord := by
  by_cases hi : s.gauges[p].installed = true
  · rw [gaugeLost_eq p s hi]
    exact onGauge_congr s p _ _ (if_pos hi).symm
  · have hat : (s.onGauge p gaugeAbsent).gauges[p] = gaugeAbsent s.gauges[p] := by
      rw [State.onGauge_gauges, upd_same]
    rw [gaugeLost, setGaugeMode_absent]
    refine (if_pos ?_).trans (onGauge_congr s p _ _ (if_neg hi).symm)
    rw [hat]
    exact hi

/-- While tracking is STOPPED only a gauge is told of its node's loss (R160). -/
theorem loseNode_stopped (a : Node) (c : Int) (s : State) (h : s.track.mode = .stopped) : loseNode a c s =
    match s.nodes[a].role with
    | .gauge p => (raise .nodeLost (.node a) none c (s.onNode a fun n => { n with state := .lost })).onGauge p
        lostRecord
    | _ => raise .nodeLost (.node a) none c (s.onNode a fun n => { n with state := .lost }) := by
  unfold loseNode
  dsimp only
  cases s.nodes[a].role with
  | none => rfl
  | entry => exact if_pos h
  | stand i => exact if_pos h
  | gauge p => exact gaugeLost_record p _

section
variable (a : Node) (c : Int) (s : State) (h : s.track.mode = .stopped)
include h

theorem loseNode_stopped_keeps : (loseNode a c s).trips = s.trips ∧ (loseNode a c s).actuators = s.actuators ∧
    (loseNode a c s).nodes = upd s.nodes a fun n => { n with state := .lost } := by
  rw [loseNode_stopped a c s h]
  split <;> simp

theorem loseNode_stopped_gauge (g : Gauge) : (loseNode a c s).gauges[g] =
    if s.nodes[a].role = .gauge g then lostRecord s.gauges[g] else s.gauges[g] := by
  rw [loseNode_stopped a c s h]
  split
  case h_1 p hp =>
    have hraised : (raise .nodeLost (.node a) none c
        (s.onNode a fun n => { n with state := .lost })).gauges = s.gauges := by simp
    rw [State.onGauge_gauges, upd_at, hraised, hp]
    exact if_congr ⟨fun e => congrArg _ e.symm, fun e => (Role.gauge.inj e).symm⟩ rfl rfl
  case h_2 hno =>
    rw [if_neg (hno g)]
    simp

theorem loseNode_stopped_host (hroom : s.host.events.length < 48) : (loseNode a c s).host =
    { s.host with events := s.host.events ++ [⟨.nodeLost, .node a, none, BitVec.ofInt 32 c, s.now⟩] } := by
  rw [loseNode_stopped a c s h, raise_nodeLost a c s hroom]
  split <;> rfl
end

/-- `t` is `s` after the silence tests of some addresses, while tracking is STOPPED (R158, R160). -/
structure Silenced (l : List Node) (s t : State) : Prop where
  trips : t.trips = s.trips
  actuators : t.actuators = s.actuators
  nodes : ∀ a : Node, t.nodes[a] =
    if a ∈ l ∧ silent s a = true then { s.nodes[a] with state := .lost } else s.nodes[a]
  still : ∀ g : Gauge, (∀ a ∈ l, silent s a = true → s.nodes[a].role ≠ .gauge g) → t.gauges[g] = s.gauges[g]
  gone : ∀ (g : Gauge) (a : Node), a ∈ l → silent s a = true → s.nodes[a].role = .gauge g →
    t.gauges[g] = lostRecord s.gauges[g]
  host : s.host.events.length + l.length ≤ 48 → t.host = { s.host with
    events := s.host.events ++ (l.filter (silent s)).map fun a => ⟨.nodeLost, .node a, none, 0, s.now⟩ }

theorem Silenced.roles {l : List Node} {s t : State} (h : Silenced l s t) (a : Node) :
    t.nodes[a].role = s.nodes[a].role := by
  rw [h.nodes a]
  split <;> rfl

theorem silent_other {s t : State} (a : Node) (hn : t.nodes[a] = s.nodes[a]) (hnow : t.now = s.now)
    (hm : t.mill = s.mill) : silent t a = silent s a := by
  rw [silent, silent, State.silenceMs, State.silenceMs, hn, hnow, hm]

theorem silenceTests_stopped (l : List Node) (s : State) (h : s.track.mode = .stopped) (hu : RolesUnique s)
    (hl : l.Nodup) : Silenced l s (l.foldl (fun s a => silenceTest a s) s) := by
  induction l generalizing s with
  | nil =>
    refine ⟨rfl, rfl, fun a => ?_, fun g _ => rfl, fun g a ha => absurd ha List.not_mem_nil, fun _ => ?_⟩
    · exact (if_neg fun hc => List.not_mem_nil hc.1).symm
    · simp
  | cons a l ih =>
    obtain ⟨ha, hl⟩ := List.nodup_cons.mp hl
    rw [List.foldl_cons]
    by_cases hs : silent s a = true
    · have htest : silenceTest a s = loseNode a 0 s := if_pos hs
      obtain ⟨htrips, hact, hnodes⟩ := loseNode_stopped_keeps a 0 s h
      have hgauge := loseNode_stopped_gauge a 0 s h
      have hhost := loseNode_stopped_host a 0 s h
      have hstop : (loseNode a 0 s).track.mode = .stopped := by simp [h]
      have hnow : (loseNode a 0 s).now = s.now := by simp
      have hmill : (loseNode a 0 s).mill = s.mill := by simp
      rw [htest]
      generalize loseNode a 0 s = u at *
      have hrole : ∀ b : Node, u.nodes[b].role = s.nodes[b].role := fun b => by
        rw [hnodes, upd_at]
        split <;> rfl
      have hsame : ∀ b : Node, b ≠ a → u.nodes[b] = s.nodes[b] := fun b hb => by
        rw [hnodes, upd_other _ _ _ _ hb]
      have hsilent : ∀ b ∈ l, silent u b = silent s b := fun b hb =>
        silent_other b (hsame b fun e => ha (e ▸ hb)) hnow hmill
      have k := ih u hstop (rolesUnique_congr hrole hu) hl
      refine ⟨k.trips.trans htrips, k.actuators.trans hact, fun b => ?_, fun g hg => ?_, fun g b hb hsb hr => ?_,
        fun hroom => ?_⟩
      · rw [k.nodes b]
        by_cases hb : b = a
        · subst hb
          rw [if_neg fun hc => ha hc.1, if_pos ⟨List.mem_cons_self, hs⟩, hnodes, upd_same]
        · rw [hsame b hb]
          refine if_congr ?_ rfl rfl
          rw [List.mem_cons, or_iff_right hb]
          exact and_congr_right fun hb => by rw [hsilent b hb]
      · rw [k.still g fun b hb hsb => ?_, hgauge g, if_neg (hg a List.mem_cons_self hs)]
        rw [hrole b]
        exact hg b (List.mem_cons_of_mem a hb) (by rw [← hsilent b hb]; exact hsb)
      · obtain rfl | hb := List.mem_cons.mp hb
        · rw [k.still g fun c hc _ hcr => ?_, hgauge g, if_pos hr]
          rw [hrole c] at hcr
          exact ha (hu c b (hcr.trans hr.symm) (by rw [hcr]; exact nofun) ▸ hc)
        · have hne : s.nodes[a].role ≠ .gauge g := fun e =>
            ha (hu a b (e.trans hr.symm) (by rw [e]; exact nofun) ▸ hb)
          rw [k.gone g b hb (by rw [hsilent b hb]; exact hsb) (by rw [hrole b]; exact hr), hgauge g, if_neg hne]
      · rw [List.length_cons] at hroom
        have hh := hhost (by omega)
        rw [k.host (by rw [hh, List.length_append, List.length_singleton]; omega), hh,
          List.filter_cons_of_pos hs, List.filter_congr hsilent, hnow, List.map_cons, List.append_assoc,
          List.singleton_append]
        rfl
    · have htest : silenceTest a s = s := if_neg hs
      have hiff : ∀ b : Node, b ∈ a :: l ∧ silent s b = true ↔ b ∈ l ∧ silent s b = true := fun b => by
        rw [List.mem_cons]
        refine and_congr_left fun hb => or_iff_right ?_
        rintro rfl
        exact hs hb
      have k := ih s h hu hl
      rw [htest]
      refine ⟨k.trips, k.actuators, fun b => ?_, fun g hg => ?_, fun g b hb hsb hr => ?_, fun hroom => ?_⟩
      · rw [k.nodes b]
        exact if_congr (hiff b).symm rfl rfl
      · exact k.still g fun b hb => hg b (List.mem_cons_of_mem a hb)
      · exact k.gone g b ((hiff b).mp ⟨hb, hsb⟩).1 hsb hr
      · rw [List.length_cons] at hroom
        rw [k.host (by omega), List.filter_cons_of_neg hs]

end Sys2Proof.Machine
end


section
/-! SUPPORT. The stands and gauges a Configure Mill removes, with their roles (R7, R3). -/

namespace Sys2Proof.Machine

section
variable {ι : Type} (role : ι → Role) (above : State → ι → Prop) (rem : ι → State → State)
  (hnodes : ∀ s i, RolesUnique s → ∀ a : Node,
    (rem i s).nodes[a] = if s.nodes[a].role = role i then nodeReset .none else s.nodes[a])
  (hover : ∀ s i j, j ≠ i → (above (rem i s) j ↔ above s j))
  (hroles : ∀ s i, RolesUnique s → RolesUnique (rem i s))
  (hnone : ∀ i, role i ≠ .none) (f : State → ι → State)
  (hyes : ∀ s i, above s i → f s i = rem i s) (hno : ∀ s i, ¬ above s i → f s i = s)
include hnodes hover hroles hnone hyes hno

open Classical in
/-- Several holders removed, none twice: the addresses of their roles are freed (R3, R7). -/
theorem removals_nodes (l : List ι) (hl : l.Nodup) (s : State) (hu : RolesUnique s) :
    RolesUnique (l.foldl f s) ∧ ∀ a : Node, (l.foldl f s).nodes[a] =
      if ∃ i ∈ l, s.nodes[a].role = role i ∧ above s i then nodeReset .none else s.nodes[a] := by
  induction l generalizing s with
  | nil => exact ⟨hu, fun a => (if_neg (by rintro ⟨i, hi, -⟩; exact absurd hi List.not_mem_nil)).symm⟩
  | cons j l ih =>
    obtain ⟨hj, hl⟩ := List.nodup_cons.mp hl
    rw [List.foldl_cons]
    by_cases ho : above s j
    · rw [hyes s j ho]
      obtain ⟨huniq, hnd⟩ := ih hl (rem j s) (hroles s j hu)
      refine ⟨huniq, fun a => ?_⟩
      rw [hnd a, hnodes s j hu a]
      by_cases hr : s.nodes[a].role = role j
      · rw [if_pos hr, if_pos (show ∃ i ∈ j :: l, s.nodes[a].role = role i ∧ above s i from
          ⟨j, List.mem_cons_self, hr, ho⟩), if_neg]
        rintro ⟨i, -, hi, -⟩
        exact hnone i hi.symm
      · rw [if_neg hr]
        refine if_congr ?_ rfl rfl
        constructor
        · rintro ⟨i, hi, hri, hoi⟩
          exact ⟨i, List.mem_cons_of_mem j hi, hri, (hover s j i fun e => hj (e ▸ hi)).mp hoi⟩
        · rintro ⟨i, hi, hri, hoi⟩
          obtain rfl | hi := List.mem_cons.mp hi
          · exact absurd hri hr
          · exact ⟨i, hi, hri, (hover s j i fun e => hj (e ▸ hi)).mpr hoi⟩
    · rw [hno s j ho]
      obtain ⟨huniq, hnd⟩ := ih hl s hu
      refine ⟨huniq, fun a => ?_⟩
      rw [hnd a]
      refine if_congr ?_ rfl rfl
      constructor
      · rintro ⟨i, hi, h⟩
        exact ⟨i, List.mem_cons_of_mem j hi, h⟩
      · rintro ⟨i, hi, hri, hoi⟩
        obtain rfl | hi := List.mem_cons.mp hi
        · exact absurd hoi ho
        · exact ⟨i, hi, hri, hoi⟩
end

/-- The stand is configured above N (R7). -/
def standOver (s : State) (i : Stand) : Prop := s.stands[i].configured = true ∧ ¬ withinN s i = true

/-- The gauge is installed above N (R7). -/
def gaugeOver (s : State) (g : Gauge) : Prop := s.gauges[g].installed = true ∧ s.mill.n < g.val

/-- A stand above N is removed (R7). -/
def trimStand (s : State) (i : Stand) : State :=
  if s.stands[i].configured ∧ ¬ withinN s i then removeStand i s else s

/-- A gauge above N is removed (R7). -/
def trimGauge (s : State) (g : Gauge) : State :=
  if s.gauges[g].installed ∧ s.mill.n < g.val then removeGauge g s else s

theorem trimStand_over (s : State) (i : Stand) (h : standOver s i) : trimStand s i = removeStand i s := if_pos h

theorem trimStand_kept (s : State) (i : Stand) (h : ¬ standOver s i) : trimStand s i = s := if_neg h

theorem trimGauge_over (s : State) (g : Gauge) (h : gaugeOver s g) : trimGauge s g = removeGauge g s := if_pos h

theorem trimGauge_kept (s : State) (g : Gauge) (h : ¬ gaugeOver s g) : trimGauge s g = s := if_neg h

theorem removeStand_eq (i : Stand) (s : State) : removeStand i s =
    { s with
      nodes := (dropRole (.stand i) s).nodes
      stands := upd s.stands i fun _ => standReset
      demands := upd s.demands i fun _ => demandReset
      actuators := upd s.actuators i fun _ => actuatorReset } := by
  rw [removeStand, dropRole_eq]
  rfl

theorem standOver_other (s : State) (i j : Stand) (h : j ≠ i) : standOver (removeStand i s) j ↔ standOver s j := by
  rw [removeStand_eq]
  simp only [standOver, upd_other _ _ _ _ h]
  exact Iff.rfl

theorem gaugeOver_other (s : State) (i j : Gauge) (h : j ≠ i) : gaugeOver (removeGauge i s) j ↔ gaugeOver s j := by
  have hg : (removeGauge i s).gauges[j] = s.gauges[j] := by
    rw [removeGauge_eq]
    exact upd_other s.gauges i j (fun _ => gaugeReset) h
  simp only [gaugeOver, hg, removeGauge_frame]

/-- The stands trimmed: roles, and each stand's own state (R7). -/
theorem trimStands_nodes (s : State) (hu : RolesUnique s) : RolesUnique (allStands.foldl trimStand s) ∧
    ∀ a : Node, ((∃ i : Stand, s.nodes[a].role = .stand i ∧ standOver s i) →
        (allStands.foldl trimStand s).nodes[a] = nodeReset .none) ∧
      ((¬ ∃ i : Stand, s.nodes[a].role = .stand i ∧ standOver s i) →
        (allStands.foldl trimStand s).nodes[a] = s.nodes[a]) := by
  obtain ⟨huniq, hnd⟩ := removals_nodes Role.stand standOver removeStand
    (fun s i hu a => by rw [removeStand_eq]; exact dropRole_nodes (.stand i) s hu nofun a) standOver_other
    (fun s i hu => rolesUnique_of_nodes (s := dropRole (.stand i) s) rfl (rolesUnique_dropRole _ s nofun hu))
    (fun _ => nofun) trimStand trimStand_over trimStand_kept allStands (by decide) s hu
  refine ⟨huniq, fun a => ?_⟩
  rw [hnd a]
  exact ⟨fun ⟨i, hi⟩ => if_pos ⟨i, mem_allStands i, hi⟩, fun h => if_neg fun ⟨i, _, hi⟩ => h ⟨i, hi⟩⟩

theorem trimGauges_nodes (s : State) (hu : RolesUnique s) : RolesUnique (allGauges.foldl trimGauge s) ∧
    ∀ a : Node, ((∃ g : Gauge, s.nodes[a].role = .gauge g ∧ gaugeOver s g) →
        (allGauges.foldl trimGauge s).nodes[a] = nodeReset .none) ∧
      ((¬ ∃ g : Gauge, s.nodes[a].role = .gauge g ∧ gaugeOver s g) →
        (allGauges.foldl trimGauge s).nodes[a] = s.nodes[a]) := by
  obtain ⟨huniq, hnd⟩ := removals_nodes Role.gauge gaugeOver removeGauge
    (fun s i hu a => by rw [removeGauge_eq]; exact dropRole_nodes (.gauge i) s hu nofun a) gaugeOver_other
    (fun s i hu => rolesUnique_of_nodes (s := dropRole (.gauge i) s) rfl (rolesUnique_dropRole _ s nofun hu))
    (fun _ => nofun) trimGauge trimGauge_over trimGauge_kept allGauges (by decide) s hu
  refine ⟨huniq, fun a => ?_⟩
  rw [hnd a]
  exact ⟨fun ⟨i, hi⟩ => if_pos ⟨i, mem_allGauges i, hi⟩, fun h => if_neg fun ⟨i, _, hi⟩ => h ⟨i, hi⟩⟩

/-- What a removal of stands leaves of one stand (R7). -/
theorem trimStands_stand (s : State) (i : Stand) :
    (standOver s i → (allStands.foldl trimStand s).stands[i] = standReset ∧
      (allStands.foldl trimStand s).demands[i] = demandReset ∧
      (allStands.foldl trimStand s).actuators[i] = actuatorReset) ∧
    (¬ standOver s i → (allStands.foldl trimStand s).stands[i] = s.stands[i] ∧
      (allStands.foldl trimStand s).demands[i] = s.demands[i] ∧
      (allStands.foldl trimStand s).actuators[i] = s.actuators[i]) := by
  obtain ⟨u, hu, hat⟩ := foldl_stands_at trimStand
    (fun s => (s.stands[i], s.demands[i], s.actuators[i], s.mill)) i (fun s j hj => by
      by_cases ho : standOver s j
      · rw [trimStand_over s j ho, removeStand_eq]
        simp only [upd_other _ _ _ _ (Ne.symm hj)]
      · rw [trimStand_kept s j ho]) s
  obtain ⟨hs, hd, ha, hm⟩ : u.stands[i] = s.stands[i] ∧ u.demands[i] = s.demands[i] ∧
      u.actuators[i] = s.actuators[i] ∧ u.mill = s.mill := by simpa only [Prod.mk.injEq] using hu
  obtain ⟨hs', hd', ha', -⟩ : (allStands.foldl trimStand s).stands[i] = (trimStand u i).stands[i] ∧
      (allStands.foldl trimStand s).demands[i] = (trimStand u i).demands[i] ∧
      (allStands.foldl trimStand s).actuators[i] = (trimStand u i).actuators[i] ∧ _ := by
    simpa only [Prod.mk.injEq] using hat
  have hiff : standOver u i ↔ standOver s i := by
    rw [standOver, standOver, hs, withinN_iff, withinN_iff, hm]
  rw [hs', hd', ha']
  refine ⟨fun ho => ?_, fun ho => ?_⟩
  · rw [trimStand_over u i (hiff.mpr ho), removeStand_eq]
    exact ⟨upd_same _ _ _, upd_same _ _ _, upd_same _ _ _⟩
  · rw [trimStand_kept u i fun h => ho (hiff.mp h)]
    exact ⟨hs, hd, ha⟩

/-- What a removal of gauges leaves of one gauge (R7). -/
theorem trimGauges_gauge (s : State) (g : Gauge) :
    (gaugeOver s g → (allGauges.foldl trimGauge s).gauges[g] = gaugeReset) ∧
    (¬ gaugeOver s g → (allGauges.foldl trimGauge s).gauges[g] = s.gauges[g]) := by
  obtain ⟨u, hu, hat⟩ := foldl_at trimGauge (fun s => (s.gauges[g], s.mill)) g (fun s j hj => by
      by_cases ho : gaugeOver s j
      · rw [trimGauge_over s j ho, removeGauge_eq]
        exact congrArg (·, s.mill) (upd_other s.gauges j g (fun _ => gaugeReset) (Ne.symm hj))
      · rw [trimGauge_kept s j ho]) allGauges (by decide) (mem_allGauges g) s
  obtain ⟨hg, hm⟩ : u.gauges[g] = s.gauges[g] ∧ u.mill = s.mill := by simpa only [Prod.mk.injEq] using hu
  obtain ⟨hg', -⟩ : (allGauges.foldl trimGauge s).gauges[g] = (trimGauge u g).gauges[g] ∧ _ := by
    simpa only [Prod.mk.injEq] using hat
  have hiff : gaugeOver u g ↔ gaugeOver s g := by
    rw [gaugeOver, gaugeOver, hg, hm]
  rw [hg']
  refine ⟨fun ho => ?_, fun ho => ?_⟩
  · rw [trimGauge_over u g (hiff.mpr ho), removeGauge_eq]
    exact upd_same u.gauges g fun _ => gaugeReset
  · rw [trimGauge_kept u g fun h => ho (hiff.mp h), hg]

/-- What the removals leave as it was. -/
theorem trimStands_frame (s : State) : (allStands.foldl trimStand s).mill = s.mill ∧
    (allStands.foldl trimStand s).gauges = s.gauges ∧ (allStands.foldl trimStand s).trips = s.trips ∧
    (allStands.foldl trimStand s).track = s.track ∧ (allStands.foldl trimStand s).now = s.now ∧
    (allStands.foldl trimStand s).link = s.link ∧ (allStands.foldl trimStand s).host = s.host := by
  have hstep : ∀ (u : State) (i : Stand), (trimStand u i).mill = u.mill ∧ (trimStand u i).gauges = u.gauges ∧
      (trimStand u i).trips = u.trips ∧ (trimStand u i).track = u.track ∧ (trimStand u i).now = u.now ∧
      (trimStand u i).link = u.link ∧ (trimStand u i).host = u.host := fun u i => by
    unfold trimStand
    split
    · simp
    · exact ⟨rfl, rfl, rfl, rfl, rfl, rfl, rfl⟩
  have hall : ∀ (u : State) (i : Stand), ((trimStand u i).mill, (trimStand u i).gauges, (trimStand u i).trips,
      (trimStand u i).track, (trimStand u i).now, (trimStand u i).link, (trimStand u i).host) =
      (u.mill, u.gauges, u.trips, u.track, u.now, u.link, u.host) := fun u i => by
    simpa only [Prod.mk.injEq] using hstep u i
  simpa only [Prod.mk.injEq] using foldl_keeps trimStand
    (fun u => (u.mill, u.gauges, u.trips, u.track, u.now, u.link, u.host)) allStands (fun u i _ => hall u i) s

theorem trimGauges_frame (s : State) : (allGauges.foldl trimGauge s).mill = s.mill ∧
    (allGauges.foldl trimGauge s).stands = s.stands ∧ (allGauges.foldl trimGauge s).demands = s.demands ∧
    (allGauges.foldl trimGauge s).actuators = s.actuators ∧ (allGauges.foldl trimGauge s).trips = s.trips ∧
    (allGauges.foldl trimGauge s).track = s.track ∧ (allGauges.foldl trimGauge s).now = s.now ∧
    (allGauges.foldl trimGauge s).link = s.link ∧ (allGauges.foldl trimGauge s).host = s.host := by
  have hall : ∀ (u : State) (g : Gauge), ((trimGauge u g).mill, (trimGauge u g).stands, (trimGauge u g).demands,
      (trimGauge u g).actuators, (trimGauge u g).trips, (trimGauge u g).track, (trimGauge u g).now,
      (trimGauge u g).link, (trimGauge u g).host) =
      (u.mill, u.stands, u.demands, u.actuators, u.trips, u.track, u.now, u.link, u.host) := fun u g => by
    unfold trimGauge
    split
    · simp
    · rfl
  simpa only [Prod.mk.injEq] using foldl_keeps trimGauge
    (fun u => (u.mill, u.stands, u.demands, u.actuators, u.trips, u.track, u.now, u.link, u.host)) allGauges
    (fun u g _ => hall u g) s

end Sys2Proof.Machine
end


section
/-! SUPPORT. What an accepted Configure Mill leaves (R7, R16, R135). -/

namespace Sys2Proof.Machine

section
variable (p : MillParams) (e : Node) (s : State)

/-- The role is one that the request removes (R7). -/
def removedRole (r : Role) : Prop :=
  (∃ i : Stand, r = .stand i ∧ s.stands[i].configured = true ∧ p.n.toNat < i.val + 1) ∨
    ∃ g : Gauge, r = .gauge g ∧ s.gauges[g].installed = true ∧ p.n.toNat < g.val

/-- The address keeps its entry (R3, R7). -/
def keepsEntry (a : Node) : Prop :=
  if a = e then s.nodes[a].role = .entry else s.nodes[a].role ≠ .entry ∧ ¬ removedRole p s s.nodes[a].role

/-- The address keeps its entry and is silent for longer than the new SILENCE_MS (R158). -/
def fallsSilent (a : Node) : Prop := keepsEntry p e s a ∧ s.nodes[a].state = .present ∧
  p.silenceMs.toNat < (s.now - s.nodes[a].lastFrame).toNat

/-- The mill record and the entry role written (R7). -/
def millBase : State := giveRole e .entry (forgetDrive e .entry (s.onMill fun _ => millRecordOf p))

/-- The stands and gauges above the new N removed (R7). -/
def millTrim : State := allGauges.foldl trimGauge (allStands.foldl trimStand (millBase p e s))

theorem millEffect_eq : millEffect p e s = confirmTest (allSilenceTests (millTrim p e s)) := rfl

theorem millBase_frame : (millBase p e s).mill = millRecordOf p ∧ (millBase p e s).stands = s.stands ∧
    (millBase p e s).demands = s.demands ∧ (millBase p e s).actuators = s.actuators ∧
    (millBase p e s).gauges = s.gauges ∧ (millBase p e s).track = s.track ∧ (millBase p e s).now = s.now ∧
    (millBase p e s).link = s.link ∧ (millBase p e s).host = s.host := by
  simp [millBase]

theorem millBase_trips : (millBase p e s).trips =
    if s.nodes[e].role = .entry then s.trips else { s.trips with driveEntry := .unknown } := by
  have hgive : (millBase p e s).trips = (forgetDrive e .entry (s.onMill fun _ => millRecordOf p)).trips := by
    simp [millBase]
  rw [hgive, forgetDrive]
  by_cases hr : s.nodes[e].role = .entry
  · have hr' : (s.onMill fun _ => millRecordOf p).nodes[e].role = .entry := hr
    rw [if_pos hr, if_pos hr']
    rfl
  · have hr' : (s.onMill fun _ => millRecordOf p).nodes[e].role ≠ .entry := hr
    rw [if_neg hr, if_neg hr']
    rfl

theorem standOver_millBase (i : Stand) :
    standOver (millBase p e s) i ↔ s.stands[i].configured = true ∧ p.n.toNat < i.val + 1 := by
  obtain ⟨hm, hs, -⟩ := millBase_frame p e s
  rw [standOver, withinN_iff, hm, hs]
  exact and_congr_right fun _ => Nat.not_le

theorem gaugeOver_trimmed (g : Gauge) : gaugeOver (allStands.foldl trimStand (millBase p e s)) g ↔
    s.gauges[g].installed = true ∧ p.n.toNat < g.val := by
  obtain ⟨hm, -, -, -, hg, -⟩ := millBase_frame p e s
  obtain ⟨hm', hg', -⟩ := trimStands_frame (millBase p e s)
  rw [gaugeOver, hm', hg', hm, hg]
  exact Iff.rfl

theorem millTrim_frame : (millTrim p e s).mill = millRecordOf p ∧ (millTrim p e s).track = s.track ∧
    (millTrim p e s).now = s.now ∧ (millTrim p e s).link = s.link ∧ (millTrim p e s).host = s.host ∧
    (millTrim p e s).trips = (millBase p e s).trips := by
  obtain ⟨hm, -, -, -, -, htr, hn, hl, hh⟩ := millBase_frame p e s
  obtain ⟨hm', -, ht', htr', hn', hl', hh'⟩ := trimStands_frame (millBase p e s)
  obtain ⟨hm'', -, -, -, ht'', htr'', hn'', hl'', hh''⟩ := trimGauges_frame (allStands.foldl trimStand (millBase p e s))
  exact ⟨hm''.trans (hm'.trans hm), htr''.trans (htr'.trans htr), hn''.trans (hn'.trans hn),
    hl''.trans (hl'.trans hl), hh''.trans (hh'.trans hh), ht''.trans ht'⟩

theorem millTrim_stand (i : Stand) :
    (s.stands[i].configured = true ∧ p.n.toNat < i.val + 1 → (millTrim p e s).stands[i] = standReset ∧
      (millTrim p e s).demands[i] = demandReset ∧ (millTrim p e s).actuators[i] = actuatorReset) ∧
    (¬ (s.stands[i].configured = true ∧ p.n.toNat < i.val + 1) → (millTrim p e s).stands[i] = s.stands[i] ∧
      (millTrim p e s).demands[i] = s.demands[i] ∧ (millTrim p e s).actuators[i] = s.actuators[i]) := by
  obtain ⟨-, hs, hd, ha, -⟩ := millBase_frame p e s
  obtain ⟨-, hs', hd', ha', -⟩ := trimGauges_frame (allStands.foldl trimStand (millBase p e s))
  have hat := trimStands_stand (millBase p e s) i
  rw [standOver_millBase, hs, hd, ha] at hat
  rw [millTrim, hs', hd', ha']
  exact hat

theorem millTrim_gauge (g : Gauge) :
    (s.gauges[g].installed = true ∧ p.n.toNat < g.val → (millTrim p e s).gauges[g] = gaugeReset) ∧
    (¬ (s.gauges[g].installed = true ∧ p.n.toNat < g.val) → (millTrim p e s).gauges[g] = s.gauges[g]) := by
  obtain ⟨-, -, -, -, hg, -⟩ := millBase_frame p e s
  obtain ⟨-, hg', -⟩ := trimStands_frame (millBase p e s)
  have hat := trimGauges_gauge (allStands.foldl trimStand (millBase p e s)) g
  rw [gaugeOver_trimmed, hg', hg] at hat
  exact hat

section
variable (hu : RolesUnique s)
include hu

theorem millBase_roles : RolesUnique (millBase p e s) :=
  rolesUnique_giveRole e .entry _ nofun (rolesUnique_of_nodes (by simp) hu)

theorem millBase_nodes (a : Node) : (millBase p e s).nodes[a] =
    if s.nodes[a].role = .entry then (if a = e then s.nodes[a] else nodeReset .none)
    else if a = e then nodeReset .entry else s.nodes[a] := by
  have hnodes : (forgetDrive e .entry (s.onMill fun _ => millRecordOf p)).nodes = s.nodes := by simp
  have := giveRole_nodes e .entry (forgetDrive e .entry (s.onMill fun _ => millRecordOf p))
    (rolesUnique_of_nodes hnodes hu) nofun a
  rw [hnodes] at this
  exact this

theorem millTrim_roles : RolesUnique (millTrim p e s) :=
  (trimGauges_nodes _ (trimStands_nodes _ (millBase_roles p e s hu)).1).1

/-- A removal frees the addresses whose role it removes (R3, R7). -/
theorem millTrim_base (a : Node) :
    (removedRole p s (millBase p e s).nodes[a].role → (millTrim p e s).nodes[a] = nodeReset .none) ∧
    (¬ removedRole p s (millBase p e s).nodes[a].role → (millTrim p e s).nodes[a] = (millBase p e s).nodes[a]) := by
  obtain ⟨huniq, hstands⟩ := trimStands_nodes (millBase p e s) (millBase_roles p e s hu)
  obtain ⟨hfree, hkeep⟩ := hstands a
  obtain ⟨-, hgauges⟩ := trimGauges_nodes _ huniq
  obtain ⟨hfree', hkeep'⟩ := hgauges a
  simp only [standOver_millBase, gaugeOver_trimmed] at hfree hkeep hfree' hkeep'
  by_cases hs : ∃ i : Stand, (millBase p e s).nodes[a].role = .stand i ∧
      s.stands[i].configured = true ∧ p.n.toNat < i.val + 1
  · have hnone : (millTrim p e s).nodes[a] = nodeReset .none := by
      refine (hkeep' ?_).trans (hfree hs)
      rw [hfree hs]
      rintro ⟨g, hg, -⟩
      cases hg
    exact ⟨fun _ => hnone, fun h => absurd (.inl hs) h⟩
  · rw [hkeep hs] at hfree' hkeep'
    refine ⟨fun h => hfree' (h.resolve_left hs), fun h => hkeep' fun hg => h (.inr hg)⟩

/-- The node table after the removals, address by address (R3, R7). -/
theorem millTrim_nodes (a : Node) : (keepsEntry p e s a → (millTrim p e s).nodes[a] = s.nodes[a]) ∧
    (¬ keepsEntry p e s a → (millTrim p e s).nodes[a] = nodeReset (if a = e then .entry else .none)) := by
  have hbase := millBase_nodes p e s hu a
  obtain ⟨hfree, hkeep⟩ := millTrim_base p e s hu a
  have hentry : ¬ removedRole p s .entry := by
    rintro (⟨i, hi, -⟩ | ⟨g, hg, -⟩)
    · cases hi
    · cases hg
  have hnone : ¬ removedRole p s .none := by
    rintro (⟨i, hi, -⟩ | ⟨g, hg, -⟩)
    · cases hi
    · cases hg
  rw [keepsEntry]
  by_cases ha : a = e
  · simp only [if_pos ha] at hbase ⊢
    refine ⟨fun hr => ?_, fun hr => ?_⟩
    · rw [if_pos hr] at hbase
      rw [hkeep (by rw [hbase, hr]; exact hentry), hbase]
    · rw [if_neg hr] at hbase
      rw [hkeep (by rw [hbase]; exact hentry), hbase]
  · simp only [if_neg ha] at hbase ⊢
    by_cases hr : s.nodes[a].role = .entry
    · rw [if_pos hr] at hbase
      refine ⟨fun h => absurd hr h.1, fun _ => ?_⟩
      rw [hkeep (by rw [hbase]; exact hnone), hbase]
    · rw [if_neg hr] at hbase
      rw [hbase] at hfree hkeep
      exact ⟨fun h => hkeep h.2, fun h => hfree (by_contra fun hno => h ⟨hr, hno⟩)⟩

/-- The addresses whose silence test loses them (R158). -/
theorem silent_millTrim (a : Node) : silent (millTrim p e s) a = true ↔ fallsSilent p e s a := by
  obtain ⟨hmill, -, hnow, -⟩ := millTrim_frame p e s
  obtain ⟨hkeep, hreset⟩ := millTrim_nodes p e s hu a
  have hms : (millTrim p e s).silenceMs = p.silenceMs.toNat := by
    rw [State.silenceMs, hmill]
    rfl
  rw [silent, Bool.and_eq_true, decide_eq_true_iff, decide_eq_true_iff, hms, hnow, fallsSilent]
  by_cases hk : keepsEntry p e s a
  · rw [hkeep hk]
    exact (and_iff_right hk).symm
  · rw [hreset hk]
    exact iff_of_false (fun h => absurd h.1 nofun) fun h => hk h.1

/-- The silence tests that follow the removals (R16). -/
theorem millSilenced (h : s.track.mode = .stopped) :
    Silenced allNodes (millTrim p e s) (allSilenceTests (millTrim p e s)) := by
  obtain ⟨-, htrack, -⟩ := millTrim_frame p e s
  exact silenceTests_stopped allNodes _ (by rw [htrack]; exact h) (millTrim_roles p e s hu) (by decide)
end
end

end Sys2Proof.Machine
end


section
/-! SUPPORT. The state after an accepted Configure Mill, part by part (R7, R16, R135). -/

namespace Sys2Proof.Machine

theorem openFilled_at {s t : State} {i : Stand} (h : t.actuators[i] = s.actuators[i]) :
    openFilled t i = openFilled s i := by
  simp only [openFilled, h]

/-- The confirmation test adds at most one event to the host's state (R135, R151). -/
theorem confirmTest_host (s : State) (hroom : s.host.events.length < 48) :
    (confirmTest s).host = { s.host with events := (confirmTest s).host.events } := by
  unfold confirmTest
  split
  · rw [raise_room _ _ _ _ (s.onTrips _) hroom]
    rfl
  · rfl

section
variable (p : MillParams) (e : Node) (s : State)

/-- A configured mill's counted nodes confirm, as the statement says it (R135). -/
def millConfirms (t : State) : Prop :=
  (t.nodes[e].state = .present ∧ (t.trips.driveEntry = .stopping ∨ t.trips.driveEntry = .stopped)) ∧
    ∀ i : Stand, t.stands[i].configured = true → i.val + 1 ≤ p.n.toNat →
      ∃ a : Node, t.nodes[a].role = .stand i ∧ t.nodes[a].state = .present ∧
        (t.trips.drive[i] = .stopping ∨ t.trips.drive[i] = .stopped)

omit s in
/-- The confirmation test of a configured mill with its entry address (R135). -/
theorem confirmHolds_entry (v : State) (hu : RolesUnique v) (hm : v.mill = millRecordOf p)
    (hent : ∀ a : Node, v.nodes[a].role = .entry ↔ a = e) :
    confirmHolds v = true ↔ millConfirms p e (confirmTest v) := by
  obtain ⟨hdrive, hdriveEntry, -⟩ := confirmTest_kept v
  have hnodes : (confirmTest v).nodes = v.nodes := by simp
  have hstands : (confirmTest v).stands = v.stands := by simp
  rw [confirmHolds_iff v hu, millConfirms, hnodes, hstands, hdrive, hdriveEntry, hm]
  refine and_congr ⟨fun hc => ?_, fun hc _ => ?_⟩ Iff.rfl
  · obtain ⟨a, ha, hpres, hd⟩ := hc rfl
    obtain rfl := (hent a).mp ha
    exact ⟨hpres, hd⟩
  · exact ⟨e, (hent e).mpr rfl, hc⟩

theorem millEffect_kept : (millEffect p e s).nodes = (allSilenceTests (millTrim p e s)).nodes ∧
    (millEffect p e s).gauges = (allSilenceTests (millTrim p e s)).gauges ∧
    (millEffect p e s).mill = millRecordOf p := by
  obtain ⟨hmill, -⟩ := millTrim_frame p e s
  rw [millEffect_eq]
  refine ⟨by simp, by simp, ?_⟩
  simp only [confirmTest_frame, allSilenceTests_frame]
  exact hmill

section
variable (h : s.track.mode = .stopped) (hu : RolesUnique s)
include h hu

/-- The stands above the new N are removed, the others kept (R7). -/
theorem millEffect_stand (i : Stand) :
    (s.stands[i].configured = true ∧ p.n.toNat < i.val + 1 → (millEffect p e s).stands[i] = standReset ∧
      (millEffect p e s).demands[i] = demandReset ∧ (millEffect p e s).actuators[i] = actuatorReset) ∧
    (¬ (s.stands[i].configured = true ∧ p.n.toNat < i.val + 1) → (millEffect p e s).stands[i] = s.stands[i] ∧
      (millEffect p e s).demands[i] = s.demands[i] ∧ (millEffect p e s).actuators[i] = s.actuators[i]) := by
  have hs : (millEffect p e s).stands = (millTrim p e s).stands := by
    rw [millEffect_eq]
    simp
  have hd : (millEffect p e s).demands = (millTrim p e s).demands := by
    rw [millEffect_eq]
    simp
  have ha : (millEffect p e s).actuators = (millTrim p e s).actuators := by
    rw [millEffect_eq, confirmTest_actuators, (millSilenced p e s hu h).actuators]
  rw [hs, hd, ha]
  exact millTrim_stand p e s i

/-- The nodes after an accepted Configure Mill (R3, R7, R158, R160). -/
theorem millEffect_node (a : Node) :
    (fallsSilent p e s a → (millEffect p e s).nodes[a] = { s.nodes[a] with state := .lost }) ∧
    (keepsEntry p e s a → ¬ fallsSilent p e s a → (millEffect p e s).nodes[a] = s.nodes[a]) ∧
    (¬ keepsEntry p e s a → (millEffect p e s).nodes[a] = nodeReset (if a = e then .entry else .none)) := by
  have hat := (millSilenced p e s hu h).nodes a
  have hiff : (a ∈ allNodes ∧ silent (millTrim p e s) a = true) ↔ fallsSilent p e s a := by
    rw [silent_millTrim p e s hu, and_iff_right (mem_allNodes a)]
  obtain ⟨hkeep, hreset⟩ := millTrim_nodes p e s hu a
  rw [(millEffect_kept p e s).1, hat]
  refine ⟨fun hf => ?_, fun hk hf => ?_, fun hk => ?_⟩
  · rw [if_pos (hiff.mpr hf), hkeep hf.1]
  · rw [if_neg fun hs => hf (hiff.mp hs), hkeep hk]
  · rw [if_neg fun hs => hk (hiff.mp hs).1, hreset hk]

theorem millEffect_role (a : Node) :
    (keepsEntry p e s a → (millEffect p e s).nodes[a].role = s.nodes[a].role) ∧
    (¬ keepsEntry p e s a → (millEffect p e s).nodes[a].role = if a = e then .entry else .none) := by
  obtain ⟨hf, hk, hr⟩ := millEffect_node p e s h hu a
  refine ⟨fun hkeep => ?_, fun hkeep => ?_⟩
  · by_cases hs : fallsSilent p e s a
    · rw [hf hs]
    · rw [hk hkeep hs]
  · rw [hr hkeep]
    rfl

/-- The entry address holds the entry role, alone (R3). -/
theorem millEffect_entry (a : Node) : (millEffect p e s).nodes[a].role = .entry ↔ a = e := by
  obtain ⟨hk, hr⟩ := millEffect_role p e s h hu a
  by_cases hkeep : keepsEntry p e s a
  · rw [hk hkeep]
    unfold keepsEntry at hkeep
    by_cases ha : a = e
    · rw [if_pos ha] at hkeep
      exact iff_of_true hkeep ha
    · rw [if_neg ha] at hkeep
      exact iff_of_false hkeep.1 ha
  · rw [hr hkeep]
    by_cases ha : a = e
    · rw [if_pos ha]
      exact iff_of_true rfl ha
    · rw [if_neg ha]
      exact iff_of_false nofun ha

/-- No address holds a role that was removed (R7). -/
theorem millEffect_removed (a : Node) (r : Role) (hr : removedRole p s r) : (millEffect p e s).nodes[a].role ≠ r := by
  intro hat
  have hentry : r ≠ .entry := by
    rintro rfl
    obtain ⟨i, hi, -⟩ | ⟨g, hg, -⟩ := hr
    · cases hi
    · cases hg
  have hnone : r ≠ .none := by
    rintro rfl
    obtain ⟨i, hi, -⟩ | ⟨g, hg, -⟩ := hr
    · cases hi
    · cases hg
  obtain ⟨hk, hfree⟩ := millEffect_role p e s h hu a
  by_cases hkeep : keepsEntry p e s a
  · have hrole := (hk hkeep).symm.trans hat
    unfold keepsEntry at hkeep
    by_cases ha : a = e
    · rw [if_pos ha] at hkeep
      exact hentry (hrole.symm.trans hkeep)
    · rw [if_neg ha, hrole] at hkeep
      exact hkeep.2 hr
  · have hrole := (hfree hkeep).symm.trans hat
    by_cases ha : a = e
    · rw [if_pos ha] at hrole
      exact hentry hrole.symm
    · rw [if_neg ha] at hrole
      exact hnone hrole.symm

/-- A gauge above the new N is removed (R7). -/
theorem millEffect_gaugeRemoved (g : Gauge) (hg : s.gauges[g].installed = true ∧ p.n.toNat < g.val) :
    (millEffect p e s).gauges[g] = gaugeReset := by
  rw [(millEffect_kept p e s).2.1, (millSilenced p e s hu h).still g fun a _ hs hr => ?_]
  · exact (millTrim_gauge p e s g).1 hg
  · have hf := (silent_millTrim p e s hu a).mp hs
    have hno := millEffect_removed p e s h hu a (.gauge g) (.inr ⟨g, rfl, hg⟩)
    rw [(millEffect_role p e s h hu a).1 hf.1, ← (millTrim_nodes p e s hu a).1 hf.1] at hno
    exact hno hr

/-- A gauge not above the new N stays; a silent node's becomes ABSENT (R7, R160). -/
theorem millEffect_gauge (g : Gauge) (hg : ¬ (s.gauges[g].installed = true ∧ p.n.toNat < g.val)) :
    ((∀ a : Node, fallsSilent p e s a → s.nodes[a].role ≠ .gauge g) →
      (millEffect p e s).gauges[g] = s.gauges[g]) ∧
    ∀ a : Node, fallsSilent p e s a → s.nodes[a].role = .gauge g →
      (millEffect p e s).gauges[g] = lostRecord s.gauges[g] := by
  have htrim := (millTrim_gauge p e s g).2 hg
  rw [(millEffect_kept p e s).2.1]
  refine ⟨fun hno => ?_, fun a hf hr => ?_⟩
  · rw [(millSilenced p e s hu h).still g fun a _ hs hr => ?_, htrim]
    have hf := (silent_millTrim p e s hu a).mp hs
    rw [(millTrim_nodes p e s hu a).1 hf.1] at hr
    exact hno a hf hr
  · rw [(millSilenced p e s hu h).gone g a (mem_allNodes a) ((silent_millTrim p e s hu a).mpr hf)
      (by rw [(millTrim_nodes p e s hu a).1 hf.1]; exact hr), htrim]

/-- What holds of a gauge's own settings (R7). -/
theorem millEffect_fixed (g : Gauge) (hg : ¬ (s.gauges[g].installed = true ∧ p.n.toNat < g.val)) :
    (millEffect p e s).gauges[g].installed = s.gauges[g].installed ∧
    (millEffect p e s).gauges[g].addr = s.gauges[g].addr ∧ (millEffect p e s).gauges[g].g = s.gauges[g].g ∧
    (millEffect p e s).gauges[g].stdLength = s.gauges[g].stdLength ∧
    (millEffect p e s).gauges[g].weldGuard = s.gauges[g].weldGuard ∧
    (millEffect p e s).gauges[g].length = s.gauges[g].length := by
  obtain ⟨hstill, hgone⟩ := millEffect_gauge p e s h hu g hg
  by_cases ha : ∃ a : Node, fallsSilent p e s a ∧ s.nodes[a].role = .gauge g
  · obtain ⟨a, hf, hr⟩ := ha
    rw [hgone a hf hr]
    exact lostRecord_fixed _
  · rw [hstill fun a hf hr => ha ⟨a, hf, hr⟩]
    exact ⟨rfl, rfl, rfl, rfl, rfl, rfl⟩

/-- The trips after an accepted Configure Mill, before the confirmation (R7, R137). -/
theorem millSilenced_trips : (allSilenceTests (millTrim p e s)).trips =
    if s.nodes[e].role = .entry then s.trips else { s.trips with driveEntry := .unknown } := by
  obtain ⟨-, -, -, -, -, htrips⟩ := millTrim_frame p e s
  rw [(millSilenced p e s hu h).trips, htrips, millBase_trips]

theorem millEffect_confirmHolds :
    confirmHolds (allSilenceTests (millTrim p e s)) = true ↔ millConfirms p e (millEffect p e s) := by
  obtain ⟨hmill, -⟩ := millTrim_frame p e s
  have hent := fun a => millEffect_entry p e s h hu a
  have hnodes := (millEffect_kept p e s).1
  have hsilent := (millSilenced p e s hu h).roles
  have huniq := millTrim_roles p e s hu
  have hmill' : (allSilenceTests (millTrim p e s)).mill = millRecordOf p := by simp [hmill]
  rw [millEffect_eq] at hent hnodes ⊢
  generalize allSilenceTests (millTrim p e s) = v at *
  refine confirmHolds_entry p e v (rolesUnique_congr hsilent huniq) hmill' fun a => ?_
  rw [← hnodes]
  exact hent a

omit h hu in
theorem settled_millTrim (hs : Settled s) : Settled (millTrim p e s) := by
  obtain ⟨-, -, -, hl, -, ht⟩ := millTrim_frame p e s
  have hstops : (millTrim p e s).trips.stopWanted = s.trips.stopWanted ∧
      (millTrim p e s).trips.stopSent = s.trips.stopSent := by
    rw [ht, millBase_trips]
    split <;> exact ⟨rfl, rfl⟩
  refine settled_sameStops s _ hl hstops.1 hstops.2 (fun i hi => ?_) hs
  obtain ⟨hgone, hkept⟩ := millTrim_stand p e s i
  by_cases hover : s.stands[i].configured = true ∧ p.n.toNat < i.val + 1
  · obtain ⟨w, hw, -⟩ := openFilled_work _ i hi
    rw [(hgone hover).2.2] at hw
    cases hw
  · exact (openFilled_at (hkept hover).2.2).symm.trans hi

theorem settled_millEffect (hs : Settled s) : Settled (millEffect p e s) := by
  rw [millEffect_eq]
  refine settled_confirmTest _ ?_
  have htrips := (millSilenced p e s hu h).trips
  have hact := (millSilenced p e s hu h).actuators
  have hlink : (allSilenceTests (millTrim p e s)).link = (millTrim p e s).link := by simp
  generalize allSilenceTests (millTrim p e s) = v at *
  exact settled_sameStops (millTrim p e s) v hlink (by rw [htrips]) (by rw [htrips])
    (fun i hi => by rwa [openFilled_congr _ _ i hact] at hi) (settled_millTrim p e s hs)

/-- What an accepted Configure Mill keeps of the trips, and the entry drive it forgets (R7, R137). -/
theorem millEffect_trips : (millEffect p e s).trips.records = s.trips.records ∧
    (millEffect p e s).trips.escalation = s.trips.escalation ∧
    (millEffect p e s).trips.stopWanted = s.trips.stopWanted ∧
    (millEffect p e s).trips.stopSent = s.trips.stopSent ∧ (millEffect p e s).trips.drive = s.trips.drive ∧
    (millEffect p e s).trips.low = s.trips.low ∧ (millEffect p e s).trips.pressed = s.trips.pressed ∧
    (millEffect p e s).trips.driveEntry = if s.nodes[e].role = .entry then s.trips.driveEntry else .unknown := by
  have htrips := millSilenced_trips p e s h hu
  rw [millEffect_eq]
  generalize allSilenceTests (millTrim p e s) = v at *
  obtain ⟨hdrive, hent, hrec, hesc, hw, hs, hlow, hpress⟩ := confirmTest_kept v
  rw [hdrive, hent, hrec, hesc, hw, hs, hlow, hpress, htrips]
  split <;> exact ⟨rfl, rfl, rfl, rfl, rfl, rfl, rfl, rfl⟩

/-- The stop confirmation an accepted Configure Mill leaves (R135). -/
theorem millEffect_confirm :
    (s.trips.confirm = .waiting ∧ millConfirms p e (millEffect p e s) →
      (millEffect p e s).trips.confirm = .confirmed ∧ (millEffect p e s).trips.confirmT = none) ∧
    (¬ (s.trips.confirm = .waiting ∧ millConfirms p e (millEffect p e s)) →
      (millEffect p e s).trips.confirm = s.trips.confirm ∧
        (millEffect p e s).trips.confirmT = s.trips.confirmT) := by
  have htrips := millSilenced_trips p e s h hu
  have hholds := millEffect_confirmHolds p e s h hu
  have hconf : (allSilenceTests (millTrim p e s)).trips.confirm = s.trips.confirm ∧
      (allSilenceTests (millTrim p e s)).trips.confirmT = s.trips.confirmT := by
    rw [htrips]
    split <;> exact ⟨rfl, rfl⟩
  rw [← hholds, ← hconf.1, ← hconf.2, millEffect_eq]
  generalize allSilenceTests (millTrim p e s) = v
  rw [confirmTest_trips]
  refine ⟨fun hc => ?_, fun hc => ?_⟩
  · rw [if_pos hc]
    exact ⟨rfl, rfl⟩
  · rw [if_neg hc]
    exact ⟨rfl, rfl⟩

/-- The host's state after an accepted Configure Mill: NODE_LOST for each silent address, and
STOP_CONFIRMED (R16, R135, R151). -/
theorem millEffect_host (hroom : s.host.events.length ≤ 32) :
    (millEffect p e s).host = { s.host with events := (millEffect p e s).host.events } ∧
    ∃ lost : List Node, lost.Pairwise (· < ·) ∧ (∀ a : Node, a ∈ lost ↔ fallsSilent p e s a) ∧
      (¬ (s.trips.confirm = .waiting ∧ millConfirms p e (millEffect p e s)) → (millEffect p e s).host.events =
        s.host.events ++ lost.map fun a => ⟨.nodeLost, .node a, none, 0, s.now⟩) ∧
      (s.trips.confirm = .waiting ∧ millConfirms p e (millEffect p e s) → ∀ tm : Timer,
        s.trips.confirmT = some tm → (millEffect p e s).host.events =
          s.host.events ++ (lost.map fun a => ⟨.nodeLost, .node a, none, 0, s.now⟩) ++
            [⟨.stopConfirmed, .none, none, s.now - tm.start, s.now⟩]) := by
  obtain ⟨-, -, hnow, -, hhost, -⟩ := millTrim_frame p e s
  have hlost := (millSilenced p e s hu h).host (by rw [hhost]; exact Nat.add_le_add_right hroom 15 |>.trans (by decide))
  have hlen : (allNodes.filter (silent (millTrim p e s))).length ≤ 15 := List.length_filter_le _ _
  have hmem : ∀ a : Node, a ∈ allNodes.filter (silent (millTrim p e s)) ↔ fallsSilent p e s a := fun a => by
    rw [List.mem_filter, silent_millTrim p e s hu, and_iff_right (mem_allNodes a)]
  have hsorted : (allNodes.filter (silent (millTrim p e s))).Pairwise (· < ·) :=
    (show allNodes.Pairwise (· < ·) by decide).sublist List.filter_sublist
  have htrips := millSilenced_trips p e s h hu
  have hholds := millEffect_confirmHolds p e s h hu
  have hconf : (allSilenceTests (millTrim p e s)).trips.confirm = s.trips.confirm ∧
      (allSilenceTests (millTrim p e s)).trips.confirmT = s.trips.confirmT := by
    rw [htrips]
    split <;> exact ⟨rfl, rfl⟩
  have hnow' : (allSilenceTests (millTrim p e s)).now = s.now := by simp [hnow]
  rw [← hholds, ← hconf.1, ← hconf.2, millEffect_eq]
  rw [hhost, hnow] at hlost
  generalize allNodes.filter (silent (millTrim p e s)) = lost at *
  generalize allSilenceTests (millTrim p e s) = v at *
  have hevents : v.host.events.length < 48 := by
    rw [hlost, List.length_append, List.length_map]
    omega
  refine ⟨?_, lost, hsorted, hmem, fun hc => ?_, fun hc tm ht => ?_⟩
  · rw [confirmTest_host v hevents, hlost]
  · rw [confirmTest_passed v hc, hlost]
  · rw [confirmTest_holds v tm hc.1 ht hc.2 hevents, hnow']
    exact congrArg (· ++ _) (congrArg HostPort.events hlost)
end
end

end Sys2Proof.Machine
end


section
/-! SUPPORT. The mill record as the statement writes it (R7). -/

namespace Sys2Proof.Machine

theorem millRecordOf_written (p : MillParams) (e : Node) (hn : 2 ≤ p.n.toNat ∧ p.n.toNat ≤ 5)
    (he : p.entryAddr.toNat = e.val) : millRecordOf p =
    { configured := true, n := p.n.toNat, ql := p.ql.toNat,
      dist := #v[p.d0.toNat, p.d1.toNat, if 2 < p.n.toNat then p.d2.toNat else 0,
        if 3 < p.n.toNat then p.d3.toNat else 0, if 4 < p.n.toNat then p.d4.toNat else 0, 0],
      retire := p.retire.toNat, biteAllowance := p.biteAllowance.toNat,
      breakTension0 := p.breakTension0.toNat, entryAddr := some e,
      silenceMs := p.silenceMs.toNat, stopConfirm := p.stopConfirm.toNat,
      respUs := p.respUs.toNat, txnLimitUs := p.txnLimitUs.toNat } := by
  have h0 : keptDist p 0 = p.d0.toNat := if_pos (show 0 < p.n.toNat by omega)
  have h1 : keptDist p 1 = p.d1.toNat := if_pos (show 1 < p.n.toNat by omega)
  have h5 : keptDist p 5 = 0 := if_neg (show ¬ 5 < p.n.toNat by omega)
  rw [millRecordOf, h0, h1, h5, (addrOf_eq_some _ _).mpr he.symm]
  rfl

end Sys2Proof.Machine
end

section
/-! The statement about an accepted Configure Mill. -/

open Sys2Proof Sys2Proof.Machine

/-- Settles O27: the record and roles written, the removals as two passes, the silence tests as one pass over
the addresses, and the confirmation test last. -/
theorem configureMillEffect : Obligations.ConfigureMillEffect := by
  unfold Obligations.ConfigureMillEffect
  intro tag p s e h hu hmode hopen hchecks haddr removed kept silent
  have hserve : serve (.configureMill p) (taken tag (.configureMill p) s) =
      (millEffect p e (taken tag (.configureMill p) s), ⟨.ok, []⟩) := by
    show serveConfigureMill p (taken tag (.configureMill p) s) = _
    rw [serveConfigureMill, if_neg (not_blocked (taken tag (.configureMill p) s) hmode hopen),
      (millChecks_decide (taken tag (.configureMill p) s) p).firstFailing_none hchecks,
      (addrOf_eq_some _ _).mpr haddr.symm]
    rfl
  have hrun := frameOf_settled tag (.configureMill p) s _ _ h
    (settled_millEffect p e (taken tag (.configureMill p) s) hmode hu h.settled) hserve
  have hstand := millEffect_stand p e (taken tag (.configureMill p) s) hmode hu
  have hnode := millEffect_node p e (taken tag (.configureMill p) s) hmode hu
  have hentry := millEffect_entry p e (taken tag (.configureMill p) s) hmode hu
  have hremoved := millEffect_removed p e (taken tag (.configureMill p) s) hmode hu
  have hgone := millEffect_gaugeRemoved p e (taken tag (.configureMill p) s) hmode hu
  have hgauge := millEffect_gauge p e (taken tag (.configureMill p) s) hmode hu
  have hfixed := millEffect_fixed p e (taken tag (.configureMill p) s) hmode hu
  obtain ⟨hrec, hesc, hw, hs, hdrive, hlow, hpress, hent⟩ :=
    millEffect_trips p e (taken tag (.configureMill p) s) hmode hu
  have hconf := millEffect_confirm p e (taken tag (.configureMill p) s) hmode hu
  have hhost := millEffect_host p e (taken tag (.configureMill p) s) hmode hu
  obtain ⟨-, -, hmill⟩ := millEffect_kept p e (taken tag (.configureMill p) s)
  obtain ⟨hpower, hnow, hstraps, hrate, htrack, hstore, hlink, hpending, -⟩ :=
    millEffect_frame p e (taken tag (.configureMill p) s)
  generalize millEffect p e (taken tag (.configureMill p) s) = u at *
  refine ⟨_, hrun, hmill.trans (millRecordOf_written p e (hchecks 1) haddr),
    ⟨(hentry e).mpr rfl, fun a ha hr => ha ((hentry a).mp hr)⟩, fun hr => hent.trans (if_pos hr),
    fun hr => ⟨hent.trans (if_neg hr), ?_⟩, fun i hc hover => ?_, fun i hi => (hstand i).2 ?_,
    fun g hi hover => ⟨hgone g ⟨hi, hover⟩, fun a => hremoved a _ (.inr ⟨g, rfl, hi, hover⟩)⟩,
    fun g hg => hfixed g ?_, fun a => ?_, fun g hg hno => (hgauge g ?_).1 hno, fun g a hi hsil hr => ?_, htrack, hstore,
    hrec, hesc, hw, hs, hdrive, hlow, hpress, hnow, hlink, hpower, hstraps, hrate, hpending, ?_⟩
  · have hno : ¬ keepsEntry p e (taken tag (.configureMill p) s) e := fun hk => hr ((if_pos rfl).mp hk)
    exact ((hnode e).2.2 hno).trans (by rw [if_pos rfl])
  · obtain ⟨hs, hd, ha⟩ := (hstand i).1 ⟨hc, hover⟩
    exact ⟨hs, hd, ha, fun a => hremoved a _ (.inl ⟨i, rfl, hc, hover⟩)⟩
  · rintro ⟨hc, hover⟩
    obtain hi | hi := hi
    · exact Bool.eq_false_iff.mp hi hc
    · omega
  · rintro ⟨hi, hover⟩
    obtain hg | hg := hg
    · exact Bool.eq_false_iff.mp hg hi
    · omega
  · obtain ⟨hlost, hkept, hfreed⟩ := hnode a
    exact ⟨hlost, hkept, fun ha hk => (hfreed hk).trans (by rw [if_neg ha])⟩
  · rintro ⟨hi, hover⟩
    obtain hg | hg := hg
    · exact Bool.eq_false_iff.mp hg hi
    · omega
  · refine ((hgauge g ?_).2 a hsil hr).trans (if_pos hi)
    intro hover
    exact hremoved a _ (.inr ⟨g, rfl, hover⟩) (by rw [(hnode a).1 hsil]; exact hr)
  · refine ⟨hconf.1, hconf.2, fun hroom => ?_⟩
    obtain ⟨hport, lost, hsorted, hmem, hidle, hraised⟩ := hhost hroom
    refine ⟨?_, lost, hsorted, hmem, hidle, hraised⟩
    exact congrArg (fun q : HostPort => { q with reply := some ⟨tag, 0x20, 0x00, []⟩ }) hport
end


section
/-! SUPPORT. The fields of a read-out: the bytes at an offset, their value and their flags (R199). -/

namespace Sys2Proof.Machine

/-- The bytes of a payload at an offset are those of a chunk. -/
def Holds (bs : List Byte) (o : Nat) (chunk : List Byte) : Prop := (bs.drop o).take chunk.length = chunk

section
variable {bs : List Byte} {o w v : Nat}

theorem Holds.field {chunk : List Byte} (h : Holds bs o chunk) : field bs o chunk.length = natOf chunk :=
  congrArg natOf h

theorem Holds.number (h : Holds bs o (be w v)) : Machine.field bs o w = v % 256 ^ w := by
  have := h.field
  rwa [be_length, natOf_be] at this

theorem Holds.shows (h : Holds bs o (be w v)) (hv : v < 256 ^ w) : Shows bs o w v := by
  rw [Shows, h.number, Nat.mod_eq_of_lt hv, Nat.min_eq_left (by omega)]

theorem Holds.showsSat (h : Holds bs o (beSat w v)) : Shows bs o w v := by
  have hpos : 0 < 256 ^ w := Nat.pow_pos (by decide)
  have := Holds.number (show Holds bs o (be w (min v (256 ^ w - 1))) from h)
  rw [Shows, this, Nat.mod_eq_of_lt (by omega)]

theorem Holds.showsInt {x : Int} (h : Holds bs o (beInt w x)) (hw : 0 < w) : ShowsInt bs o w x := by
  have hfield : Machine.field bs o w = Machine.field (beInt w x ++ []) 0 w := by
    have h1 := h.field
    have h2 := field_head (beInt w x) []
    rw [beInt_length] at h1 h2
    rw [h1, h2]
  have := showsInt_beInt w x [] hw
  rwa [ShowsInt, ← hfield] at this

theorem Holds.byte {b : Byte} (h : Holds bs o [b]) : Machine.field bs o 1 = b.toNat :=
  h.field.trans (by simp [natOf])

theorem Holds.showsByte {b : Byte} (h : Holds bs o [b]) : Shows bs o 1 b.toNat := by
  have := b.isLt
  rw [Shows, h.byte, Nat.min_eq_left (by omega)]

theorem Holds.dropped {n : Nat} {chunk : List Byte} (h : Holds (bs.drop n) o chunk) : Holds bs (n + o) chunk := by
  rw [Holds, List.drop_drop] at h
  exact h

end

/-! ### Flag bytes (R199) -/

/-- A run of flags as a number, the first in bit 0. -/
def flagsOf : List Bool → Nat
  | [] => 0
  | b :: l => b.toNat + 2 * flagsOf l

theorem bit_toNat (b : Bool) (w : Nat) : bit b w = w * b.toNat := by
  cases b <;> simp [bit]

theorem flagsOf_lt (l : List Bool) : flagsOf l < 2 ^ l.length := by
  induction l with
  | nil => exact Nat.one_pos
  | cons b l ih =>
    have : b.toNat ≤ 1 := Bool.toNat_le b
    rw [flagsOf, List.length_cons, pow_succ]
    omega

theorem flagsOf_testBit (l : List Bool) (k : Nat) : (flagsOf l).testBit k = l.getD k false := by
  induction l generalizing k with
  | nil => simp [flagsOf]
  | cons b l ih =>
    have hb : b.toNat ≤ 1 := Bool.toNat_le b
    rw [flagsOf]
    cases k with
    | zero =>
      rw [Nat.testBit_zero, List.getD_cons_zero]
      cases b <;> simp
    | succ k =>
      rw [Nat.testBit_succ, List.getD_cons_succ, ← ih]
      congr 1
      omega

/-- The flags of a byte that holds them, and that it holds no other. -/
theorem flagByte {bs : List Byte} {o v : Nat} (l : List Bool) (h : Holds bs o (be 1 v)) (hv : v = flagsOf l)
    (hl : l.length ≤ 8) : (∀ k, k < 8 → flagAt bs o k = l.getD k false) ∧ field bs o 1 < 2 ^ l.length := by
  have hlt := flagsOf_lt l
  have h256 : flagsOf l < 256 := Nat.lt_of_lt_of_le hlt (Nat.pow_le_pow_right (by decide) hl)
  have hfield : field bs o 1 = flagsOf l := by
    rw [h.number, hv, pow_one, Nat.mod_eq_of_lt h256]
  refine ⟨fun k hk => ?_, by rw [hfield]; exact hlt⟩
  rw [flagAt, u8, hfield, BitVec.getLsbD_ofNat, decide_eq_true hk, Bool.true_and, flagsOf_testBit]

/-! ### Tables of records of one size -/

/-- Where a table holds the record of an index. -/
theorem flatMap_drop {α : Type} (f : α → List Byte) (n : Nat) (hf : ∀ a, (f a).length = n) (l : List α) (j : Nat)
    (x : α) (hx : l[j]? = some x) : (l.flatMap f).drop (n * j) = f x ++ (l.drop (j + 1)).flatMap f := by
  induction l generalizing j with
  | nil => cases hx
  | cons a l ih =>
    cases j with
    | zero =>
      cases hx
      rfl
    | succ j =>
      have hskip : (f a ++ l.flatMap f).drop (n * j + n) = (l.flatMap f).drop (n * j) := by
        rw [List.drop_append, hf a, Nat.add_sub_cancel, List.drop_eq_nil_of_le (by rw [hf a]; omega), List.nil_append]
      rw [List.flatMap_cons, Nat.mul_succ, hskip, ih j hx]
      rfl

/-- Past a first part of a payload. -/
theorem drop_front (xs ys : List Byte) (n : Nat) (h : xs.length = n) : (xs ++ ys).drop n = ys := by
  subst h
  exact List.drop_left

end Sys2Proof.Machine
end

section
/-! SUPPORT. Event entries and the stand demand block (R190, R204, R208). -/

namespace Sys2Proof.Machine

theorem eventNumber_lt (c : EventCode) : eventNumber c < 256 := by
  cases c <;> decide

theorem eventLevel_lt (c : EventCode) : eventLevel c < 256 := by
  cases c <;> decide

theorem eventBytes_fields (e : Event) :
    let bs := eventBytes e
    bs.length = 18 ∧ Shows bs 0 1 (eventNumber e.code) ∧ Shows bs 1 1 (eventLevel e.code) ∧
    (e.subject = .none → Shows bs 2 1 0 ∧ Shows bs 3 1 0) ∧
    (∀ i : Stand, e.subject = .stand i → Shows bs 2 1 1 ∧ Shows bs 3 1 (i.val + 1)) ∧
    (∀ z : Zone, e.subject = .zone z → Shows bs 2 1 2 ∧ Shows bs 3 1 z.val) ∧
    (∀ p : Gauge, e.subject = .gauge p → Shows bs 2 1 3 ∧ Shows bs 3 1 p.val) ∧
    (∀ a : Node, e.subject = .node a → Shows bs 2 1 4 ∧ Shows bs 3 1 a.val) ∧
    Shows bs 4 6 (e.serial.getD 0) ∧ Shows bs 10 4 e.value.toNat ∧ Shows bs 14 4 e.time.toNat := by
  intro bs
  have hkind : Holds bs 2 (be 1 (subjectKind e.subject)) := rfl
  have hnumber : Holds bs 3 (be 1 (subjectNumber e.subject)) := rfl
  have hsubject : ∀ k n : Nat, subjectKind e.subject = k → subjectNumber e.subject = n → k < 256 → n < 256 →
      Shows bs 2 1 k ∧ Shows bs 3 1 n := by
    rintro k n rfl rfl hk hn
    exact ⟨hkind.shows (by omega), hnumber.shows (by omega)⟩
  refine ⟨rfl, Holds.shows rfl (eventNumber_lt _), Holds.shows rfl (eventLevel_lt _), fun h => ?_, fun i h => ?_,
    fun z h => ?_, fun p h => ?_, fun a h => ?_, Holds.showsSat rfl, Holds.shows rfl e.value.isLt,
    Holds.shows rfl e.time.isLt⟩
  · exact hsubject 0 0 (by rw [h]; rfl) (by rw [h]; rfl) (by decide) (by decide)
  · exact hsubject 1 (i.val + 1) (by rw [h]; rfl) (by rw [h]; rfl) (by decide) (by omega)
  · exact hsubject 2 z.val (by rw [h]; rfl) (by rw [h]; rfl) (by decide) (by omega)
  · exact hsubject 3 p.val (by rw [h]; rfl) (by rw [h]; rfl) (by decide) (by omega)
  · exact hsubject 4 a.val (by rw [h]; rfl) (by rw [h]; rfl) (by decide) (by omega)

theorem demandBlock_fields (s : State) (i : Stand) :
    let bs := demandBlock s i
    let d := s.demands[i]
    bs.length = 11 ∧ ShowsInt bs 0 2 d.ff ∧ ShowsInt bs 2 2 d.trim ∧ ShowsInt bs 4 2 d.offset ∧
    ShowsInt bs 6 4 ((d.demand.map (·.value)).getD 0) ∧ flagAt bs 10 0 = d.demand.isSome ∧
    flagAt bs 10 1 = d.limited ∧ flagAt bs 10 2 = d.freeze.isSome ∧ field bs 10 1 < 8 := by
  intro bs d
  obtain ⟨hflag, hlt⟩ := flagByte (bs := bs) (o := 10)
    [s.demands[i].demand.isSome, s.demands[i].limited, s.demands[i].freeze.isSome] rfl
    (by simp only [bit_toNat, flagsOf]; omega) (Nat.le_of_ble_eq_true rfl)
  exact ⟨rfl, Holds.showsInt rfl (by decide), Holds.showsInt rfl (by decide), Holds.showsInt rfl (by decide),
    Holds.showsInt rfl (by decide), hflag 0 (by decide), hflag 1 (by decide), hflag 2 (by decide), hlt⟩

end Sys2Proof.Machine
end


section
/-! SUPPORT. The stand read-out (R126, R207). -/

namespace Sys2Proof.Machine

theorem holds_drop {bs rest chunk : List Byte} {n : Nat} (h : bs.drop n = rest) {o : Nat} (hc : Holds rest o chunk) :
    Holds bs (n + o) chunk := by
  subst h
  exact hc.dropped

/-- A timer field shows the time left, all ones while it is stopped (R199). -/
theorem timer_fields {bs : List Byte} {o : Nat} {now : Time} {t : Option Timer}
    (h : Holds bs o (beSat 2 (timerLeft now t))) : (t = none → field bs o 2 = 0xFFFF) ∧
      ∀ tm : Timer, t = some tm → Shows bs o 2 (tm.load - (now - tm.start).toNat) := by
  refine ⟨?_, ?_⟩
  · rintro rfl
    exact h.showsSat
  · rintro tm rfl
    exact h.showsSat

/-- An index field shows 0xFF where there is none (R199). -/
theorem index_fields {n : Nat} (hn : n ≤ 255) {bs : List Byte} {o : Nat} {q : Option (Fin n)}
    (h : Holds bs o (be 1 (optIndex q))) : (q = none → field bs o 1 = 0xFF) ∧
      ∀ p : Fin n, q = some p → Shows bs o 1 p.val := by
  refine ⟨?_, ?_⟩
  · rintro rfl
    exact h.number
  · rintro p rfl
    exact h.shows (show p.val < 256 by omega)

theorem actCode_lt (a : ActState) : actCode a < 256 := by
  cases a <;> decide

theorem nodeStateCode_lt (n : NodeState) : nodeStateCode n < 256 := by
  cases n <;> decide

/-- The part of a stand read-out before the current work (R207). -/
def standHead (s : State) (i : Stand) : List Byte :=
  be 1 (standNumber i) ++ (be 1 (bit s.stands[i].configured 1 + bit (decide (s.stands[i].mode = .band)) 2 +
    bit s.actuators[i].t.isSome 4 + bit s.actuators[i].reported.isSome 8 + bit s.store.active[i].isSome 16 +
    bit s.demands[i].demand.isSome 32 + bit s.demands[i].limited 64 + bit s.demands[i].freeze.isSome 128) ++
  (be 1 (optIndex s.stands[i].addr) ++ (be 1 (s.stands[i].addr.elim 0 fun n => nodeStateCode s.nodes[n].state) ++
  (be 1 (s.stands[i].addr.elim 0 fun n => bit s.nodes[n].remote 1) ++
  (be 1 (actCode s.actuators[i].state) ++ (beInt 4 s.actuators[i].c ++ (beInt 4 s.actuators[i].p ++
  (beInt 4 (optInt s.actuators[i].t) ++ (beInt 4 (optInt s.actuators[i].reported) ++
  [s.actuators[i].number])))))))))

/-- The part of a stand read-out behind the current work (R207). -/
def standTail (s : State) (i : Stand) : List Byte :=
  beSat 2 (timerLeft s.now s.actuators[i].settleT) ++ (beSat 2 (timerLeft s.now s.actuators[i].moveT) ++
  (beSat 2 (timerLeft s.now s.actuators[i].openT) ++ (be 1 (optIndex s.store.active[i]) ++
  (beInt 2 s.demands[i].ff ++ (beInt 2 s.demands[i].trim ++ (beInt 2 s.demands[i].offset ++
  (beInt 4 (optInt (s.demands[i].demand.map (·.value))) ++
  (beInt 4 (optInt (s.demands[i].demand.map (·.sum))) ++ beSat 6 (s.demands[i].freeze.getD 0)))))))))

section
variable (s : State) (i : Stand)

theorem standReadout_parts : standReadout s i = standHead s i ++ (workBytes s.actuators[i].work ++ standTail s i) := by
  unfold standReadout standHead standTail
  dsimp only
  cases s.stands[i].addr <;>
    simp only [Option.map_some, Option.map_none, Option.elim_some, Option.elim_none, List.append_assoc]

/-- A field before the current work (R207). -/
theorem standReadout_head {o : Nat} {chunk : List Byte} (h : ∀ rest, Holds (standHead s i ++ rest) o chunk) :
    Holds (standReadout s i) o chunk := by
  rw [standReadout_parts]
  exact h _

/-- The current work and what is behind it (R207). -/
theorem standReadout_work : (standReadout s i).drop 23 = workBytes s.actuators[i].work ++ standTail s i := by
  rw [standReadout_parts]
  exact drop_front _ _ 23 rfl

theorem standReadout_tail : (standReadout s i).drop 30 = standTail s i := by
  have h := congrArg (List.drop 7) (standReadout_work s i)
  rwa [List.drop_drop, drop_front _ _ 7 (workBytes_length _)] at h

/-- The flags of a stand read-out (R207). -/
theorem standReadout_flags :
    let bs := standReadout s i
    flagAt bs 1 0 = s.stands[i].configured ∧ flagAt bs 1 1 = decide (s.stands[i].mode = .band) ∧
      flagAt bs 1 2 = s.actuators[i].t.isSome ∧ flagAt bs 1 3 = s.actuators[i].reported.isSome ∧
      flagAt bs 1 4 = s.store.active[i].isSome ∧ flagAt bs 1 5 = s.demands[i].demand.isSome ∧
      flagAt bs 1 6 = s.demands[i].limited ∧ flagAt bs 1 7 = s.demands[i].freeze.isSome := by
  intro bs
  obtain ⟨hflag, -⟩ := flagByte (bs := bs) (o := 1)
    [s.stands[i].configured, decide (s.stands[i].mode = .band), s.actuators[i].t.isSome,
      s.actuators[i].reported.isSome, s.store.active[i].isSome, s.demands[i].demand.isSome,
      s.demands[i].limited, s.demands[i].freeze.isSome] (standReadout_head s i fun _ => rfl)
    (by simp only [bit_toNat, flagsOf]; omega) (Nat.le_of_ble_eq_true rfl)
  exact ⟨hflag 0 (by decide), hflag 1 (by decide), hflag 2 (by decide), hflag 3 (by decide), hflag 4 (by decide),
    hflag 5 (by decide), hflag 6 (by decide), hflag 7 (by decide)⟩

/-- The node of a stand read-out (R207). -/
theorem standReadout_node :
    let bs := standReadout s i
    (s.stands[i].addr = none → field bs 2 1 = 0xFF ∧ field bs 3 1 = 0 ∧ field bs 4 1 = 0) ∧
    ∀ n : Node, s.stands[i].addr = some n → Shows bs 2 1 n.val ∧
      Shows bs 3 1 (nodeStateCode s.nodes[n].state) ∧ flagAt bs 4 0 = s.nodes[n].remote ∧ field bs 4 1 < 2 := by
  intro bs
  have haddr : Holds bs 2 (be 1 (optIndex s.stands[i].addr)) := standReadout_head s i fun _ => rfl
  have hstate : Holds bs 3 (be 1 (s.stands[i].addr.elim 0 fun n => nodeStateCode s.nodes[n].state)) := standReadout_head s i fun _ => rfl
  have hremote : Holds bs 4 (be 1 (s.stands[i].addr.elim 0 fun n => bit s.nodes[n].remote 1)) := standReadout_head s i fun _ => rfl
  obtain ⟨hnone, hsome⟩ := index_fields (by decide) haddr
  refine ⟨fun h => ?_, fun n h => ?_⟩
  · rw [h] at hstate hremote
    exact ⟨hnone h, hstate.number, hremote.number⟩
  · rw [h] at hstate hremote
    obtain ⟨hflag, hlt⟩ := flagByte [s.nodes[n].remote] hremote
      (by simp only [Option.elim_some, bit_toNat, flagsOf]; omega) (Nat.le_of_ble_eq_true rfl)
    exact ⟨hsome n h, hstate.shows (nodeStateCode_lt _), hflag 0 (by decide), hlt⟩

/-- The current work of a stand read-out (R207). -/
theorem standReadout_current :
    let bs := standReadout s i
    (s.actuators[i].work = none → Shows bs 23 1 0 ∧ Shows bs 24 1 0 ∧ ShowsInt bs 25 4 0 ∧ Shows bs 29 1 0) ∧
    ∀ w : Work, s.actuators[i].work = some w → Shows bs 24 1 w.number.toNat ∧
      (w.phase = .queued → Shows bs 29 1 0) ∧ (w.phase = .inFlight → Shows bs 29 1 1) ∧
      (w.phase = .moving → Shows bs 29 1 2) ∧
      (∀ v : Int, w.cmd = .travel v → Shows bs 23 1 1 ∧ ShowsInt bs 25 4 v) ∧
      (∀ v : Int, w.cmd = .trim v → Shows bs 23 1 2 ∧ ShowsInt bs 25 4 v) ∧
      (w.cmd = .open_ → Shows bs 23 1 3 ∧ ShowsInt bs 25 4 0) := by
  intro bs
  have hwork := standReadout_work s i
  generalize standTail s i = rest at hwork
  refine ⟨fun h => ?_, fun w h => ?_⟩
  · rw [h] at hwork
    exact ⟨Holds.shows (holds_drop hwork (o := 0) rfl) (by decide), Holds.shows (holds_drop hwork (o := 1) rfl) (by decide),
      Holds.showsInt (holds_drop hwork (o := 2) rfl) (by decide), Holds.shows (holds_drop hwork (o := 6) rfl) (by decide)⟩
  · rw [h] at hwork
    obtain ⟨cmd, number, phase⟩ := w
    refine ⟨Holds.showsByte (holds_drop hwork (o := 1) rfl), ?_, ?_, ?_, ?_, ?_, ?_⟩
    · rintro rfl
      exact Holds.shows (holds_drop hwork (o := 6) (chunk := be 1 0) rfl) (by decide)
    · rintro rfl
      exact Holds.shows (holds_drop hwork (o := 6) (chunk := be 1 1) rfl) (by decide)
    · rintro rfl
      exact Holds.shows (holds_drop hwork (o := 6) (chunk := be 1 2) rfl) (by decide)
    · rintro v rfl
      exact ⟨Holds.shows (holds_drop hwork (o := 0) (chunk := be 1 1) rfl) (by decide),
        Holds.showsInt (holds_drop hwork (o := 2) (chunk := beInt 4 v) rfl) (by decide)⟩
    · rintro v rfl
      exact ⟨Holds.shows (holds_drop hwork (o := 0) (chunk := be 1 2) rfl) (by decide),
        Holds.showsInt (holds_drop hwork (o := 2) (chunk := beInt 4 v) rfl) (by decide)⟩
    · rintro rfl
      exact ⟨Holds.shows (holds_drop hwork (o := 0) (chunk := be 1 3) rfl) (by decide),
        Holds.showsInt (holds_drop hwork (o := 2) (chunk := beInt 4 0) rfl) (by decide)⟩

theorem standReadout_fields :
    let bs := standReadout s i
    let r := s.stands[i]
    let a := s.actuators[i]
    let d := s.demands[i]
    Shows bs 0 1 (i.val + 1) ∧
    (flagAt bs 1 0 = r.configured ∧ flagAt bs 1 1 = decide (r.mode = .band) ∧
      flagAt bs 1 2 = a.t.isSome ∧ flagAt bs 1 3 = a.reported.isSome ∧
      flagAt bs 1 4 = s.store.active[i].isSome ∧ flagAt bs 1 5 = d.demand.isSome ∧
      flagAt bs 1 6 = d.limited ∧ flagAt bs 1 7 = d.freeze.isSome) ∧
    (r.addr = none → field bs 2 1 = 0xFF ∧ field bs 3 1 = 0 ∧ field bs 4 1 = 0) ∧
    (∀ n : Node, r.addr = some n → Shows bs 2 1 n.val ∧
      Shows bs 3 1 (nodeStateCode s.nodes[n].state) ∧ flagAt bs 4 0 = s.nodes[n].remote ∧
      field bs 4 1 < 2) ∧
    Shows bs 5 1 (actCode a.state) ∧ ShowsInt bs 6 4 a.c ∧ ShowsInt bs 10 4 a.p ∧
    ShowsInt bs 14 4 (a.t.getD 0) ∧ ShowsInt bs 18 4 (a.reported.getD 0) ∧
    Shows bs 22 1 a.number.toNat ∧
    (a.work = none → Shows bs 23 1 0 ∧ Shows bs 24 1 0 ∧ ShowsInt bs 25 4 0 ∧ Shows bs 29 1 0) ∧
    (∀ w : Work, a.work = some w → Shows bs 24 1 w.number.toNat ∧
      (w.phase = .queued → Shows bs 29 1 0) ∧ (w.phase = .inFlight → Shows bs 29 1 1) ∧
      (w.phase = .moving → Shows bs 29 1 2) ∧
      (∀ v : Int, w.cmd = .travel v → Shows bs 23 1 1 ∧ ShowsInt bs 25 4 v) ∧
      (∀ v : Int, w.cmd = .trim v → Shows bs 23 1 2 ∧ ShowsInt bs 25 4 v) ∧
      (w.cmd = .open_ → Shows bs 23 1 3 ∧ ShowsInt bs 25 4 0)) ∧
    (∀ x ∈ [(30, a.settleT), (32, a.moveT), (34, a.openT)],
      (x.2 = none → field bs x.1 2 = 0xFFFF) ∧
      ∀ t : Timer, x.2 = some t → Shows bs x.1 2 (t.load - (s.now - t.start).toNat)) ∧
    (s.store.active[i] = none → field bs 36 1 = 0xFF) ∧
    (∀ p : Product, s.store.active[i] = some p → Shows bs 36 1 p.val) ∧
    ShowsInt bs 37 2 d.ff ∧ ShowsInt bs 39 2 d.trim ∧ ShowsInt bs 41 2 d.offset ∧
    ShowsInt bs 43 4 ((d.demand.map (·.value)).getD 0) ∧
    ShowsInt bs 47 4 ((d.demand.map (·.sum)).getD 0) ∧ Shows bs 51 6 (d.freeze.getD 0) := by
  intro bs r a d
  have htail := standReadout_tail s i
  obtain ⟨hnone, hsome⟩ := standReadout_node s i
  obtain ⟨hidle, hbusy⟩ := standReadout_current s i
  obtain ⟨hno, hactive⟩ := index_fields (by decide) (holds_drop htail (o := 6) (chunk := be 1 (optIndex s.store.active[i])) rfl)
  refine ⟨Holds.shows (standReadout_head s i fun _ => rfl) (show i.val + 1 < 256 by omega), standReadout_flags s i, hnone, hsome,
    Holds.shows (standReadout_head s i fun _ => rfl) (actCode_lt _), Holds.showsInt (standReadout_head s i fun _ => rfl) (by decide), Holds.showsInt (standReadout_head s i fun _ => rfl) (by decide),
    Holds.showsInt (standReadout_head s i fun _ => rfl) (by decide), Holds.showsInt (standReadout_head s i fun _ => rfl) (by decide), Holds.showsByte (standReadout_head s i fun _ => rfl), hidle, hbusy, ?_, hno, hactive,
    Holds.showsInt (holds_drop htail (o := 7) rfl) (by decide), Holds.showsInt (holds_drop htail (o := 9) rfl) (by decide),
    Holds.showsInt (holds_drop htail (o := 11) rfl) (by decide), Holds.showsInt (holds_drop htail (o := 13) rfl) (by decide),
    Holds.showsInt (holds_drop htail (o := 17) rfl) (by decide), Holds.showsSat (holds_drop htail (o := 21) rfl)⟩
  simp only [List.forall_mem_cons, List.not_mem_nil, false_implies, implies_true, and_true]
  exact ⟨timer_fields (holds_drop htail (o := 0) rfl), timer_fields (holds_drop htail (o := 2) rfl),
    timer_fields (holds_drop htail (o := 4) rfl)⟩
end

end Sys2Proof.Machine
end


section
/-! SUPPORT. The Read Cells reply (R42, R205). -/

namespace Sys2Proof.Machine

/-- A record of a table in a payload (R205, R208). -/
theorem record_drop {α : Type} (f : α → List Byte) (n : Nat) (hf : ∀ a, (f a).length = n) {l : List α} {j : Nat}
    {x : α} (hx : l[j]? = some x) {bs rest : List Byte} {o : Nat} (h : bs.drop o = l.flatMap f ++ rest) :
    ∃ more, bs.drop (o + n * j) = f x ++ more := by
  have hlen : n * j ≤ (l.flatMap f).length := by
    rw [flatMap_length f n hf]
    rw [Nat.mul_comm]
    exact Nat.mul_le_mul_right n (Nat.le_of_lt (List.getElem?_eq_some_iff.mp hx).1)
  refine ⟨(l.drop (j + 1)).flatMap f ++ rest, ?_⟩
  rw [← List.drop_drop, h, List.drop_append_of_le_length hlen, flatMap_drop f n hf l j x hx, List.append_assoc]

theorem holds_record {bs chunk xs more : List Byte} {n : Nat} (h : bs.drop n = xs ++ more) {o : Nat}
    (hc : ∀ rest, Holds (xs ++ rest) o chunk) : Holds bs (n + o) chunk :=
  holds_drop h (hc more)

/-- A run of zero bytes reads 0. -/
theorem Holds.zeros {bs : List Byte} {o n : Nat} (h : Holds bs o (List.replicate n 0)) : Machine.field bs o n = 0 := by
  have hz : ∀ n, natOf (List.replicate n (0 : Byte)) = 0 := fun n => by
    induction n with
    | zero => rfl
    | succ n ih =>
      rw [List.replicate_succ', natOf_append, ih]
      rfl
  have := h.field
  rwa [List.length_replicate, hz] at this

/-! ### The cells from a first serial on (R42) -/

theorem Consecutive.sorted {q : List Cell} {n : Nat} (h : Consecutive q n) :
    q.Pairwise fun x y => x.serial < y.serial := by
  rw [List.pairwise_iff_getElem]
  intro j k hj hk hjk
  have h1 := h j _ (List.getElem?_eq_getElem hj)
  have h2 := h k _ (List.getElem?_eq_getElem hk)
  omega

theorem dropWhile_sorted (q : List Cell) (first : Nat) (h : q.Pairwise fun x y => x.serial < y.serial) :
    (q.dropWhile fun c => decide (c.serial < first)) = q.filter fun c => decide (first ≤ c.serial) := by
  induction q with
  | nil => rfl
  | cons c q ih =>
    obtain ⟨hc, hq⟩ := List.pairwise_cons.mp h
    by_cases hlt : c.serial < first
    · rw [List.dropWhile_cons_of_pos (by simpa using hlt), ih hq, List.filter_cons_of_neg (by simpa using hlt)]
    · rw [List.dropWhile_cons_of_neg (by simpa using hlt), List.filter_cons_of_pos (by simpa using hlt)]
      refine congrArg (c :: ·) (List.filter_eq_self.mpr fun y hy => ?_).symm
      have := hc y hy
      exact decide_eq_true (by omega)

theorem cellsFrom_eq (s : State) (h : RunSound s) (first n : Nat) :
    cellsFrom s first n = (s.track.queue.filter fun c => decide (first ≤ c.serial)).take n := by
  rw [cellsFrom, dropWhile_sorted _ _ (Consecutive.sorted h.serials)]

/-! ### The head of the reply -/

theorem trackCode_lt (m : TrackMode) : trackCode m < 256 := by
  cases m <;> decide

theorem cellsReply_head (s : State) (first n k : Nat) : ∃ rest, cellsReply s first n k = cellsHead s ++ rest := ⟨_, rfl⟩

/-- The head of a Read Cells reply (R205). -/
theorem cellsReply_heads (s : State) (hb : Bounded s) (first n k : Nat) :
    let bs := cellsReply s first n k
    Shows bs 0 1 (trackCode s.track.mode) ∧ Shows bs 1 2 s.track.queue.length ∧
    (s.track.queue = [] → Shows bs 3 6 0 ∧ Shows bs 9 6 0) ∧
    (∀ (c : Cell) (rest : List Cell), s.track.queue = c :: rest → Shows bs 3 6 c.serial) ∧
    ∀ (c : Cell) (rest : List Cell), s.track.queue = rest ++ [c] → Shows bs 9 6 c.serial := by
  intro bs
  obtain ⟨rest, hbs⟩ : ∃ rest, bs = cellsHead s ++ rest := cellsReply_head s first n k
  rw [hbs]
  have hfirst : Shows (cellsHead s ++ rest) 3 6 ((s.track.queue.head?.map (·.serial)).getD 0) := Holds.showsSat rfl
  have hlast : Shows (cellsHead s ++ rest) 9 6 ((s.track.queue.getLast?.map (·.serial)).getD 0) := Holds.showsSat rfl
  have hcells := hb.cells
  refine ⟨Holds.shows rfl (trackCode_lt _), Holds.shows rfl (show s.track.queue.length < 65536 by omega),
    fun hq => ?_, fun c l hq => ?_, fun c l hq => ?_⟩
  · rw [hq] at hfirst hlast
    exact ⟨hfirst, hlast⟩
  · rw [hq] at hfirst
    exact hfirst
  · rw [hq, List.getLast?_concat] at hlast
    exact hlast

/-! ### The odometer block -/

/-- The part of the odometer block behind the odometers (R205). -/
def formingBlock (s : State) (f : Option FormingCell) (w : Option PendingWeld) : List Byte :=
  be 1 (s.track.cobble.elim 0 standNumber) ++
  (be 1 (bit f.isSome 1 + bit ((f.map (·.headEnd)).getD false) 2 + bit ((f.map (·.weld)).getD false) 4 +
    bit ((f.map (·.extended)).getD false) 8 + bit w.isSome 16) ++
  (beSat 6 ((f.map (·.stamp)).getD 0) ++ (beSat 4 ((f.map (formingLength s)).getD 0) ++
  (be 4 ((f.map fun f => f.coil.toNat).getD 0) ++ (be 1 (optIndex (f.map (·.product))) ++
  (beSat 2 ((f.map (·.count)).getD 0) ++ (beSat 6 ((w.map (·.stamp)).getD 0) ++
  (be 4 ((w.map fun w => w.coil.toNat).getD 0) ++ (be 1 (optIndex (w.map (·.product))) ++
  beSat 2 ((w.map (·.count)).getD 0))))))))))

theorem odometerBlock_parts (s : State) : odometerBlock s =
    (s.track.odo.toList.flatMap fun o => beSat 6 o) ++ formingBlock s s.track.forming (pendingWeldOf s) := by
  unfold odometerBlock formingBlock
  dsimp only
  cases s.track.cobble <;> simp only [Option.elim_some, Option.elim_none, List.append_assoc]

section
variable (s : State) (first k : Nat)

theorem cellsReply_odometers : (cellsReply s first 0 k).drop 15 =
    (s.track.odo.toList.flatMap fun o => beSat 6 o) ++ formingBlock s s.track.forming (pendingWeldOf s) := by
  rw [← odometerBlock_parts]
  exact drop_front (cellsHead s) (odometerBlock s) 15 rfl

theorem cellsReply_forming :
    (cellsReply s first 0 k).drop 51 = formingBlock s s.track.forming (pendingWeldOf s) := by
  have h := congrArg (List.drop 36) (cellsReply_odometers s first k)
  rwa [List.drop_drop, drop_front _ _ 36 (by rw [flatMap_length _ 6 fun _ => rfl, Vector.length_toList])] at h

theorem cellsReply_odometer (z : Zone) : Shows (cellsReply s first 0 k) (15 + 6 * z.val) 6 s.track.odo[z] := by
  have hz : s.track.odo.toList[z.val]? = some s.track.odo[z] := by simp
  obtain ⟨more, hmore⟩ := record_drop (fun o => beSat 6 o) 6 (fun _ => rfl) hz (cellsReply_odometers s first k)
  exact Holds.showsSat (holds_record hmore (o := 0) fun rest => rfl)

/-- The forming cell and its pending weld in the odometer block (R205). -/
theorem cellsReply_formingCell :
    let bs := cellsReply s first 0 k
    (s.track.cobble = none → Shows bs 51 1 0) ∧
    (∀ i : Stand, s.track.cobble = some i → Shows bs 51 1 (i.val + 1)) ∧
    (s.track.forming = none → field bs 52 1 = 0 ∧ field bs 53 14 = 0 ∧ field bs 67 1 = 0xFF ∧
      field bs 68 12 = 0 ∧ field bs 80 1 = 0xFF ∧ field bs 81 2 = 0) ∧
    ∀ f : FormingCell, s.track.forming = some f →
      flagAt bs 52 0 = true ∧ flagAt bs 52 1 = f.headEnd ∧ flagAt bs 52 2 = f.weld ∧
      flagAt bs 52 3 = f.extended ∧ flagAt bs 52 4 = f.pendingWeld.isSome ∧
      field bs 52 1 < 32 ∧ Shows bs 53 6 f.stamp ∧
      Shows bs 59 4 (s.track.odo[(0 : Fin 6)] - f.stamp) ∧ Shows bs 63 4 f.coil.toNat ∧
      Shows bs 67 1 f.product.val ∧ Shows bs 68 2 f.count ∧
      (f.pendingWeld = none →
        field bs 70 10 = 0 ∧ field bs 80 1 = 0xFF ∧ field bs 81 2 = 0) ∧
      ∀ w : PendingWeld, f.pendingWeld = some w → Shows bs 70 6 w.stamp ∧
        Shows bs 76 4 w.coil.toNat ∧ Shows bs 80 1 w.product.val ∧ Shows bs 81 2 w.count := by
  intro bs
  have hdrop : bs.drop 51 = formingBlock s s.track.forming (pendingWeldOf s) := cellsReply_forming s first k
  have hcobble : Holds bs 51 (be 1 (s.track.cobble.elim 0 standNumber)) := holds_drop hdrop (o := 0) rfl
  refine ⟨fun h => ?_, fun i h => ?_, fun h => ?_, fun f h => ?_⟩
  · rw [h] at hcobble
    exact hcobble.shows (by decide)
  · rw [h] at hcobble
    exact hcobble.shows (show i.val + 1 < 256 by omega)
  · have hw : pendingWeldOf s = none := by rw [pendingWeldOf, h]
    rw [h, hw] at hdrop
    simp only [formingBlock, Option.map_none, Option.getD_none] at hdrop
    exact ⟨Holds.number (v := 0) (holds_drop hdrop (o := 1) rfl), Holds.zeros (holds_drop hdrop (o := 2) rfl),
      Holds.number (v := 255) (holds_drop hdrop (o := 16) rfl), Holds.zeros (holds_drop hdrop (o := 17) rfl),
      Holds.number (v := 255) (holds_drop hdrop (o := 29) rfl), Holds.zeros (holds_drop hdrop (o := 30) rfl)⟩
  · have hw : pendingWeldOf s = f.pendingWeld := by rw [pendingWeldOf, h]
    rw [h, hw] at hdrop
    obtain ⟨hflag, hlt⟩ := flagByte [true, f.headEnd, f.weld, f.extended, f.pendingWeld.isSome]
      (holds_drop hdrop (o := 1) rfl)
      (by simp only [Option.isSome_some, Option.map_some, Option.getD_some, bit_toNat, flagsOf]; omega)
      (Nat.le_of_ble_eq_true rfl)
    refine ⟨hflag 0 (by decide), hflag 1 (by decide), hflag 2 (by decide), hflag 3 (by decide), hflag 4 (by decide),
      hlt, Holds.showsSat (holds_drop hdrop (o := 2) rfl), Holds.showsSat (holds_drop hdrop (o := 8) rfl),
      Holds.shows (holds_drop hdrop (o := 12) rfl) f.coil.isLt,
      Holds.shows (holds_drop hdrop (o := 16) rfl) (show f.product.val < 256 by omega),
      Holds.showsSat (holds_drop hdrop (o := 17) rfl), fun hp => ?_, fun w hp => ?_⟩
    · rw [hp] at hdrop
      simp only [formingBlock, Option.map_none, Option.getD_none] at hdrop
      exact ⟨Holds.zeros (holds_drop hdrop (o := 19) rfl), Holds.number (v := 255) (holds_drop hdrop (o := 29) rfl),
        Holds.zeros (holds_drop hdrop (o := 30) rfl)⟩
    · rw [hp] at hdrop
      exact ⟨Holds.showsSat (holds_drop hdrop (o := 19) rfl), Holds.shows (holds_drop hdrop (o := 25) rfl) w.coil.isLt,
        Holds.shows (holds_drop hdrop (o := 29) rfl) (show w.product.val < 256 by omega),
        Holds.showsSat (holds_drop hdrop (o := 30) rfl)⟩
end

end Sys2Proof.Machine
end


section
/-! SUPPORT. The cell records of a Read Cells reply (R205). -/

namespace Sys2Proof.Machine

/-- The size of a cell record (R205). -/
def recordSize (k : Nat) : Nat := if k = 0 then 24 else 27

theorem cellRecord_size (k : Nat) (c : Cell) : (cellRecord k c).length = recordSize k := by
  cases k with
  | zero => rfl
  | succ i => simp [cellRecord, recordSize]

section
variable (s : State) (first n k : Nat) (hn : n ≠ 0)
include hn

theorem cellsReply_cells : (cellsReply s first n k).drop 15 =
    be 1 (cellsFrom s first n).length ++ ((cellsFrom s first n).flatMap (cellRecord k) ++ []) := by
  rw [cellsReply, if_neg hn, List.append_nil]
  exact drop_front _ _ 15 rfl

theorem cellsReply_records : (cellsReply s first n k).drop 16 = (cellsFrom s first n).flatMap (cellRecord k) ++ [] := by
  have h := congrArg (List.drop 1) (cellsReply_cells s first n k hn)
  rwa [List.drop_drop, drop_front _ _ 1 rfl] at h

theorem cellsReply_size : (cellsReply s first n k).length = 16 + recordSize k * (cellsFrom s first n).length := by
  rw [cellsReply, if_neg hn, List.length_append, List.length_append, flatMap_length _ _ (cellRecord_size k),
    cellsHead_length, be_length, Nat.mul_comm]
  omega
end

/-- The part of a cell record that every selector shows (R205). -/
theorem cellRecord_common (k : Nat) (c : Cell) (ha : c.approach ≤ 5) (more : List Byte) :
    let r := cellRecord k c ++ more
    Shows r 0 6 c.serial ∧ Shows r 6 4 c.coil.toNat ∧ Shows r 10 1 c.product.val ∧
    flagAt r 11 0 = c.headEnd ∧ flagAt r 11 1 = c.weld ∧ flagAt r 11 2 = c.measured.isSome ∧
    flagAt r 11 3 = c.extended ∧ field r 11 1 / 16 = c.approach := by
  intro r
  have hflags : flagsOf [c.headEnd, c.weld, c.measured.isSome, c.extended, c.approach.testBit 0, c.approach.testBit 1,
      c.approach.testBit 2] = bit c.headEnd 1 + bit c.weld 2 + bit c.measured.isSome 4 + bit c.extended 8 +
      16 * c.approach := by
    have happ : flagsOf [c.approach.testBit 0, c.approach.testBit 1, c.approach.testBit 2] = c.approach := by
      generalize c.approach = a at ha
      interval_cases a <;> rfl
    simp only [flagsOf] at happ
    simp only [bit_toNat, flagsOf]
    omega
  have hbyte : Holds r 11 (be 1 (bit c.headEnd 1 + bit c.weld 2 + bit c.measured.isSome 4 + bit c.extended 8 +
    16 * c.approach)) := rfl
  obtain ⟨hflag, -⟩ := flagByte _ hbyte hflags.symm (Nat.le_of_ble_eq_true rfl)
  refine ⟨Holds.showsSat rfl, Holds.shows rfl c.coil.isLt, Holds.shows rfl (show c.product.val < 256 by omega),
    hflag 0 (by decide), hflag 1 (by decide), hflag 2 (by decide), hflag 3 (by decide), ?_⟩
  have h1 : c.headEnd.toNat ≤ 1 := Bool.toNat_le _
  have h2 : c.weld.toNat ≤ 1 := Bool.toNat_le _
  have h3 : c.measured.isSome.toNat ≤ 1 := Bool.toNat_le _
  have h4 : c.extended.toNat ≤ 1 := Bool.toNat_le _
  rw [hbyte.number]
  simp only [bit_toNat]
  omega

/-- The selected part of a cell record for a stand (R205). -/
theorem cellRecord_entry (i : Nat) (c : Cell) (more : List Byte) :
    let r := cellRecord (i + 1) c ++ more
    (c.entries[i]? = none → field r 12 15 = 0) ∧
    ∀ e : StandEntry, c.entries[i]? = some e →
      flagAt r 12 0 = true ∧ flagAt r 12 1 = e.hm.isSome ∧ flagAt r 12 2 = e.hf.isSome ∧
      flagAt r 12 3 = (e.hf.map (·.saturated)).getD false ∧ flagAt r 12 4 = e.monUsed ∧
      field r 12 1 < 32 ∧ Shows r 13 6 e.stamp ∧ ShowsInt r 19 2 e.ff ∧
      Shows r 21 2 e.count ∧ Shows r 23 2 (e.hm.getD 0) ∧ Shows r 25 2 ((e.hf.map (·.value)).getD 0) := by
  intro r
  obtain ⟨common, hlen, hr⟩ : ∃ common : List Byte, common.length = 12 ∧
      r = common ++ (entryBytes c.entries[i]? ++ more) :=
    ⟨_, rfl, List.append_assoc _ _ _⟩
  have hdrop : r.drop 12 = entryBytes c.entries[i]? ++ more := by
    rw [hr]
    exact drop_front _ _ 12 hlen
  refine ⟨fun h => ?_, fun e h => ?_⟩
  · rw [h] at hdrop
    exact Holds.zeros (holds_drop hdrop (o := 0) rfl)
  · rw [h] at hdrop
    obtain ⟨hflag, hlt⟩ := flagByte [true, e.hm.isSome, e.hf.isSome, (e.hf.map (·.saturated)).getD false, e.monUsed]
      (holds_drop hdrop (o := 0) rfl) (by simp only [bit_toNat, flagsOf, Bool.toNat_true]; omega)
      (Nat.le_of_ble_eq_true rfl)
    exact ⟨hflag 0 (by decide), hflag 1 (by decide), hflag 2 (by decide), hflag 3 (by decide), hflag 4 (by decide), hlt,
      Holds.showsSat (holds_drop hdrop (o := 1) rfl), Holds.showsInt (holds_drop hdrop (o := 7) rfl) (by decide),
      Holds.showsSat (holds_drop hdrop (o := 9) rfl), Holds.showsSat (holds_drop hdrop (o := 11) rfl),
      Holds.showsSat (holds_drop hdrop (o := 13) rfl)⟩

/-- The Read Cells reply, with the odometer block or with cell records (R42, R205). -/
theorem cellsReply_fields (s : State) (hb : Bounded s) (hr : RunSound s) (first n k : Nat) :
    let bs := cellsReply s first n k
    Shows bs 0 1 (trackCode s.track.mode) ∧ Shows bs 1 2 s.track.queue.length ∧
    (s.track.queue = [] → Shows bs 3 6 0 ∧ Shows bs 9 6 0) ∧
    (∀ (c : Cell) (rest : List Cell), s.track.queue = c :: rest → Shows bs 3 6 c.serial) ∧
    (∀ (c : Cell) (rest : List Cell), s.track.queue = rest ++ [c] → Shows bs 9 6 c.serial) ∧
    (n = 0 → bs.length = 83 ∧
      (∀ z : Zone, Shows bs (15 + 6 * z.val) 6 s.track.odo[z]) ∧
      (s.track.cobble = none → Shows bs 51 1 0) ∧
      (∀ i : Stand, s.track.cobble = some i → Shows bs 51 1 (i.val + 1)) ∧
      (s.track.forming = none → field bs 52 1 = 0 ∧ field bs 53 14 = 0 ∧ field bs 67 1 = 0xFF ∧
        field bs 68 12 = 0 ∧ field bs 80 1 = 0xFF ∧ field bs 81 2 = 0) ∧
      ∀ f : FormingCell, s.track.forming = some f →
        flagAt bs 52 0 = true ∧ flagAt bs 52 1 = f.headEnd ∧ flagAt bs 52 2 = f.weld ∧
        flagAt bs 52 3 = f.extended ∧ flagAt bs 52 4 = f.pendingWeld.isSome ∧
        field bs 52 1 < 32 ∧ Shows bs 53 6 f.stamp ∧
        Shows bs 59 4 (s.track.odo[(0 : Fin 6)] - f.stamp) ∧ Shows bs 63 4 f.coil.toNat ∧
        Shows bs 67 1 f.product.val ∧ Shows bs 68 2 f.count ∧
        (f.pendingWeld = none →
          field bs 70 10 = 0 ∧ field bs 80 1 = 0xFF ∧ field bs 81 2 = 0) ∧
        ∀ w : PendingWeld, f.pendingWeld = some w → Shows bs 70 6 w.stamp ∧
          Shows bs 76 4 w.coil.toNat ∧ Shows bs 80 1 w.product.val ∧ Shows bs 81 2 w.count) ∧
    (1 ≤ n → n ≤ 8 →
      let cs := (s.track.queue.filter fun c => decide (first ≤ c.serial)).take n
      let size := if k = 0 then 24 else 27
      bs.length = 16 + size * cs.length ∧ Shows bs 15 1 cs.length ∧
      ∀ (j : Nat) (c : Cell), cs[j]? = some c → c.approach ≤ 5 →
        let r := bs.drop (16 + size * j)
        Shows r 0 6 c.serial ∧ Shows r 6 4 c.coil.toNat ∧ Shows r 10 1 c.product.val ∧
        flagAt r 11 0 = c.headEnd ∧ flagAt r 11 1 = c.weld ∧ flagAt r 11 2 = c.measured.isSome ∧
        flagAt r 11 3 = c.extended ∧ field r 11 1 / 16 = c.approach ∧
        (k = 0 → Shows r 12 6 c.e0 ∧ Shows r 18 4 c.l0 ∧
          Shows r 22 2 ((c.measured.map (·.h0)).getD 0)) ∧
        ∀ i : Nat, k = i + 1 → (c.entries[i]? = none → field r 12 15 = 0) ∧
          ∀ e : StandEntry, c.entries[i]? = some e →
            flagAt r 12 0 = true ∧ flagAt r 12 1 = e.hm.isSome ∧ flagAt r 12 2 = e.hf.isSome ∧
            flagAt r 12 3 = (e.hf.map (·.saturated)).getD false ∧ flagAt r 12 4 = e.monUsed ∧
            field r 12 1 < 32 ∧ Shows r 13 6 e.stamp ∧ ShowsInt r 19 2 e.ff ∧
            Shows r 21 2 e.count ∧ Shows r 23 2 (e.hm.getD 0) ∧
            Shows r 25 2 ((e.hf.map (·.value)).getD 0)) := by
  intro bs
  obtain ⟨hmode, hlen, hempty, hoff, hlast⟩ := cellsReply_heads s hb first n k
  refine ⟨hmode, hlen, hempty, hoff, hlast, ?_, fun h1 h8 => ?_⟩
  · rintro rfl
    refine ⟨?_, cellsReply_odometer s first k, cellsReply_formingCell s first k⟩
    exact (List.length_append).trans (by rw [cellsHead_length, if_pos rfl, odometerBlock_length])
  · intro cs size
    have hn : n ≠ 0 := by omega
    have hcs : cellsFrom s first n = cs := cellsFrom_eq s hr first n
    have hcount : Holds bs 15 (be 1 (cellsFrom s first n).length) := by
      have h := cellsReply_cells s first n k hn
      exact holds_drop h (o := 0) rfl
    have hsize := cellsReply_size s first n k hn
    have hrecords := cellsReply_records s first n k hn
    rw [hcs] at hcount hsize hrecords
    have hshort : cs.length ≤ 8 := by
      have htake : cs.length ≤ n := List.length_take_le n (s.track.queue.filter fun c => decide (first ≤ c.serial))
      omega
    refine ⟨hsize, hcount.shows (show cs.length < 256 by omega), fun j c hc ha => ?_⟩
    intro r
    obtain ⟨more, hmore⟩ := record_drop (cellRecord k) (recordSize k) (cellRecord_size k) hc hrecords
    have hrr : r = cellRecord k c ++ more := hmore
    obtain ⟨h1, h2, h3, h4, h5, h6, h7, h8⟩ := cellRecord_common k c ha more
    rw [hrr]
    refine ⟨h1, h2, h3, h4, h5, h6, h7, h8, ?_, ?_⟩
    · rintro rfl
      exact ⟨Holds.showsSat rfl, Holds.showsSat rfl, Holds.showsSat rfl⟩
    · rintro i rfl
      exact cellRecord_entry i c more

end Sys2Proof.Machine
end


section
/-! SUPPORT. Read Gauges and both views of Read Product (R66, R74, R208). -/

namespace Sys2Proof.Machine

/-! ### Gauges -/

theorem phaseCode_lt (p : StdPhase) : phaseCode p < 256 := by
  cases p <;> decide

theorem sourceCode_lt (p : StdSource) : sourceCode p < 256 := by
  cases p <;> decide

theorem gaugeModeCode_lt (m : GaugeMode) : gaugeModeCode m < 256 := by
  cases m <;> decide

theorem gaugesReply_fields (s : State) (p : Gauge) :
    let r := (gaugesReply s).drop (25 * p.val)
    let g := s.gauges[p]
    flagAt r 0 0 = g.installed ∧ flagAt r 0 1 = g.holdOff ∧ flagAt r 0 2 = g.overdue ∧
    field r 0 1 < 8 ∧ (g.addr = none → field r 1 1 = 0xFF) ∧
    (∀ a : Node, g.addr = some a → Shows r 1 1 a.val) ∧ Shows r 2 4 g.g ∧
    Shows r 6 4 g.stdLength ∧ Shows r 10 4 g.weldGuard ∧ Shows r 14 1 (gaugeModeCode g.mode) ∧
    Shows r 15 6 g.length ∧ Shows r 21 1 (phaseCode g.phase) ∧
    Shows r 22 1 (sourceCode g.source) ∧ Shows r 23 2 g.discarded := by
  intro r g
  have hp : s.gauges.toList[p.val]? = some g := by simp [g]
  obtain ⟨more, hmore⟩ : ∃ more, r = gaugeRecordBytes g ++ more :=
    ⟨_, flatMap_drop gaugeRecordBytes 25 gaugeRecordBytes_length _ _ _ hp⟩
  rw [hmore]
  generalize g = g
  obtain ⟨hflag, hlt⟩ := flagByte (bs := gaugeRecordBytes g ++ more) (o := 0) [g.installed, g.holdOff, g.overdue] rfl
    (by simp only [bit_toNat, flagsOf]; omega) (Nat.le_of_ble_eq_true rfl)
  obtain ⟨hnone, hsome⟩ := index_fields (bs := gaugeRecordBytes g ++ more) (o := 1) (q := g.addr) (by decide) rfl
  exact ⟨hflag 0 (by decide), hflag 1 (by decide), hflag 2 (by decide), hlt, hnone, hsome, Holds.showsSat rfl,
    Holds.showsSat rfl, Holds.showsSat rfl, Holds.shows rfl (gaugeModeCode_lt _), Holds.showsSat rfl,
    Holds.shows rfl (phaseCode_lt _), Holds.shows rfl (sourceCode_lt _), Holds.showsSat rfl⟩

/-! ### Products -/

/-- A set of stands as a number, stand 1 in bit 0 (R200). -/
theorem standSet_flags (f : Stand → Bool) :
    (allStands.map fun i => bit (f i) (2 ^ i.val)).sum = flagsOf (allStands.map f) := by
  show bit (f 0) 1 + (bit (f 1) 2 + (bit (f 2) 4 + (bit (f 3) 8 + (bit (f 4) 16 + 0)))) = _
  simp only [allStands, List.map_cons, List.map_nil, flagsOf, bit_toNat]
  omega

section
variable (s : State) (p : Product)

theorem productStand_drop (i : Stand) : ∃ more,
    (productEntryReply s p).drop (16 + 10 * i.val) = productStandBytes s.store.table[p] i ++ more := by
  have hi : allStands[i.val]? = some i := by
    revert i
    decide
  refine record_drop (productStandBytes s.store.table[p]) 10 (fun _ => rfl) hi (rest := []) ?_
  rw [List.append_nil]
  rfl

/-- Whether a holder of an optional product names this one. -/
def namesProduct (q : Option Product) : Bool := decide (q = some p)

theorem formingNames_eq : formingNames s p = namesProduct p (s.track.forming.map (·.product)) := by
  unfold formingNames namesProduct
  cases s.track.forming with
  | none => rfl
  | some f => simp

theorem pendingNames_eq :
    pendingNames s p = namesProduct p ((s.track.forming.bind (·.pendingWeld)).map (·.product)) := by
  unfold pendingNames pendingWeldOf namesProduct
  cases s.track.forming with
  | none => rfl
  | some f =>
    rw [Option.bind_some]
    dsimp only
    cases f.pendingWeld with
    | none => rfl
    | some w => simp

/-- The holders of a product, counted (R70). -/
def heldCount : Nat := s.track.queue.countP (fun c => decide (c.product = p)) +
  bit (namesProduct p (s.track.forming.map (·.product))) 1 +
  bit (namesProduct p ((s.track.forming.bind (·.pendingWeld)).map (·.product))) 1 +
  s.store.active.toList.countP (namesProduct p) + s.store.coils.countP (fun c => decide (c.product = p)) +
  bit (namesProduct p s.store.threading) 1

theorem refCount_held : s.refCount p = heldCount s p := by
  rw [State.refCount, formingNames_eq, pendingNames_eq]
  rfl

/-- The state of a product entry as a read shows it (R70, R200). -/
def heldState : Nat := if s.store.table[p].loaded = false then 0 else if heldCount s p = 0 then 1 else 2

theorem entryStateCode_held : entryStateCode (s.entryState p) = heldState s p := by
  rw [State.entryState, refCount_held, heldState]
  by_cases hl : s.store.table[p].loaded = true
  · rw [if_pos hl, if_neg (show ¬ s.store.table[p].loaded = false from by rw [hl]; exact nofun)]
    split <;> rfl
  · rw [if_neg hl, if_pos (Bool.eq_false_iff.mpr hl)]
    rfl

theorem heldState_lt : heldState s p < 256 := by
  unfold heldState
  repeat' split
  all_goals decide

theorem activeSet_flags : activeSet s p = flagsOf (allStands.map fun i => namesProduct p s.store.active[i]) :=
  standSet_flags fun i => namesProduct p s.store.active[i]

theorem productEntry_fields (hb : Bounded s) :
    let bs := productEntryReply s p
    let e := s.store.table[p]
    Shows bs 0 1 p.val ∧ Shows bs 1 1 (heldState s p) ∧ Shows bs 2 2 (heldCount s p) ∧
    Shows bs 4 2 (s.track.queue.countP fun c => decide (c.product = p)) ∧
    flagAt bs 6 0 = namesProduct p (s.track.forming.map (·.product)) ∧
    flagAt bs 6 1 = namesProduct p ((s.track.forming.bind (·.pendingWeld)).map (·.product)) ∧
    flagAt bs 6 2 = namesProduct p s.store.threading ∧ field bs 6 1 < 8 ∧
    (∀ i : Stand, flagAt bs 7 i.val = namesProduct p s.store.active[i]) ∧ field bs 7 1 < 32 ∧
    Shows bs 8 1 (s.store.coils.countP fun c => decide (c.product = p)) ∧ Shows bs 9 4 e.code.toNat ∧
    Shows bs 13 1 (bit e.carryTrim 1) ∧ Shows bs 14 2 e.hRef ∧
    ∀ i : Stand, Shows bs (16 + 10 * i.val) 2 e.hExit[i] ∧
      ShowsInt bs (18 + 10 * i.val) 4 e.sSet[i] ∧ Shows bs (22 + 10 * i.val) 2 e.kFf[i] ∧
      Shows bs (24 + 10 * i.val) 2 e.kMon[i] := by
  intro bs e
  have hcoils : s.store.coils.countP (fun c => decide (c.product = p)) < 256 := by
    have := hb.coils
    have := List.countP_le_length (p := fun c : Coil => decide (c.product = p)) (l := s.store.coils)
    omega
  have hstate : Holds bs 1 (be 1 (entryStateCode (s.entryState p))) := rfl
  have hcount : Holds bs 2 (beSat 2 (s.refCount p)) := rfl
  rw [entryStateCode_held] at hstate
  rw [refCount_held] at hcount
  have hbit : bit e.carryTrim 1 < 256 := by
    rw [bit_toNat]
    have := Bool.toNat_le e.carryTrim
    omega
  obtain ⟨hflag, hlt⟩ := flagByte (bs := bs) (o := 6)
    [formingNames s p, pendingNames s p, namesProduct p s.store.threading] rfl
    (by simp only [bit_toNat, flagsOf, namesProduct]; omega) (Nat.le_of_ble_eq_true rfl)
  obtain ⟨hset, hsetlt⟩ := flagByte (bs := bs) (o := 7) _ rfl (activeSet_flags s p) (Nat.le_of_ble_eq_true rfl)
  rw [← formingNames_eq, ← pendingNames_eq]
  refine ⟨Holds.shows rfl (show p.val < 256 by omega), hstate.shows (heldState_lt s p), hcount.showsSat,
    Holds.showsSat rfl, hflag 0 (by decide), hflag 1 (by decide), hflag 2 (by decide), hlt, fun i => ?_, hsetlt,
    Holds.shows rfl hcoils, Holds.shows rfl e.code.isLt, Holds.shows rfl hbit, Holds.showsSat rfl, fun i => ?_⟩
  · have hi : (allStands.map fun i => namesProduct p s.store.active[i])[i.val]? =
        some (namesProduct p s.store.active[i]) := by
      have hat : allStands[i.val]? = some i := by
        revert i
        decide
      rw [List.getElem?_map, hat]
      rfl
    rw [hset i.val (by omega), List.getD_eq_getElem?_getD, hi]
    rfl
  · obtain ⟨more, hmore⟩ := productStand_drop s p i
    have h18 : 18 + 10 * i.val = 16 + 10 * i.val + 2 := by omega
    have h22 : 22 + 10 * i.val = 16 + 10 * i.val + 6 := by omega
    have h24 : 24 + 10 * i.val = 16 + 10 * i.val + 8 := by omega
    rw [h18, h22, h24]
    exact ⟨Holds.showsSat (holds_drop hmore (o := 0) rfl), Holds.showsInt (holds_drop hmore (o := 2) rfl) (by decide),
      Holds.showsSat (holds_drop hmore (o := 6) rfl), Holds.showsSat (holds_drop hmore (o := 8) rfl)⟩
end

end Sys2Proof.Machine
end


section
/-! SUPPORT. The TABLE view of Read Product, and Read Nodes (R74, R179, R208). -/

namespace Sys2Proof.Machine

/-! ### The product table -/

section
variable (s : State)

/-- One entry of the product table (R208). -/
def tableEntry (p : Product) : List Byte :=
  be 1 (entryStateCode (s.entryState p)) ++ beSat 2 (s.refCount p) ++ be 4 s.store.table[p].code.toNat

theorem productTable_parts : productTableReply s = allProducts.flatMap (tableEntry s) ++
    (be 1 (optIndex s.store.threading) ++ ((s.store.active.toList.flatMap fun a => be 1 (optIndex a)) ++
    (be 1 s.store.coils.length ++ ((s.store.coils.flatMap fun c => be 4 c.id.toNat ++ be 1 c.product.val) ++ [])))) := by
  unfold productTableReply
  simp only [List.append_assoc, List.append_nil]
  rfl

theorem productTable_threading : (productTableReply s).drop 112 = be 1 (optIndex s.store.threading) ++
    ((s.store.active.toList.flatMap fun a => be 1 (optIndex a)) ++ (be 1 s.store.coils.length ++
    ((s.store.coils.flatMap fun c => be 4 c.id.toNat ++ be 1 c.product.val) ++ []))) := by
  rw [productTable_parts]
  exact drop_front _ _ 112 (flatMap_length (tableEntry s) 7 (fun _ => rfl) allProducts)

theorem productTable_active : (productTableReply s).drop 113 =
    (s.store.active.toList.flatMap fun a => be 1 (optIndex a)) ++ (be 1 s.store.coils.length ++
    ((s.store.coils.flatMap fun c => be 4 c.id.toNat ++ be 1 c.product.val) ++ [])) := by
  have h := congrArg (List.drop 1) (productTable_threading s)
  rwa [List.drop_drop, drop_front _ _ 1 rfl] at h

theorem productTable_coils : (productTableReply s).drop 118 = be 1 s.store.coils.length ++
    ((s.store.coils.flatMap fun c => be 4 c.id.toNat ++ be 1 c.product.val) ++ []) := by
  have h := congrArg (List.drop 5) (productTable_active s)
  rwa [List.drop_drop, drop_front _ _ 5 (by rw [flatMap_length _ 1 fun _ => rfl, Vector.length_toList])] at h

theorem productTable_list : (productTableReply s).drop 119 =
    (s.store.coils.flatMap fun c => be 4 c.id.toNat ++ be 1 c.product.val) ++ [] := by
  have h := congrArg (List.drop 1) (productTable_coils s)
  rwa [List.drop_drop, drop_front _ _ 1 rfl] at h

theorem productTable_entry (p : Product) :
    let t := productTableReply s
    Shows t (7 * p.val) 1 (heldState s p) ∧ Shows t (7 * p.val + 1) 2 (heldCount s p) ∧
      Shows t (7 * p.val + 3) 4 s.store.table[p].code.toNat := by
  intro t
  have hp : allProducts[p.val]? = some p := by
    revert p
    decide
  obtain ⟨more, hmore⟩ := record_drop (tableEntry s) 7 (fun _ => rfl) hp (bs := t) (o := 0) (productTable_parts s)
  rw [Nat.zero_add] at hmore
  have hstate : Holds t (7 * p.val + 0) (be 1 (entryStateCode (s.entryState p))) := holds_drop hmore rfl
  have hcount : Holds t (7 * p.val + 1) (beSat 2 (s.refCount p)) := holds_drop hmore rfl
  rw [entryStateCode_held] at hstate
  rw [refCount_held] at hcount
  exact ⟨hstate.shows (heldState_lt s p), hcount.showsSat,
    Holds.shows (holds_drop hmore (o := 3) rfl) s.store.table[p].code.isLt⟩

theorem productTable_fields (hb : Bounded s) :
    let t := productTableReply s
    let index (o : Nat) (q : Option Product) :=
      (q = none → field t o 1 = 0xFF) ∧ ∀ p : Product, q = some p → Shows t o 1 p.val
    t.length = 119 + 5 * s.store.coils.length ∧ index 112 s.store.threading ∧
    (∀ i : Stand, index (113 + i.val) s.store.active[i]) ∧ Shows t 118 1 s.store.coils.length ∧
    ∀ (j : Nat) (c : Coil), s.store.coils[j]? = some c →
      Shows t (119 + 5 * j) 4 c.id.toNat ∧ Shows t (123 + 5 * j) 1 c.product.val := by
  intro t index
  have hcoils := hb.coils
  refine ⟨?_, index_fields (by decide) (holds_drop (productTable_threading s) (o := 0) rfl), fun i => ?_,
    Holds.shows (holds_drop (productTable_coils s) (o := 0) rfl) (show s.store.coils.length < 256 by omega),
    fun j c hc => ?_⟩
  · have hfront := congrArg List.length (productTable_parts s)
    have hlist := congrArg List.length (productTable_list s)
    rw [List.length_drop, List.append_nil, flatMap_length _ 5 fun _ => rfl] at hlist
    simp only [List.length_append, flatMap_length (tableEntry s) 7 (fun _ => rfl)] at hfront
    have h16 : allProducts.length = 16 := rfl
    have h5 : s.store.active.toList.length = 5 := Vector.length_toList
    rw [h16] at hfront
    show (productTableReply s).length = _
    rw [flatMap_length _ 1 fun _ => rfl, h5, flatMap_length _ 5 fun _ => rfl, be_length, be_length] at hfront
    simp only [List.length_nil] at hfront
    omega
  · have hi : s.store.active.toList[i.val]? = some s.store.active[i] := by simp
    obtain ⟨more, hmore⟩ := record_drop (fun a : Option Product => be 1 (optIndex a)) 1 (fun _ => rfl) hi
      (productTable_active s)
    rw [Nat.one_mul] at hmore
    exact index_fields (by decide) (holds_drop hmore (o := 0) rfl)
  · obtain ⟨more, hmore⟩ := record_drop (fun c : Coil => be 4 c.id.toNat ++ be 1 c.product.val) 5 (fun _ => rfl) hc
      (productTable_list s)
    have h123 : 123 + 5 * j = 119 + 5 * j + 4 := by omega
    rw [h123]
    exact ⟨Holds.shows (holds_drop hmore (o := 0) rfl) c.id.isLt,
      Holds.shows (holds_drop hmore (o := 4) rfl) (show c.product.val < 256 by omega)⟩
end

/-! ### The nodes -/

theorem linkStateCode_lt (l : LinkState) : linkStateCode l < 256 := by
  cases l <;> decide

theorem roleCode_lt (r : Role) : roleCode r < 256 := by
  cases r with
  | none => decide
  | entry => decide
  | stand i => exact show 1 + i.val < 256 by omega
  | gauge p => exact show 6 + p.val < 256 by omega

section
variable (s : State)

/-- The part of a Read Nodes reply before the node table (R208). -/
def nodesHead : List Byte :=
  be 1 (linkStateCode s.link.state) ++
  (be 1 (bit s.link.stuck 1 + bit s.link.yield 2 + bit s.link.lastReset.isSome 4) ++
  (be 4 (s.link.lastReset.elim 0 fun t => (s.now - t).toNat) ++
  (beSat 2 s.respUs ++ (beSat 2 s.txnLimitUs ++ (beSat 2 s.silenceMs ++ (be 1 s.link.ring.val ++
  (be 3 (slotBits s) ++ (be 1 (s.link.inFlight.elim 0xFF fun f => itemSlot f.item) ++
  (beSat 2 s.link.counters.checkErrors ++ (beSat 2 s.link.counters.rejected ++
  (beSat 2 s.link.counters.failed ++ (beSat 2 s.link.counters.abandoned ++
  beSat 2 s.link.counters.resets))))))))))))

theorem nodesReply_parts : nodesReply s = nodesHead s ++ (allNodes.flatMap (nodeBytes s) ++ []) := by
  unfold nodesReply nodesHead
  dsimp only
  cases s.link.lastReset <;> cases s.link.inFlight <;>
    simp only [Option.elim_some, Option.elim_none, List.append_assoc, List.append_nil]

theorem nodesReply_head {o : Nat} {chunk : List Byte} (h : ∀ rest, Holds (nodesHead s ++ rest) o chunk) :
    Holds (nodesReply s) o chunk := by
  rw [nodesReply_parts]
  exact h _

theorem nodesReply_table : (nodesReply s).drop 27 = allNodes.flatMap (nodeBytes s) ++ [] := by
  rw [nodesReply_parts]
  exact drop_front _ _ 27 rfl

/-- The filled slots as flags, slot 0 in bit 0 (R208). -/
theorem slotBits_flags : slotBits s = flagsOf ((List.range 17).map s.slotFilled) := by
  unfold slotBits
  generalize s.slotFilled = f
  show bit (f 0) 1 + (bit (f 1) 2 + (bit (f 2) 4 + (bit (f 3) 8 + (bit (f 4) 16 + (bit (f 5) 32 + (bit (f 6) 64 +
    (bit (f 7) 128 + (bit (f 8) 256 + (bit (f 9) 512 + (bit (f 10) 1024 + (bit (f 11) 2048 + (bit (f 12) 4096 +
    (bit (f 13) 8192 + (bit (f 14) 16384 + (bit (f 15) 32768 + (bit (f 16) 65536 + 0)))))))))))))))) =
    flagsOf [f 0, f 1, f 2, f 3, f 4, f 5, f 6, f 7, f 8, f 9, f 10, f 11, f 12, f 13, f 14, f 15, f 16]
  simp only [flagsOf, bit_toNat]
  omega

theorem slotFilled_open (i : Stand) : s.slotFilled (1 + i.val) = openFilled s i := by
  have h1 : ¬ 1 + i.val = 0 := by omega
  have h2 : 1 ≤ 1 + i.val ∧ 1 + i.val ≤ 5 := by omega
  rw [State.slotFilled, if_neg h1, dif_pos h2]
  exact congrArg (openFilled s) (Fin.ext (Nat.add_sub_cancel_left 1 i.val))

theorem slotFilled_gap (i : Stand) : s.slotFilled (6 + i.val) = gapFilled s i := by
  have h1 : ¬ 6 + i.val = 0 := by omega
  have h2 : ¬ (1 ≤ 6 + i.val ∧ 6 + i.val ≤ 5) := by omega
  have h3 : 6 ≤ 6 + i.val ∧ 6 + i.val ≤ 10 := by omega
  rw [State.slotFilled, if_neg h1, dif_neg h2, dif_pos h3]
  exact congrArg (gapFilled s) (Fin.ext (Nat.add_sub_cancel_left 6 i.val))

theorem slotFilled_std (p : Gauge) : s.slotFilled (11 + p.val) = stdFilled s p := by
  have h1 : ¬ 11 + p.val = 0 := by omega
  have h2 : ¬ (1 ≤ 11 + p.val ∧ 11 + p.val ≤ 5) := by omega
  have h3 : ¬ (6 ≤ 11 + p.val ∧ 11 + p.val ≤ 10) := by omega
  have h4 : 11 ≤ 11 + p.val ∧ 11 + p.val ≤ 16 := by omega
  rw [State.slotFilled, if_neg h1, dif_neg h2, dif_neg h3, dif_pos h4]
  exact congrArg (stdFilled s) (Fin.ext (Nat.add_sub_cancel_left 11 p.val))

/-- The slots in a Read Nodes reply (R200, R208). -/
theorem nodesReply_slots :
    let bs := nodesReply s
    field bs 13 3 < 2 ^ 17 ∧ (field bs 13 3).testBit 0 = stopFilled s ∧
    (∀ i : Stand, (field bs 13 3).testBit (1 + i.val) = openFilled s i ∧
      (field bs 13 3).testBit (6 + i.val) = gapFilled s i) ∧
    ∀ p : Gauge, (field bs 13 3).testBit (11 + p.val) = decide (s.gauges[p].phase = .placed) := by
  intro bs
  have hlt : flagsOf ((List.range 17).map s.slotFilled) < 2 ^ 17 := flagsOf_lt _
  have hslots : Holds bs 13 (be 3 (slotBits s)) := nodesReply_head s fun _ => rfl
  have hfield : field bs 13 3 = flagsOf ((List.range 17).map s.slotFilled) := by
    rw [hslots.number, slotBits_flags, Nat.mod_eq_of_lt (by omega)]
  have hbit : ∀ k < 17, (field bs 13 3).testBit k = s.slotFilled k := fun k hk => by
    rw [hfield, flagsOf_testBit, List.getD_eq_getElem?_getD, List.getElem?_map, List.getElem?_range hk]
    rfl
  refine ⟨by rw [hfield]; exact hlt, hbit 0 (by decide), fun i => ⟨?_, ?_⟩, fun p => ?_⟩
  · rw [hbit _ (by omega), slotFilled_open]
  · rw [hbit _ (by omega), slotFilled_gap]
  · rw [hbit _ (by omega), slotFilled_std]
    rfl

/-- The link's part of a Read Nodes reply (R208). -/
theorem nodesReply_link :
    let bs := nodesReply s
    let l := s.link
    let own (v rest : Nat) := if s.mill.configured = true then v else rest
    Shows bs 0 1 (linkStateCode l.state) ∧ flagAt bs 1 0 = l.stuck ∧ flagAt bs 1 1 = l.yield ∧
    flagAt bs 1 2 = l.lastReset.isSome ∧ field bs 1 1 < 8 ∧
    (l.lastReset = none → Shows bs 2 4 0) ∧
    (∀ t : Time, l.lastReset = some t → Shows bs 2 4 (s.now - t).toNat) ∧
    Shows bs 6 2 (own s.mill.respUs 2000) ∧ Shows bs 8 2 (own s.mill.txnLimitUs 20000) ∧
    Shows bs 10 2 (own s.mill.silenceMs 1000) ∧ Shows bs 12 1 l.ring.val := by
  intro bs l own
  obtain ⟨hflag, hlt⟩ := flagByte (bs := bs) (o := 1) [s.link.stuck, s.link.yield, s.link.lastReset.isSome]
    (nodesReply_head s fun _ => rfl) (by simp only [bit_toNat, flagsOf]; omega) (Nat.le_of_ble_eq_true rfl)
  have hreset : Holds bs 2 (be 4 (s.link.lastReset.elim 0 fun t => (s.now - t).toNat)) :=
    nodesReply_head s fun _ => rfl
  refine ⟨Holds.shows (nodesReply_head s fun _ => rfl) (linkStateCode_lt _), hflag 0 (by decide), hflag 1 (by decide),
    hflag 2 (by decide), hlt, fun h => ?_, fun t h => ?_, Holds.showsSat (nodesReply_head s fun _ => rfl),
    Holds.showsSat (nodesReply_head s fun _ => rfl), Holds.showsSat (nodesReply_head s fun _ => rfl),
    Holds.shows (nodesReply_head s fun _ => rfl) (show s.link.ring.val < 256 by omega)⟩
  · rw [show s.link.lastReset = none from h] at hreset
    exact hreset.shows (show 0 < 256 ^ 4 by decide)
  · rw [show s.link.lastReset = some t from h] at hreset
    exact hreset.shows (s.now - t).isLt

/-- The item in flight in a Read Nodes reply (R200, R208). -/
theorem nodesReply_item :
    let bs := nodesReply s
    (s.link.inFlight = none → field bs 16 1 = 0xFF) ∧
    ∀ f : InFlight, s.link.inFlight = some f →
      (∀ lv b, f.item = .stop lv b → Shows bs 16 1 0) ∧
      (∀ i n, f.item = .gapOpen i n → Shows bs 16 1 (1 + i.val)) ∧
      (∀ i cmd n, f.item = .gap i cmd n → Shows bs 16 1 (6 + i.val)) ∧
      ∀ p, f.item = .standardize p → Shows bs 16 1 (11 + p.val) := by
  intro bs
  have hitem : Holds bs 16 (be 1 (s.link.inFlight.elim 0xFF fun f => itemSlot f.item)) :=
    nodesReply_head s fun _ => rfl
  refine ⟨fun h => ?_, fun f h => ?_⟩
  · rw [h] at hitem
    exact hitem.number
  · rw [h, Option.elim_some] at hitem
    refine ⟨fun lv b hf => ?_, fun i n hf => ?_, fun i cmd n hf => ?_, fun p hf => ?_⟩ <;> rw [hf] at hitem
    · exact hitem.shows (show 0 < 256 by decide)
    · exact hitem.shows (show 1 + i.val < 256 by omega)
    · exact hitem.shows (show 6 + i.val < 256 by omega)
    · exact hitem.shows (show 11 + p.val < 256 by omega)

/-- A node table entry as one run of fields (R208). -/
theorem nodeBytes_parts (a : Node) : nodeBytes s a = be 1 (roleCode s.nodes[a].role) ++
    (be 1 (nodeStateCode s.nodes[a].state) ++
    (be 1 (bit s.nodes[a].remote 1 + bit (decide (s.nodes[a].state ≠ .absent)) 2) ++
    (beSat 2 (if s.nodes[a].state ≠ .absent then (s.now - s.nodes[a].lastFrame).toNat else 0) ++
    (be 1 s.nodes[a].failures ++ [s.nodes[a].echo])))) := by
  unfold nodeBytes
  dsimp only
  by_cases h : s.nodes[a].state ≠ .absent
  · rw [if_pos h, if_pos (decide_eq_true h)]
    simp only [List.append_assoc]
  · rw [if_neg h, if_neg (by rw [decide_eq_false h]; exact nofun)]
    simp only [List.append_assoc]
    rfl

theorem nodesReply_node (hb : Bounded s) (a : Node) :
    let r := (nodesReply s).drop (27 + 7 * a.val)
    let n := s.nodes[a]
    Shows r 0 1 (roleCode n.role) ∧ Shows r 1 1 (nodeStateCode n.state) ∧
    flagAt r 2 0 = n.remote ∧ flagAt r 2 1 = decide (n.state ≠ .absent) ∧ field r 2 1 < 4 ∧
    (n.state = .absent → Shows r 3 2 0) ∧
    (n.state ≠ .absent → Shows r 3 2 (s.now - n.lastFrame).toNat) ∧
    Shows r 5 1 n.failures ∧ Shows r 6 1 n.echo.toNat := by
  intro r n
  have ha : allNodes[a.val]? = some a := by
    revert a
    decide
  obtain ⟨more, hmore⟩ : ∃ more, r = nodeBytes s a ++ more :=
    record_drop (nodeBytes s) 7 (nodeBytes_length s) ha (nodesReply_table s)
  rw [nodeBytes_parts] at hmore
  have hfail := hb.failures a
  have hseen : Holds r 3 (beSat 2 (if s.nodes[a].state ≠ .absent then (s.now - s.nodes[a].lastFrame).toNat else 0)) := by
    rw [hmore]
    rfl
  obtain ⟨hflag, hlt⟩ := flagByte (bs := r) (o := 2) [s.nodes[a].remote, decide (s.nodes[a].state ≠ .absent)]
    (by rw [hmore]; rfl) (by simp only [bit_toNat, flagsOf]; omega) (Nat.le_of_ble_eq_true rfl)
  refine ⟨?_, ?_, hflag 0 (by decide), hflag 1 (by decide), hlt, fun h => ?_, fun h => ?_, ?_, ?_⟩
  · rw [hmore]
    exact Holds.shows rfl (roleCode_lt _)
  · rw [hmore]
    exact Holds.shows rfl (nodeStateCode_lt _)
  · rw [if_neg (not_not.mpr h)] at hseen
    exact hseen.showsSat
  · rw [if_pos h] at hseen
    exact hseen.showsSat
  · rw [hmore]
    exact Holds.shows rfl (show s.nodes[a].failures < 256 by omega)
  · rw [hmore]
    exact Holds.showsByte rfl
end

end Sys2Proof.Machine
end


section
/-! SUPPORT. Both views of Read Trips (R150, R206). -/

namespace Sys2Proof.Machine

theorem stopRank_lt (l : StopLevel) : stopRank l < 256 := by
  cases l <;> decide

theorem confirmCode_lt (c : ConfirmState) : confirmCode c < 256 := by
  cases c <;> decide

theorem driveCode_lt (d : DriveState) : driveCode d < 256 := by
  cases d <;> decide

theorem classCode_lt (c : TripClass) : classCode c < 256 := by
  cases c <;> decide

theorem causeCode_lt (c : Option EscalationCause) : causeCode c < 256 := by
  rcases c with _ | c
  · decide
  · cases c <;> decide

theorem latchedCount_lt (s : State) : latchedCount s < 256 := by
  have h := List.countP_le_length (p := fun r : TripRecord => r.latched) (l := s.trips.records.toList)
  rw [Vector.length_toList] at h
  exact Nat.lt_of_le_of_lt h (by decide)

/-- The set of pressed lines as a number, line 1 in bit 0 (R200). -/
theorem lineSet_flags (f : Fin 8 → Bool) :
    (allLines.map fun x => bit (f x) (2 ^ x.val)).sum = flagsOf (allLines.map f) := by
  show bit (f 0) 1 + (bit (f 1) 2 + (bit (f 2) 4 + (bit (f 3) 8 + (bit (f 4) 16 + (bit (f 5) 32 + (bit (f 6) 64 +
    (bit (f 7) 128 + 0))))))) = _
  simp only [allLines, List.map_cons, List.map_nil, flagsOf, bit_toNat]
  omega

section
variable (s : State)

/-- The part of a Read Trips summary before the stands' drives (R206). -/
def summaryHead : List Byte :=
  be 1 (latchedCount s) ++ (be 1 (bit s.trips.escalation.isSome 1 + bit s.mstop 2) ++
  (be 1 (causeCode s.trips.escalation) ++ (be 1 (stopRank s.trips.stopWanted) ++
  (be 1 (stopRank s.trips.stopSent) ++ (be 1 (confirmCode s.trips.confirm) ++
  (beSat 2 (timerLeft s.now s.trips.confirmT) ++
  (be 1 (allLines.map fun x => bit s.trips.pressed[x] (2 ^ x.val)).sum ++
  be 1 (driveCode s.trips.driveEntry))))))))

theorem tripSummary_parts (rest : List Byte) : tripSummary s ++ rest = summaryHead s ++
    ((s.trips.drive.toList.flatMap fun d => be 1 (driveCode d)) ++
    ((s.trips.low.toList.flatMap fun c => beSat 1 c) ++ rest)) := by
  simp only [tripSummary, summaryHead, List.append_assoc]

variable (bs rest : List Byte) (hbs : bs = tripSummary s ++ rest)
include hbs

theorem summary_head {o : Nat} {chunk : List Byte} (h : ∀ more, Holds (summaryHead s ++ more) o chunk) :
    Holds bs o chunk := by
  rw [hbs, tripSummary_parts]
  exact h _

theorem summary_drives : bs.drop 10 = (s.trips.drive.toList.flatMap fun d => be 1 (driveCode d)) ++
    ((s.trips.low.toList.flatMap fun c => beSat 1 c) ++ rest) := by
  rw [hbs, tripSummary_parts]
  exact drop_front _ _ 10 rfl

theorem summary_low : bs.drop 15 = (s.trips.low.toList.flatMap fun c => beSat 1 c) ++ rest := by
  have h := congrArg (List.drop 5) (summary_drives s bs rest hbs)
  rwa [List.drop_drop, drop_front _ _ 5 (by rw [flatMap_length _ 1 fun _ => rfl, Vector.length_toList])] at h

/-- The summary that opens both views of Read Trips (R150, R206). -/
theorem summary_fields :
    Shows bs 0 1 (latchedCount s) ∧ flagAt bs 1 0 = s.trips.escalation.isSome ∧
    flagAt bs 1 1 = s.mstop ∧ field bs 1 1 < 4 ∧
    (s.trips.escalation = none → Shows bs 2 1 0) ∧
    (s.trips.escalation = some .stopUnconfirmed → Shows bs 2 1 1) ∧
    (s.trips.escalation = some .openFailed → Shows bs 2 1 2) ∧
    Shows bs 3 1 (stopRank s.trips.stopWanted) ∧ Shows bs 4 1 (stopRank s.trips.stopSent) ∧
    Shows bs 5 1 (confirmCode s.trips.confirm) ∧
    (s.trips.confirmT = none → field bs 6 2 = 0xFFFF) ∧
    (∀ t : Timer, s.trips.confirmT = some t → Shows bs 6 2 (t.load - (s.now - t.start).toNat)) ∧
    (∀ x : Fin 8, flagAt bs 8 x.val = s.trips.pressed[x]) ∧
    Shows bs 9 1 (driveCode s.trips.driveEntry) ∧
    (∀ i : Stand, Shows bs (10 + i.val) 1 (driveCode s.trips.drive[i])) ∧
    ∀ z : Fin 5, Shows bs (15 + z.val) 1 s.trips.low[z] := by
  obtain ⟨hflag, hlt⟩ := flagByte (bs := bs) (o := 1) [s.trips.escalation.isSome, s.mstop]
    (summary_head s bs rest hbs fun _ => rfl) (by simp only [bit_toNat, flagsOf]; omega) (Nat.le_of_ble_eq_true rfl)
  obtain ⟨hline, -⟩ := flagByte (bs := bs) (o := 8) _ (summary_head s bs rest hbs fun _ => rfl)
    (lineSet_flags fun x => s.trips.pressed[x]) (Nat.le_of_ble_eq_true rfl)
  have hcause : Shows bs 2 1 (causeCode s.trips.escalation) :=
    Holds.shows (summary_head s bs rest hbs fun _ => rfl) (causeCode_lt _)
  obtain ⟨hstopped, hruns⟩ := timer_fields (bs := bs) (o := 6) (now := s.now) (t := s.trips.confirmT)
    (summary_head s bs rest hbs fun _ => rfl)
  refine ⟨Holds.shows (summary_head s bs rest hbs fun _ => rfl) (latchedCount_lt s), hflag 0 (by decide),
    hflag 1 (by decide), hlt, fun h => ?_, fun h => ?_, fun h => ?_,
    Holds.shows (summary_head s bs rest hbs fun _ => rfl) (stopRank_lt _),
    Holds.shows (summary_head s bs rest hbs fun _ => rfl) (stopRank_lt _),
    Holds.shows (summary_head s bs rest hbs fun _ => rfl) (confirmCode_lt _), hstopped, hruns, fun x => ?_,
    Holds.shows (summary_head s bs rest hbs fun _ => rfl) (driveCode_lt _), fun i => ?_, fun z => ?_⟩
  · rw [h] at hcause
    exact hcause
  · rw [h] at hcause
    exact hcause
  · rw [h] at hcause
    exact hcause
  · have hx : allLines[x.val]? = some x := by
      revert x
      decide
    rw [hline x.val x.isLt, List.getD_eq_getElem?_getD, List.getElem?_map, hx]
    rfl
  · have hi : s.trips.drive.toList[i.val]? = some s.trips.drive[i] := by simp
    obtain ⟨more, hmore⟩ := record_drop (fun d => be 1 (driveCode d)) 1 (fun _ => rfl) hi (summary_drives s bs rest hbs)
    rw [Nat.one_mul] at hmore
    exact Holds.shows (holds_drop hmore (o := 0) rfl) (driveCode_lt _)
  · have hz : s.trips.low.toList[z.val]? = some s.trips.low[z] := by simp
    obtain ⟨more, hmore⟩ := record_drop (fun c => beSat 1 c) 1 (fun _ => rfl) hz (summary_low s bs rest hbs)
    rw [Nat.one_mul] at hmore
    exact Holds.showsSat (holds_drop hmore (o := 0) rfl)
end

section
variable (s : State)

/-- The LATCHED view (R150, R206). -/
theorem latchedReply_fields (hr : RanksSound s) (ks : List Source) (hks : ks.length ≤ 12) :
    let ls := latchedReply s ks
    ls.length = 21 + 15 * ks.length ∧ Shows ls 20 1 ks.length ∧
    ∀ (j : Nat) (k : Source), ks[j]? = some k →
      let r := ls.drop (21 + 15 * j)
      let e := s.trips.records[k]
      Shows r 0 1 k.val ∧ Shows r 1 1 (classCode e.cls) ∧ Shows r 2 1 e.affected.toNat ∧
      (e.latched = true → Shows r 3 1 e.rank) ∧ Shows r 4 4 e.time.toNat ∧ Shows r 8 1 e.count ∧
      Shows r 9 6 e.detail := by
  intro ls
  have hls : ls = tripSummary s ++ (be 1 ks.length ++ (ks.flatMap (tripRecordBytes s) ++ [])) := by
    rw [List.append_nil]
    exact List.append_assoc _ _ _
  have hcount : ls.drop 20 = be 1 ks.length ++ (ks.flatMap (tripRecordBytes s) ++ []) := by
    rw [hls]
    exact drop_front _ _ 20 (tripSummary_length s)
  have hrecords : ls.drop 21 = ks.flatMap (tripRecordBytes s) ++ [] := by
    have h := congrArg (List.drop 1) hcount
    rwa [List.drop_drop, drop_front _ _ 1 rfl] at h
  refine ⟨?_, Holds.shows (holds_drop hcount (o := 0) rfl) (show ks.length < 256 by omega),
    fun j k hk => ?_⟩
  · rw [hls, List.length_append, List.length_append, List.length_append, tripSummary_length, be_length,
      flatMap_length _ 15 fun _ => rfl, List.length_nil]
    omega
  · intro r e
    obtain ⟨more, hmore⟩ : ∃ more, r = tripRecordBytes s k ++ more :=
      record_drop (tripRecordBytes s) 15 (fun _ => rfl) hk hrecords
    have hcountk := latchedCount_lt s
    rw [hmore]
    refine ⟨Holds.shows rfl (show k.val < 256 by omega), Holds.shows rfl (classCode_lt _),
      Holds.shows rfl (Nat.lt_of_lt_of_le e.affected.isLt (by decide)), fun hl => ?_, Holds.shows rfl e.time.isLt,
      Holds.showsSat rfl, Holds.showsSat rfl⟩
    obtain ⟨-, hrank, -⟩ := hr.range k hl
    exact Holds.shows rfl (show s.trips.records[k].rank < 256 by omega)

/-- The CONFIG view (R150, R206). -/
theorem configReply_fields (k : Source) :
    Shows (configReply s) (20 + 2 * k.val) 1 (classCode s.trips.records[k].cls) ∧
    Shows (configReply s) (21 + 2 * k.val) 1 s.trips.records[k].affected.toNat := by
  have hrecords : (configReply s).drop 20 =
      (s.trips.records.toList.flatMap fun r => be 1 (classCode r.cls) ++ be 1 r.affected.toNat) ++ [] := by
    rw [List.append_nil]
    exact drop_front _ _ 20 (tripSummary_length s)
  have hk : s.trips.records.toList[k.val]? = some s.trips.records[k] := by simp
  obtain ⟨more, hmore⟩ := record_drop (fun r : TripRecord => be 1 (classCode r.cls) ++ be 1 r.affected.toNat) 2
    (fun _ => rfl) hk hrecords
  have h21 : 21 + 2 * k.val = 20 + 2 * k.val + 1 := by omega
  rw [h21]
  exact ⟨Holds.shows (holds_drop hmore (o := 0) rfl) (classCode_lt _),
    Holds.shows (holds_drop hmore (o := 1) rfl) (Nat.lt_of_lt_of_le s.trips.records[k].affected.isLt (by decide))⟩
end

end Sys2Proof.Machine
end

section
/-! The statement about the read-outs. -/

open Sys2Proof Sys2Proof.Machine

/-- Settles O24: each read-out as the run of its chunks, and each chunk at its offset. -/
theorem readoutFields : Obligations.ReadoutFields := by
  unfold Obligations.ReadoutFields
  refine ⟨⟨rfl, rfl, rfl, rfl, rfl, rfl, rfl, rfl, rfl, rfl, rfl, ⟨rfl, rfl, fun _ => rfl, fun _ => rfl⟩, rfl⟩,
    eventBytes_fields, demandBlock_fields, fun s hb hrun hranks => ⟨standReadout_fields s, cellsReply_fields s hb hrun,
    gaugesReply_fields s, fun p => ⟨productEntry_fields s p hb, productTable_entry s p⟩, productTable_fields s hb, ?_,
    fun ks hks => ?_⟩⟩
  · obtain ⟨h1, h2, h3, h4, h5, h6, h7, h8, h9, h10, h11⟩ := nodesReply_link s
    obtain ⟨h12, h13, h14, h15⟩ := nodesReply_slots s
    obtain ⟨h16, h17⟩ := nodesReply_item s
    exact ⟨h1, h2, h3, h4, h5, h6, h7, h8, h9, h10, h11, h12, h13, h14, h15, h16, h17,
      Holds.showsSat (nodesReply_head s fun _ => rfl), Holds.showsSat (nodesReply_head s fun _ => rfl),
      Holds.showsSat (nodesReply_head s fun _ => rfl), Holds.showsSat (nodesReply_head s fun _ => rfl),
      Holds.showsSat (nodesReply_head s fun _ => rfl), nodesReply_node s hb⟩
  · obtain ⟨hlen, hcount, hrecords⟩ := latchedReply_fields s hranks ks hks
    refine ⟨hlen, hcount, hrecords, configReply_fields s, fun bs hbs => ?_⟩
    simp only [List.mem_cons, List.not_mem_nil, or_false] at hbs
    obtain rfl | rfl := hbs
    · exact summary_fields s (latchedReply s ks) _ (List.append_assoc _ _ _)
    · exact summary_fields s (configReply s) _ rfl
end
